-- ==== Sys2Proof/Word.lean ====
section
/-! DEFINITION. The part's words: blocks, octets, wrapping counters, and the small fixed families (eight lanes,
four channels or banks, two groups) with their one read and one write. -/

namespace Sys2Proof

/-- A 64-bit block; bit 0 is sent first (00_scope, Blocks, slots and frames). -/
abbrev Block := BitVec 64
abbrev Octet := BitVec 8
/-- A frame sequence or window number: 0..65535, wrapping. -/
abbrev FrameSeq := BitVec 16
/-- A tick counter value: 0..2^32 - 1, wrapping (R77). -/
abbrev Tick := BitVec 32
/-- The stages of a PRBS generator, stage j + 1 in bit j (R20). -/
abbrev Stages := BitVec 31
abbrev LaneNo := Fin 8
abbrev ChanNo := Fin 4
abbrev BankNo := Fin 4

/-- One value for each of the eight lanes (or logical lane ids). -/
structure Eight (α : Type) where
  (e0 e1 e2 e3 e4 e5 e6 e7 : α)
deriving DecidableEq, Repr

def Eight.get {α : Type} (v : Eight α) (i : Fin 8) : α :=
  match i with
  | 0 => v.e0 | 1 => v.e1 | 2 => v.e2 | 3 => v.e3
  | 4 => v.e4 | 5 => v.e5 | 6 => v.e6 | 7 => v.e7

def Eight.set {α : Type} (v : Eight α) (i : Fin 8) (x : α) : Eight α :=
  match i with
  | 0 => { v with e0 := x } | 1 => { v with e1 := x } | 2 => { v with e2 := x } | 3 => { v with e3 := x }
  | 4 => { v with e4 := x } | 5 => { v with e5 := x } | 6 => { v with e6 := x } | 7 => { v with e7 := x }

def Eight.all {α : Type} (x : α) : Eight α := ⟨x, x, x, x, x, x, x, x⟩

def Eight.map {α β : Type} (f : α → β) (v : Eight α) : Eight β :=
  ⟨f v.e0, f v.e1, f v.e2, f v.e3, f v.e4, f v.e5, f v.e6, f v.e7⟩

def Eight.gen {α : Type} (f : Fin 8 → α) : Eight α := ⟨f 0, f 1, f 2, f 3, f 4, f 5, f 6, f 7⟩

/-- The eight lane numbers in rising order. -/
def lanesAll : List LaneNo := [0, 1, 2, 3, 4, 5, 6, 7]

/-- One value for each of four injection channels, memory banks or alarm profiles. -/
structure Four (α : Type) where
  (f0 f1 f2 f3 : α)
deriving DecidableEq, Repr

def Four.get {α : Type} (v : Four α) (i : Fin 4) : α :=
  match i with
  | 0 => v.f0 | 1 => v.f1 | 2 => v.f2 | 3 => v.f3

def Four.set {α : Type} (v : Four α) (i : Fin 4) (x : α) : Four α :=
  match i with
  | 0 => { v with f0 := x } | 1 => { v with f1 := x } | 2 => { v with f2 := x } | 3 => { v with f3 := x }

def Four.all {α : Type} (x : α) : Four α := ⟨x, x, x, x⟩

def Four.map {α β : Type} (f : α → β) (v : Four α) : Four β := ⟨f v.f0, f v.f1, f v.f2, f v.f3⟩

def chansAll : List ChanNo := [0, 1, 2, 3]

/-- The two groups of lanes (R59). -/
inductive GroupId
  | a | b
deriving DecidableEq, Repr

/-- One value for each of the two groups. -/
structure GPair (α : Type) where
  (ga gb : α)
deriving DecidableEq, Repr

def GPair.get {α : Type} (v : GPair α) : GroupId → α
  | .a => v.ga | .b => v.gb

def GPair.set {α : Type} (v : GPair α) (g : GroupId) (x : α) : GPair α :=
  match g with
  | .a => { v with ga := x } | .b => { v with gb := x }

def GPair.map {α β : Type} (f : α → β) (v : GPair α) : GPair β := ⟨f v.ga, f v.gb⟩

end Sys2Proof
end

