-- ==== Sys2Proof/Syntax.lean ====
section
/-! DEFINITION. The named values of the spec, the operands as they are written (before any range check), and
`Instr`: one constructor for each row of spec/opcode_table.json. -/

namespace Sys2Proof

inductive Framing
  | framed | raw
deriving DecidableEq, Repr

/-- R36. -/
inductive RxMode
  | check | pass | monitor
deriving DecidableEq, Repr

/-- R27. -/
inductive TxMode
  | pattern | pass | echo
deriving DecidableEq, Repr

/-- R131. -/
inductive CapturePolicy
  | off | errors | events | all
deriving DecidableEq, Repr

/-- The trigger kinds with their values (R135). -/
inductive Trigger
  | none | firstError | blockAtLeast (n : Nat) | frameSeq (s : Nat) | syncLoss
deriving DecidableEq, Repr

inductive TrigAction
  | hold | notice
deriving DecidableEq, Repr

/-- Window spec of a lane or group descriptor (R70, R142). -/
inductive WinSpec
  | frames (n : Nat) | ticks (n : Nat) | openEnded
deriving DecidableEq, Repr

/-- R18. -/
inductive PatKind
  | prbs7 | prbs9 | prbs15 | prbs23 | prbs31 | user
deriving DecidableEq, Repr

/-- A decimal ratio (m, x), value m × 10^-(x+2) (R101). -/
structure Decimal where
  m : Nat
  x : Nat
deriving DecidableEq, Repr

inductive ChanMode
  | handshake | continuous
deriving DecidableEq, Repr

inductive SupAction
  | none | release | hold
deriving DecidableEq, Repr

inductive InjMode
  | single | rate | schedule
deriving DecidableEq, Repr

inductive InjKind
  | payload | marker
deriving DecidableEq, Repr

/-- Activation sources with their periods (R112, R114). -/
inductive InjSource
  | command | ticks (n : Nat) | frames (n : Nat) | pin | continuous
deriving DecidableEq, Repr

inductive ArmOp
  | arm | disarm
deriving DecidableEq, Repr

inductive BlockType
  | data | control
deriving DecidableEq, Repr

/-! ### Table entries as written

An `Option` value of `none` stands for a written value that is not one of its field's kind. -/

structure LaneMapArg where
  txId : Nat
  rxId : Nat
  follow : Option Bool
  group : Option (Option GroupId)
deriving DecidableEq, Repr

structure LaneDescArg where
  framing : Option Framing
  rxMode : Option RxMode
  confirm : Nat
  heavy : Nat
  lossRun : Nat
  autoResync : Option Bool
  countHeld : Option Bool
  policy : Option CapturePolicy
  trigger : Option Trigger
  action : Option TrigAction
  spec : Option WinSpec
  rep : Option Bool
  profile : Nat
  notices : Option Bool
deriving DecidableEq, Repr

structure PatDescArg where
  kind : Option PatKind
  invert : Bool
  seed : Nat
  start : Nat
  len : Nat
deriving DecidableEq, Repr

structure SchedArg where
  gap : Nat
  blocks : Nat
  bits : Nat
  pos : Nat
deriving DecidableEq, Repr

structure ProfileArg where
  degradeSet : Decimal
  degradeClear : Decimal
  failSet : Decimal
  failClear : Decimal
  target : Decimal
deriving DecidableEq, Repr

structure GroupDescArg where
  spec : Option WinSpec
  rep : Option Bool
  profile : Nat
  notices : Option Bool
deriving DecidableEq, Repr

structure ChanArg where
  lane : Nat
  mode : Option ChanMode
  enable : Option Bool
  period : Nat
  action : Option SupAction
deriving DecidableEq, Repr

/-- The settings an ARM_CHANNEL carries (R112). -/
structure ArmArg where
  mode : Option InjMode
  targets : Eight Bool
  kind : Option InjKind
  bits : Nat
  pos : Nat
  source : Option InjSource
  count : Nat
  rateK : Nat
  schedFirst : Nat
  schedLast : Nat
  notify : Option Bool
deriving DecidableEq, Repr

/-- The channel record a SEND_PEER carries (R156). -/
structure PeerArg where
  kind : Nat
  code : Octet
  tag : Octet
  target : Octet
  body : List Octet
deriving DecidableEq, Repr

structure SupervisorArg where
  period : Nat
  action : Option SupAction
deriving DecidableEq, Repr

/-- A WRITE_ENTRY's index and entry (R173). -/
structure WriteArg (α : Type) where
  index : Nat
  entry : α
deriving DecidableEq, Repr

structure DumpArg where
  first : Nat
  count : Nat
deriving DecidableEq, Repr

/-- One section of a LOAD_IMAGE body: the table by constructor, the first index and the entries (R172). -/
inductive ImageSection
  | laneMap (first : Nat) (es : List LaneMapArg)
  | laneDesc (first : Nat) (es : List LaneDescArg)
  | patDesc (first : Nat) (es : List PatDescArg)
  | patMem (first : Nat) (es : List Block)
  | sched (first : Nat) (es : List SchedArg)
  | conf (first : Nat) (es : List Nat)
  | profiles (first : Nat) (es : List ProfileArg)
  | groupDesc (first : Nat) (es : List GroupDescArg)
  | chan (first : Nat) (es : List ChanArg)
  | permit (first : Nat) (es : List (List Octet))
  | unknownTable (table : Nat)
deriving DecidableEq, Repr

/-- How a command's body reads. The spec gives the values of a command's parameters but not their places in the
body (log entry 2), so the row of the command carries the reading: a length that the parameters do not need
(R167, BAD_LENGTH), or the parameters. -/
inductive BodyReading (α : Type)
  | wrongLength
  | params (a : α)
deriving DecidableEq, Repr

/-- The rows of spec/opcode_table.json, in its order. -/
inductive Instr
  | hardReset
  | resetRelease
  | tickArrival
  | quietAssertion
  | quietRelease
  | injectArrival
  | egressReady
  | ingressBlock (ty : BlockType) (tag : LaneNo) (b : Block)
  | transmitSlot
  | rateCountdownExpiry (c : ChanNo)
  | scheduleGapExpiry (c : ChanNo)
  | ticksActivationExpiry (c : ChanNo)
  | framesActivationExpiry (c : ChanNo)
  | receiveBlock (l : LaneNo) (b : Block)
  | pseudoFrameBoundary (l : LaneNo)
  | stepCountExpiry (l : LaneNo)
  | laneWindowLengthClose (l : LaneNo)
  | ratioJobComplete
  | supervisorExpiry
  | status
  | deviceReset
  | loadImage (p : BodyReading (List ImageSection))
  | dumpTables (p : BodyReading DumpArg)
  | readEntry (p : BodyReading Nat)
  | writeLaneMapEntry (p : BodyReading (WriteArg LaneMapArg))
  | writeLaneDescriptor (p : BodyReading (WriteArg LaneDescArg))
  | writePatternDescriptor (p : BodyReading (WriteArg PatDescArg))
  | writePatternMemory (p : BodyReading (WriteArg Block))
  | writeScheduleEntry (p : BodyReading (WriteArg SchedArg))
  | writeConfidenceEntry (p : BodyReading (WriteArg Nat))
  | writeAlarmProfile (p : BodyReading (WriteArg ProfileArg))
  | writeGroupDescriptor (p : BodyReading (WriteArg GroupDescArg))
  | writeChannelSettings (p : BodyReading (WriteArg ChanArg))
  | writePermitSet (p : BodyReading (WriteArg (List Octet)))
  | clearMemoryFault
  | startTx
  | stopTx
  | setTxMode (p : BodyReading (Option TxMode))
  | startRx
  | stopRx
  | resync
  | restartLane
  | readLane
  | openWindow
  | closeWindow
  | readHistory (p : BodyReading Nat)
  | readRun
  | clearRun
  | openGroupWindow
  | closeGroupWindow
  | readGroup
  | armChannel (p : BodyReading ArmArg)
  | disarmChannel
  | suspendChannel
  | runChannel
  | fire
  | quietAll
  | readCapture (p : BodyReading Nat)
  | clearCapture
  | armTrigger (p : BodyReading (Option ArmOp))
  | holdLane
  | resumeLane
  | stepFrame
  | saveContext
  | snapshotContext
  | restoreContext
  | sendPeer (p : BodyReading PeerArg)
  | setSupervisor (p : BodyReading SupervisorArg)
  | unknownCommand
deriving DecidableEq, Repr

end Sys2Proof
end

