-- ==== Sys2Proof/Machine/Bits.lean ====
section
/-! DEFINITION. Bit fields and octets of blocks, and the order of frame sequences. -/

namespace Sys2Proof.Machine

/-- Octet k of a block: bits 8k..8k+7 (11.7). -/
def octetOf (b : Block) (k : Nat) : Octet := b.extractLsb' (8 * k) 8

/-- A field of `n` bits holding `v` with its least significant bit at bit `lo` (11.7). -/
def field (lo n v : Nat) : Block := BitVec.ofNat 64 (v % 2 ^ n) <<< lo

/-- The value of the field of `n` bits at bit `lo`. -/
def fieldAt (b : Block) (lo n : Nat) : Nat := b.toNat / 2 ^ lo % 2 ^ n

def flag (lo : Nat) (v : Bool) : Block := if v then field lo 1 1 else 0

/-- The eight octets of a block, octet 0 first. -/
def blockOctets (b : Block) : List Octet :=
  [octetOf b 0, octetOf b 1, octetOf b 2, octetOf b 3, octetOf b 4, octetOf b 5, octetOf b 6, octetOf b 7]

/-- A block from up to eight octets, the first in octet 0; octets not given are 0 (R160). -/
def octetsBlock : List Octet → Block
  | [] => 0
  | o :: os => (octetsBlock os <<< 8) ||| o.zeroExtend 64

/-- The octets in blocks of eight, the last filled up with 0 (R160). `fuel` bounds the number of blocks. -/
def packOctets : Nat → List Octet → List Block
  | 0, _ => []
  | _ + 1, [] => []
  | fuel + 1, o :: os => octetsBlock ((o :: os).take 8) :: packOctets fuel ((o :: os).drop 8)

/-- How many of the low `n` bits of a block are 1. -/
def countBits (b : Block) : Nat → Nat
  | 0 => 0
  | n + 1 => countBits b n + (b.getLsbD n).toNat

/-- The number of bit positions in which two blocks differ (R43). -/
def bitErrors (received expected : Block) : Nat := countBits (received ^^^ expected) 64

/-- Sequence `a` is ahead of sequence `b`: (a − b) modulo 65536 lies in 1..32767 (R66). -/
def ahead (a b : FrameSeq) : Bool := 1 ≤ (a - b).toNat && (a - b).toNat ≤ 32767

/-- The lane a target octet or written number names, if it is in 0..7. -/
def laneOf (n : Nat) : Option LaneNo := if h : n < 8 then some ⟨n, h⟩ else none

/-- The number in 0..3 a target octet or written number names, if it is one. -/
def fourOf (n : Nat) : Option (Fin 4) := if h : n < 4 then some ⟨n, h⟩ else none

end Sys2Proof.Machine
end

