-- ==== Sys2Proof/Machine/State.lean ====
section
/-! DEFINITION. The part's state as plain data, after the inventory: the stored table entries, what each block of the
part holds, the records and notices that wait in its queues, and the state after a hard reset. -/

namespace Sys2Proof.Machine

/-! ### Stored table entries -/

/-- R59. -/
structure LaneMapEntry where
  txId : LaneNo
  rxId : LaneNo
  follow : Bool
  group : Option GroupId
deriving DecidableEq, Repr

/-- R142. -/
structure LaneDesc where
  framing : Framing
  rxMode : RxMode
  confirm : Nat
  heavy : Nat
  lossRun : Nat
  autoResync : Bool
  countHeld : Bool
  policy : CapturePolicy
  trigger : Trigger
  action : TrigAction
  spec : WinSpec
  rep : Bool
  profile : Fin 4
  notices : Bool
deriving DecidableEq, Repr

/-- R18. -/
structure PatDesc where
  kind : PatKind
  invert : Bool
  seed : Nat
  start : Nat
  len : Nat
deriving DecidableEq, Repr

/-- A pattern memory entry: its data, and whether the data agrees with the stored check (R23, log entry 13). -/
structure PatWord where
  data : Block
  agrees : Bool
deriving DecidableEq, Repr

/-- Pattern memory: (index, entry) pairs, indexes strictly rising; an unlisted index holds 64 zero bits with a
matching check, its hard-reset content (R23). -/
abbrev PatMem := List (Nat × PatWord)

abbrev SchedEntry := SchedArg
abbrev AlarmProfile := ProfileArg

/-- R70. -/
structure GroupDesc where
  spec : WinSpec
  rep : Bool
  profile : Fin 4
  notices : Bool
deriving DecidableEq, Repr

/-- R152. -/
structure ChanSettings where
  lane : LaneNo
  mode : ChanMode
  enable : Bool
  period : Nat
  action : SupAction
deriving DecidableEq, Repr

/-! ### Counters and alarms -/

/-- A capped counter with its saturated flag (R34). -/
structure Capped where
  n : Nat
  sat : Bool
deriving DecidableEq, Repr

/-- A set of counts (R53) with its saturated flag. -/
structure Counts where
  bits : Nat
  errors : Nat
  erroredBlocks : Nat
  erroredFrames : Nat
  syncLosses : Nat
  unsynced : Nat
  held : Nat
  markerErrors : Nat
  injBits : Nat
  injBlocks : Nat
  sat : Bool
deriving DecidableEq, Repr

/-- All counts zero, the saturated flag clear. -/
def Counts.zero : Counts := ⟨0, 0, 0, 0, 0, 0, 0, 0, 0, 0, false⟩

inductive Alarm
  | clear | degraded | failed
deriving DecidableEq, Repr

/-- The alarm a marker carries (R5, R6). -/
inductive FarAlarm
  | clear | degraded | failed | unknown
deriving DecidableEq, Repr

/-! ### Transmit side -/

inductive TxState
  | idle | running
deriving DecidableEq, Repr

/-- A lane's transmitter (R27), its generator (R20, R22), its transmit pass buffer and counters (R34), and the framing
in force since the last transmit frame boundary (R3). -/
structure Tx where
  framing : Framing
  state : TxState
  mode : TxMode
  pendStart : Bool
  pendStop : Bool
  pendMode : Option TxMode
  stages : Stages
  phase : Nat
  buf : List Block
  underrun : Capped
  drops : Capped
deriving DecidableEq, Repr

/-! ### Receive side -/

inductive AlState
  | seek | trial | aligned
deriving DecidableEq, Repr

/-- R16. -/
inductive FarView
  | unknown
  | known (lock : Bool) (alarm : FarAlarm)
deriving DecidableEq, Repr

/-- A lane's marker aligner (R9). -/
structure Aligner where
  state : AlState
  pos : Nat
  trial : Nat
  miss : Nat
  seq : FrameSeq
  errs : Capped
  far : FarView
deriving DecidableEq, Repr

inductive CkState
  | off | hunt | confirm | locked | lost
deriving DecidableEq, Repr

inductive HuntReason
  | waitAlign | waitSeed | waitPhase | noPhaseSource
deriving DecidableEq, Repr

inductive LossKind
  | none | block | marker
deriving DecidableEq, Repr

inductive CapKind
  | bitErrors | syncLoss | markerError | laneIdMismatch | trigger
deriving DecidableEq, Repr

/-- A capture entry (R130). -/
structure CapEntry where
  lane : LaneNo
  kind : CapKind
  seq : Option FrameSeq
  pos : Nat
  bits : Option Nat
  tick : Tick
deriving DecidableEq, Repr

/-- A compared block: its error count, its frame sequence (absent on a RAW lane), its position (in the frame, or the
capture position of a RAW lane), its tick, whether a BIT_ERRORS entry is wanted for it (R46), and the frames it arrived
in as the window and the run totals number them (log entry 21). -/
structure Checked where
  errs : Nat
  seq : Option FrameSeq
  pos : Nat
  tick : Tick
  wants : Bool
  winTag : Nat
  runTag : Nat
deriving DecidableEq, Repr

/-- What the pending heavy run lists: heavy blocks and held capture entries, in order (R46). -/
inductive RunItem
  | heavy (r : Checked)
  | entry (c : CapEntry)
deriving DecidableEq, Repr

/-- A lane's pattern checker (R35). -/
structure Checker where
  state : CkState
  reason : HuntReason
  stages : Stages
  phase : Nat
  confirmRun : Nat
  run : List RunItem
  sinceLock : BitVec 32
  lastLoss : LossKind
deriving DecidableEq, Repr

/-- A lane's window (R78); while `isOpen` is false only `nextNumber` and `banks` have a meaning. `errTag` is the last
frame found errored in this count and `tag` the number of the current frame (R51, log entry 21). -/
structure Win where
  isOpen : Bool
  nextNumber : FrameSeq
  number : FrameSeq
  counts : Counts
  frames : Nat
  ticks : Nat
  pseudo : Nat
  openTick : Tick
  first : Option FrameSeq
  last : Option FrameSeq
  suspect : Bool
  banks : Four Bool
  errTag : Option Nat
  tag : Nat
deriving DecidableEq, Repr

/-- A lane's run totals (R88). -/
structure RunTotals where
  counts : Counts
  startTick : Tick
  pseudo : Nat
  errTag : Option Nat
  tag : Nat
deriving DecidableEq, Repr

inductive HoldState
  | run | held | stepping
deriving DecidableEq, Repr

inductive IdReason
  | mismatch | duplicate
deriving DecidableEq, Repr

/-- The ID_MISMATCH condition when present (R63). -/
structure IdMismatch where
  reason : IdReason
  received : LaneNo
deriving DecidableEq, Repr

/-- What the group aligner keeps for a member lane (R64, R71). -/
structure Member where
  contributing : Bool
  lag : Option Nat
  skew : Bool
  greatestLag : Nat
  whole : Bool
deriving DecidableEq, Repr

/-- The remote action set's entries of one lane (R161). -/
structure RemoteActs where
  echoSet : Option TxMode
  txStarted : Bool
  rxStarted : Bool
deriving DecidableEq, Repr

/-! ### Window records and the ratio engine -/

inductive Source
  | lane (l : LaneNo)
  | group (g : GroupId)
deriving DecidableEq, Repr

inductive CloseReason
  | length | command | stop | restart
deriving DecidableEq, Repr

inductive RatioStatus
  | pending | done | skipped | undefined
deriving DecidableEq, Repr

inductive Verdict
  | proven | exceeded | undecided | unordered
deriving DecidableEq, Repr

inductive Ratio
  | zero
  | dec (d : Decimal)
deriving DecidableEq, Repr

structure Bound where
  d : Decimal
  clamped : Bool
deriving DecidableEq, Repr

/-- A window record (R83, R91). `serial` is the model's own identification of the record (log entry 22);
`members`, `whole` and `lags` are a group record's. -/
structure WinRecord where
  source : Source
  number : FrameSeq
  reason : CloseReason
  openTick : Tick
  closeTick : Tick
  frames : Nat
  first : Option FrameSeq
  last : Option FrameSeq
  counts : Counts
  suspect : Bool
  incomplete : Bool
  status : RatioStatus
  ratio : Option Ratio
  bound : Option Bound
  verdict : Option Verdict
  alarmAfter : Option Alarm
  serial : Nat
  members : Eight Bool
  whole : Eight Bool
  lags : Eight Nat
deriving DecidableEq, Repr

/-- The inputs a ratio job captures at its start (R98). -/
structure JobInputs where
  errs : Nat
  bits : Nat
  u : Option Nat
  prof : AlarmProfile
deriving DecidableEq, Repr

/-- A ratio job (R96); `errs` and `bits` are E and N of the closed window, as its record was written at the close (R98, log
entry 56), and `inputs` is present while the job is in service. -/
structure Job where
  source : Source
  number : FrameSeq
  serial : Nat
  errs : Nat
  bits : Nat
  discard : Bool
  inputs : Option JobInputs
deriving DecidableEq, Repr

/-! ### A lane -/

/-- Everything the part holds for one physical lane. -/
structure Lane where
  tx : Tx
  al : Aligner
  ck : Checker
  win : Win
  hist : List WinRecord
  run : RunTotals
  alarm : Alarm
  alarmKnown : Bool
  hold : HoldState
  stepCount : Nat
  armed : Bool
  firstErr : Bool
  holdReq : Bool
  idm : Option IdMismatch
  mem : Member
  rxBuf : List Block
  rxDrops : Capped
  remote : RemoteActs
deriving DecidableEq, Repr

/-! ### Groups -/

/-- An entry of the frame flag ring (R68); `reported` are the lanes that have reported a boundary ahead of it. -/
structure RingEntry where
  seq : FrameSeq
  errored : Bool
  reported : Eight Bool
deriving DecidableEq, Repr

/-- An open group window (R71, R72). `s0` absent means S0 is undetermined; `past` are the lanes that have reported a
boundary ahead of the last sequence of the span. -/
structure GWin where
  number : FrameSeq
  spec : WinSpec
  rep : Bool
  notices : Bool
  openTick : Tick
  counts : Counts
  incomplete : Bool
  s0 : Option FrameSeq
  offset : Int
  past : Eight Bool
deriving DecidableEq, Repr

/-- R64, R91. -/
structure Group where
  leading : Option FrameSeq
  ring : List RingEntry
  win : Option GWin
  alarm : Alarm
  nextNumber : FrameSeq
  hist : List WinRecord
deriving DecidableEq, Repr

/-! ### Injection channels -/

inductive InjState
  | idle | waiting | active | suspended
deriving DecidableEq, Repr

inductive InjResume
  | waiting | active
deriving DecidableEq, Repr

/-- The loaded settings of a channel (R112). -/
structure InjSettings where
  mode : InjMode
  targets : Eight Bool
  kind : InjKind
  bits : Nat
  pos : Nat
  source : InjSource
  count : Nat
  rateK : Nat
  schedFirst : Nat
  schedLast : Nat
  notify : Bool
deriving DecidableEq, Repr

/-- One injection: its kind, its bits and its position (R113). -/
structure Injection where
  kind : InjKind
  bits : Nat
  pos : Nat
deriving DecidableEq, Repr

/-- An injection channel (R111). The enable and run flags follow from `state`. -/
structure InjChan where
  state : InjState
  settings : Option InjSettings
  remaining : Nat
  actCount : Nat
  rateLeft : Nat
  entry : Nat
  gap : Nat
  blocks : Nat
  runOver : Bool
  resume : InjResume
  deferred : Eight (Option Injection)
deriving DecidableEq, Repr

/-! ### Marker channel and supervisor -/

/-- A channel record (R155). -/
structure PeerRec where
  kind : Octet
  code : Octet
  tag : Octet
  target : Octet
  body : List Octet
deriving DecidableEq, Repr

/-- The marker channel's sender, receiver and queues (R154 to R159). `sendIdx` is the place in the head record of the
next unsent octet: the held one in HANDSHAKE mode. -/
structure Link where
  up : Bool
  sendToggle : Bool
  sendIdx : Nat
  lastTaken : Bool
  resume : Bool
  asm : List Octet
  skipping : Bool
  outbound : List PeerRec
  peerLost : Bool
deriving DecidableEq, Repr

/-- R162. -/
structure Supervisor where
  ticks : Nat
  armed : Bool
  warned : Bool
  last : Option (SupAction × Tick)
deriving DecidableEq, Repr

/-! ### Records and notices -/

inductive Origin
  | localPort | remote
deriving DecidableEq, Repr

/-- A command record in the command queue (R166); `mbz5` and `mbz6` are header octets 5 and 6 as received. -/
structure CmdRec where
  origin : Origin
  code : Octet
  tag : Octet
  target : Octet
  mbz5 : Octet
  mbz6 : Octet
  body : List Block
deriving DecidableEq, Repr

/-- The ingress assembly (R165). -/
inductive Ingress
  | idle
  | assembling (header : Block) (body : List Block) (due : Nat)
deriving DecidableEq, Repr

/-- Status codes (11.7, Codes). -/
inductive Status
  | ok | busy | notHeld | badTarget | badField | badLength | unconfigured | denied | noPhase | overflow | unknownCode
deriving DecidableEq, Repr

inductive SyncCause
  | locked | lossBlock | lossMarker | resync | stop | restart | rewrite | follow | save | restore
deriving DecidableEq, Repr

inductive EndReason
  | complete | aborted
deriving DecidableEq, Repr

inductive FaultReason
  | stray | kind | channelDown | channelFormat
deriving DecidableEq, Repr

/-- The notices of the part with what each carries (11.6). -/
inductive Notice
  | syncChange (l : LaneNo) (st : CkState) (cause : SyncCause) (t : Tick)
  | alarmChange (src : Source) (number : FrameSeq) (before after : Alarm) (ratio : Ratio) (t : Tick)
  | windowClosed (src : Source) (number : FrameSeq) (reason : CloseReason) (closeTick : Tick) (status : RatioStatus)
  | trigger (l : LaneNo) (kind : Trigger) (action : TrigAction) (seq : Option FrameSeq) (pos : Nat) (t : Tick)
  | stepDone (l : LaneNo) (seq : Option FrameSeq) (st : CkState) (t : Tick)
  | injectionEnd (c : ChanNo) (reason : EndReason) (remaining : Nat) (t : Tick)
  | memoryFault (bank : BankNo) (index : Nat) (l : LaneNo) (byChecker : Bool)
  | laneIdMismatch (l : LaneNo) (received rxId : LaneNo) (reason : IdReason) (t : Tick)
  | skewExcess (g : GroupId) (l : LaneNo) (lag : Nat) (leading : FrameSeq) (t : Tick)
  | supervisorWarning (entries : Nat) (action : SupAction) (t : Tick)
  | supervisorAction (action : SupAction) (lanes : Eight Bool) (t : Tick)
  | peerRecord (r : PeerRec)
  | protocolFault (reason : FaultReason) (tag : Option Octet)
  | commandDropped (tag code : Octet)
deriving DecidableEq, Repr

/-- A context record (R144), every field as its layout's bits hold it; `mbz` says whether every other part of the
layout is 0. -/
structure ContextRecord where
  version : Nat
  lane : Nat
  winPresent : Nat
  alarm : Nat
  ckState : Nat
  runSat : Bool
  winSat : Bool
  winSuspect : Bool
  number : FrameSeq
  frames : Nat
  ticks : Nat
  run : Counts
  win : Counts
  mbz : Bool
deriving DecidableEq, Repr

/-- A table entry as READ_ENTRY and DUMP_TABLES return it (R173). -/
inductive EntryView
  | empty
  | laneMap (e : LaneMapEntry)
  | laneDesc (e : LaneDesc)
  | patDesc (e : PatDesc)
  | patMem (data : Block) (mismatch : Bool)
  | sched (e : SchedEntry)
  | conf (u : Nat)
  | profile (e : AlarmProfile)
  | groupDesc (e : GroupDesc)
  | chan (e : ChanSettings)
  | permit (codes : List Octet)
deriving DecidableEq, Repr

/-- The snapshot of READ_LANE (R58), with the channel state on the management lane (R154). -/
structure LaneView where
  txState : TxState
  txMode : TxMode
  pendStart : Bool
  pendStop : Bool
  pendMode : Option TxMode
  underrun : Capped
  drops : Capped
  alState : AlState
  seq : FrameSeq
  errs : Capped
  far : FarView
  rxMode : Option RxMode
  ckState : CkState
  reason : Option HuntReason
  confirmRun : Nat
  heavyBlocks : Nat
  sinceLock : BitVec 32
  lastLoss : LossKind
  rxId : Option LaneNo
  hold : HoldState
  armed : Bool
  idm : Option IdMismatch
  skew : Bool
  lag : Option Nat
  greatestLag : Nat
  window : Option FrameSeq
  alarm : Alarm
  alarmKnown : Bool
  rxHeld : Nat
  rxDrops : Capped
  channelUp : Option Bool
deriving DecidableEq, Repr

/-- The conditions of R65 in the order there given. -/
inductive ContribFail
  | notAligned | notLocked | held | skewExcess
deriving DecidableEq, Repr

/-- A member lane in READ_GROUP (R76). -/
structure MemberView where
  lane : LaneNo
  present : Bool
  contributing : Bool
  failing : Option ContribFail
  lag : Option Nat
  skew : Bool
  greatestLag : Nat
  whole : Bool
  idm : Option IdMismatch
deriving DecidableEq, Repr

/-- The snapshot of READ_GROUP (R76); a ring entry is given with the lanes that have passed it. -/
structure GroupView where
  desc : Option GroupDesc
  leading : Option FrameSeq
  alarm : Alarm
  members : List MemberView
  ring : List (FrameSeq × Bool × Eight Bool)
  win : Option GWin
deriving DecidableEq, Repr

/-- What STATUS returns (R174). -/
structure StatusView where
  configured : Bool
  tick : Tick
  memFault : Four Bool
  captured : Nat
  captureOver : Bool
  channels : Four InjChan
  channelUp : Bool
  supActive : Bool
  supTicks : Nat
  supArmed : Bool
  supWarned : Bool
  supAction : Option SupAction
  supLast : Option (SupAction × Tick)
  remote : Eight RemoteActs
  commands : Nat
  egressRecords : Nat
  outbound : Nat
  noticesLost : Bool
  peerLost : Bool
deriving DecidableEq, Repr

/-- The body of a response or notice: what it carries. -/
inductive Body
  | empty
  | history (rs : List WinRecord)
  | capture (es : List CapEntry) (overflow : Bool) (left : Nat)
  | context (c : ContextRecord)
  | status (v : StatusView)
  | lane (v : LaneView)
  | group (v : GroupView)
  | runTotals (c : Counts) (start : Tick)
  | entry (e : EntryView)
  | entries (es : List EntryView)
  | tableIndex (table index : Nat)
  | failedCheck (n : Nat)
  | notice (n : Notice)
deriving DecidableEq, Repr

/-- A record of the egress record queue: its header's fields and its body (R168). -/
structure EgRec where
  isNotice : Bool
  code : Octet
  tag : Octet
  target : Octet
  status : Octet
  body : Body
deriving DecidableEq, Repr

/-- A block on the client egress with its type and lane tag (11 Client Port, R170). -/
structure EgBlock where
  ty : BlockType
  tag : LaneNo
  b : Block
deriving DecidableEq, Repr

/-! ### The part -/

/-- The state of the part. `pending` is the queue of the events that wait to be taken, oldest first. -/
structure State where
  resetPin : Bool
  quietPin : Bool
  configured : Bool
  tick : Tick
  laneMap : Eight (Option LaneMapEntry)
  laneDesc : Eight (Option LaneDesc)
  patDesc : Eight (Option PatDesc)
  patMem : PatMem
  sched : Vector (Option SchedEntry) 64
  conf : Vector (Option Nat) 32
  profiles : Four (Option AlarmProfile)
  groupDesc : GPair (Option GroupDesc)
  chan : Option ChanSettings
  permit : List Octet
  memFault : Four Bool
  slotPos : Nat
  frameSeq : FrameSeq
  firstFrame : Bool
  lanes : Eight Lane
  groups : GPair Group
  inj : Four InjChan
  jobs : List Job
  serial : Nat
  capture : List CapEntry
  captureOver : Bool
  link : Link
  sup : Supervisor
  ingress : Ingress
  cmdQ : List CmdRec
  waiting : Bool
  egress : List EgRec
  egressSent : Nat
  lastServed : LaneNo
  noticesLost : Bool
  slotOut : Option (Eight Block)
  egressOut : Option EgBlock
  pending : List Instr
deriving DecidableEq, Repr

/-- What could stop the part: nothing. A command that cannot act answers a status code and what the outside does wrong
is told by a notice (R165, R167), so no step of the spec ends in a fault. -/
inductive Fault
deriving DecidableEq, Repr

/-- Why the model would not run a row. -/
inductive Refusal
  /-- Raised by `exec` for a row that has no meaning yet (safe); no arm raises it. -/
  | notModelled (mnemonic : String)
deriving DecidableEq, Repr

abbrev Out := Host.Outcome State Fault Refusal

/-! ### Hard-reset values -/

def Capped.zero : Capped := ⟨0, false⟩

/-- R27, R34; the generator's stages and phase are DESIGN CHOICE (log entry 26). -/
def Tx.reset : Tx := ⟨.raw, .idle, .pattern, false, false, none, 0, 0, [], Capped.zero, Capped.zero⟩

/-- R9. -/
def Aligner.reset : Aligner := ⟨.seek, 0, 0, 0, 0, Capped.zero, .unknown⟩

/-- R35; hunt reason and expected-pattern state are DESIGN CHOICE (log entry 26). -/
def Checker.reset : Checker := ⟨.off, .waitAlign, 0, 0, 0, [], 0, .none⟩

/-- R78; the fields of the window that is not open are DESIGN CHOICE (log entry 26). -/
def Win.reset : Win :=
  ⟨false, 0, 0, Counts.zero, 0, 0, 0, 0, none, none, false, Four.all false, none, 0⟩

/-- R88. -/
def RunTotals.reset : RunTotals := ⟨Counts.zero, 0, 0, none, 0⟩

/-- R64; the whole flag is DESIGN CHOICE (log entry 26). -/
def Member.reset : Member := ⟨false, none, false, 0, false⟩

def RemoteActs.reset : RemoteActs := ⟨none, false, false⟩

/-- A lane after a hard reset (R6, R9, R27, R35, R63, R64, R78, R88, R135, R138, R161, R169). -/
def Lane.reset : Lane :=
  { tx := Tx.reset, al := Aligner.reset, ck := Checker.reset, win := Win.reset, hist := [], run := RunTotals.reset,
    alarm := .clear, alarmKnown := false, hold := .run, stepCount := 0, armed := false, firstErr := false,
    holdReq := false, idm := none, mem := Member.reset, rxBuf := [], rxDrops := Capped.zero,
    remote := RemoteActs.reset }

/-- R64, R86, R91. -/
def Group.reset : Group := ⟨none, [], none, .clear, 0, []⟩

/-- R111; the resume state is DESIGN CHOICE (log entry 26). -/
def InjChan.reset : InjChan := ⟨.idle, none, 0, 0, 0, 0, 0, 0, false, .waiting, Eight.all none⟩

/-- DOWN with empty queues (R154, R156); the toggles stand as an entry to UP sets them (log entry 26). -/
def Link.reset : Link := ⟨false, false, 0, true, false, [], false, [], false⟩

/-- R164. -/
def Supervisor.reset : Supervisor := ⟨0, false, false, none⟩

/-- The part right after a hard reset, the RESET pin released (R171 and the reset clause of each block's chapter). -/
def State.reset : State where
  resetPin := false
  quietPin := false
  configured := false
  tick := 0
  laneMap := Eight.all none
  laneDesc := Eight.all none
  patDesc := Eight.all none
  patMem := []
  sched := Vector.replicate 64 none
  conf := Vector.replicate 32 none
  profiles := Four.all none
  groupDesc := ⟨none, none⟩
  chan := none
  permit := []
  memFault := Four.all false
  slotPos := 0
  frameSeq := 0
  firstFrame := true
  lanes := Eight.all Lane.reset
  groups := ⟨Group.reset, Group.reset⟩
  inj := Four.all InjChan.reset
  jobs := []
  serial := 0
  capture := []
  captureOver := false
  link := Link.reset
  sup := Supervisor.reset
  ingress := .idle
  cmdQ := []
  waiting := false
  egress := []
  egressSent := 0
  lastServed := 7
  noticesLost := false
  slotOut := none
  egressOut := none
  pending := []

end Sys2Proof.Machine
end

