-- ==== Sys2Proof/Machine/Prbs.lean ====
section
/-! DEFINITION. PRBS generators (R20, R41). -/

namespace Sys2Proof.Machine

/-- The number of stages k of a PRBS kind (R20); 0 for USER. -/
def patOrder : PatKind → Nat
  | .prbs7 => 7 | .prbs9 => 9 | .prbs15 => 15 | .prbs23 => 23 | .prbs31 => 31 | .user => 0

/-- The tap stage t of a PRBS kind (R20). -/
def patTap : PatKind → Nat
  | .prbs7 => 6 | .prbs9 => 5 | .prbs15 => 14 | .prbs23 => 18 | .prbs31 => 28 | .user => 0

def patIsUser : PatKind → Bool
  | .user => true
  | _ => false

/-- One bit: the exclusive-or of stages k and t; every stage then takes the value of the stage below it and stage 1 the
new bit (R20). -/
def prbsBit (k t : Nat) (s : Stages) : Bool × Stages :=
  let new := s.getLsbD (k - 1) ^^ s.getLsbD (t - 1)
  (new, ((s <<< 1) ||| (if new then 1 else 0)) &&& BitVec.ofNat 31 (2 ^ k - 1))

/-- The next `n` output bits, the first produced in bit 0, and the stages after them. -/
def prbsRun (k t : Nat) : Nat → Stages → Block × Stages
  | 0, s => (0, s)
  | n + 1, s =>
    let r := prbsBit k t s
    let w := prbsRun k t n r.2
    ((w.1 <<< 1) ||| (if r.1 then 1 else 0), w.2)

/-- The next payload block before inversion, and the stages after it (R20). -/
def prbsBlock (kind : PatKind) (s : Stages) : Block × Stages := prbsRun (patOrder kind) (patTap kind) 64 s

/-- R41: stage j from block bit 64 − j, for j = 1..k. -/
def seedStages : Nat → Block → Stages
  | 0, _ => 0
  | k + 1, b => seedStages k b ||| (if b.getLsbD (63 - k) then BitVec.ofNat 31 (2 ^ k) else 0)

/-- A block complemented as a whole when `inv` is yes (R20, R22). -/
def inverted (inv : Bool) (b : Block) : Block := if inv then ~~~b else b

end Sys2Proof.Machine
end

