-- ==== Sys2Proof/Config.lean ====
section
/-! DEFINITION. What the manual leaves to the implementation: free values, constants with no body. Nothing can be proved of
the value of one of them, so a statement that holds in the model holds whatever they are. -/

namespace Sys2Proof.Config

open Sys2Proof.Machine

/-- The body length in blocks of a response or notice whose layout the Formats section (11.7) does not give
(log entry 3). -/
opaque openBodyLength : Body → Octet

/-- The blocks of such a body, by place (log entry 3). -/
opaque openBodyBlock : Body → Nat → Block

/-- The tag octet in a notice's header, which the manual does not give (log entry 4). -/
opaque noticeTag : Notice → Octet

/-- The target octet of a notice that has no source (log entry 4). -/
opaque noticeTarget : Notice → Octet

/-- How many entries of a table fit in the 255 body blocks of a DUMP_TABLES response, the entry layouts not being given
(log entry 5). -/
opaque dumpCapacity : Nat → Nat

end Sys2Proof.Config
end

