-- ==== Sys2Proof/Machine/Flags.lean ====
section
/-! DEFINITION. Capped counters and the saturated flags they set (R34, R53). -/

namespace Sys2Proof.Machine

/-- 2^56 − 64: bits N and injected bits. -/
def capBits : Nat := 72057594037927872
/-- 2^48 − 1: errors and block counts. -/
def capBlocks : Nat := 281474976710655
/-- 2^40 − 1: errored frames. -/
def capFrames : Nat := 1099511627775
/-- 2^32 − 1: sync losses, marker errors, elapsed counts and the counters of R17, R34 and R169. -/
def cap32 : Nat := 4294967295

/-- An addition that would pass the cap leaves the counter at the cap (R53). -/
def satAdd (cap v d : Nat) : Nat := min (v + d) cap

/-- The counter reaches its cap, exactly or by an addition cut short (R53). -/
def satHit (cap v d : Nat) : Bool := decide (cap ≤ v + d)

def Capped.add (c : Capped) (d : Nat) : Capped := ⟨satAdd cap32 c.n d, c.sat || satHit cap32 c.n d⟩

/-- A counted block (R51): 64 bits, `e` errors, an errored block if `e` > 0, and an errored frame if `newFrame`. -/
def Counts.addCounted (c : Counts) (e : Nat) (newFrame : Bool) : Counts :=
  { c with
    bits := satAdd capBits c.bits 64
    errors := satAdd capBlocks c.errors e
    erroredBlocks := satAdd capBlocks c.erroredBlocks (if e = 0 then 0 else 1)
    erroredFrames := satAdd capFrames c.erroredFrames newFrame.toNat
    sat := c.sat || satHit capBits c.bits 64 || satHit capBlocks c.errors e
      || satHit capBlocks c.erroredBlocks (if e = 0 then 0 else 1) || satHit capFrames c.erroredFrames newFrame.toNat }

/-- An errored frame alone (R69). -/
def Counts.addErroredFrame (c : Counts) : Counts :=
  { c with erroredFrames := satAdd capFrames c.erroredFrames 1, sat := c.sat || satHit capFrames c.erroredFrames 1 }

def Counts.addUnsynced (n : Nat) (c : Counts) : Counts :=
  { c with unsynced := satAdd capBlocks c.unsynced n, sat := c.sat || satHit capBlocks c.unsynced n }

def Counts.addSyncLoss (c : Counts) : Counts :=
  { c with syncLosses := satAdd cap32 c.syncLosses 1, sat := c.sat || satHit cap32 c.syncLosses 1 }

def Counts.addHeld (c : Counts) : Counts :=
  { c with held := satAdd capBlocks c.held 1, sat := c.sat || satHit capBlocks c.held 1 }

def Counts.addMarkerError (c : Counts) : Counts :=
  { c with markerErrors := satAdd cap32 c.markerErrors 1, sat := c.sat || satHit cap32 c.markerErrors 1 }

/-- R94: an applied injection that changed `n` bits. -/
def Counts.addInjected (n : Nat) (c : Counts) : Counts :=
  { c with
    injBits := satAdd capBits c.injBits n
    injBlocks := satAdd capBlocks c.injBlocks 1
    sat := c.sat || satHit capBits c.injBits n || satHit capBlocks c.injBlocks 1 }

/-- Some counter of the set stands at its cap (R150). -/
def Counts.atCap (c : Counts) : Bool :=
  c.bits == capBits || c.errors == capBlocks || c.erroredBlocks == capBlocks || c.erroredFrames == capFrames
    || c.syncLosses == cap32 || c.unsynced == capBlocks || c.held == capBlocks || c.markerErrors == cap32
    || c.injBits == capBits || c.injBlocks == capBlocks

end Sys2Proof.Machine
end

