-- ==== Sys2Proof/Machine/Formats.lean ====
section
/-! DEFINITION. The record formats of 11.7: header blocks, window records, capture entries, context records and channel
records, and the blocks of a response or notice body. -/

namespace Sys2Proof.Machine

def Status.code : Status → Octet
  | .ok => 0 | .busy => 1 | .notHeld => 2 | .badTarget => 3 | .badField => 4 | .badLength => 5
  | .unconfigured => 6 | .denied => 7 | .noPhase => 8 | .overflow => 9 | .unknownCode => 10

/-- Sources: lanes 0..7, group A 8, group B 9. -/
def Source.code : Source → Nat
  | .lane l => l.val
  | .group .a => 8
  | .group .b => 9

def supActionCode : SupAction → Octet
  | .none => 0 | .release => 1 | .hold => 2

/-- 11.6, notice codes. -/
def Notice.code : Notice → Octet
  | .syncChange .. => 0x81 | .alarmChange .. => 0x82 | .windowClosed .. => 0x83 | .trigger .. => 0x84
  | .stepDone .. => 0x85 | .injectionEnd .. => 0x86 | .memoryFault .. => 0x87 | .laneIdMismatch .. => 0x88
  | .skewExcess .. => 0x89 | .supervisorWarning .. => 0x8A | .supervisorAction .. => 0x8B | .peerRecord .. => 0x8C
  | .protocolFault .. => 0x8D | .commandDropped .. => 0x8E

/-- The source a notice is about, for its header's target octet (11.7, Record header block). A SKEW_EXCESS notice carries both
a group and a lane (R67): its header names the lane (DESIGN CHOICE, log entry 52). -/
def Notice.source : Notice → Option Source
  | .syncChange l .. => some (.lane l)
  | .alarmChange src .. => some src
  | .windowClosed src .. => some src
  | .trigger l .. => some (.lane l)
  | .stepDone l .. => some (.lane l)
  | .injectionEnd .. => none
  | .memoryFault _ _ l _ => some (.lane l)
  | .laneIdMismatch l .. => some (.lane l)
  | .skewExcess _ l .. => some (.lane l)
  | .supervisorWarning .. => none
  | .supervisorAction .. => none
  | .peerRecord .. => none
  | .protocolFault .. => none
  | .commandDropped .. => none

/-- A record header block. -/
def headerBlock (kind code tag len target status : Octet) : Block :=
  octetsBlock [kind, code, tag, len, target, status, 0, 0xC3]

/-! ### Window records -/

def CloseReason.code : CloseReason → Nat
  | .length => 0 | .command => 1 | .stop => 2 | .restart => 3

def RatioStatus.code : RatioStatus → Nat
  | .pending => 0 | .done => 1 | .skipped => 2 | .undefined => 3

def verdictCode : Option Verdict → Nat
  | none => 0 | some .proven => 1 | some .exceeded => 2 | some .undecided => 3 | some .unordered => 4

def Alarm.code : Alarm → Nat
  | .clear => 1 | .degraded => 2 | .failed => 3

def alarmCode : Option Alarm → Nat
  | none => 0
  | some a => a.code

/-- The ten counts in the order of R53. -/
def Counts.list (c : Counts) : List Nat :=
  [c.bits, c.errors, c.erroredBlocks, c.erroredFrames, c.syncLosses, c.unsynced, c.held, c.markerErrors, c.injBits,
    c.injBlocks]

def seqField (lo : Nat) (s : Option FrameSeq) : Block := field lo 16 ((s.map BitVec.toNat).getD 0)

/-- A lane set as eight bits, lane 0 lowest. -/
def laneBits (lo : Nat) (v : Eight Bool) : Block :=
  lanesAll.foldl (fun acc l => acc ||| flag (lo + l.val) (v.get l)) 0

/-- Block 13: ratio and bound. A ZERO ratio is present (log entry 24). -/
def ratioBlock (r : WinRecord) : Block :=
  (match r.ratio with
    | none => 0
    | some .zero => flag 24 true ||| flag 25 true
    | some (.dec d) => field 0 16 d.m ||| field 16 8 d.x ||| flag 24 true) |||
  (match r.bound with
    | none => 0
    | some b => field 32 16 b.d.m ||| field 48 8 b.d.x ||| flag 56 true ||| flag 57 b.clamped)

def Source.isGroup : Source → Bool
  | .lane _ => false
  | .group _ => true

/-- A count's block, with the lane set that blocks 3 and 4 of a group record carry. -/
def recordCountBlocks (r : WinRecord) : List Block :=
  match r.counts.list.map (field 0 56) with
  | n :: e :: rest =>
    if r.source.isGroup then (n ||| laneBits 56 r.whole) :: (e ||| laneBits 56 r.members) :: rest
    else n :: e :: rest
  | bs => bs

/-- A window record: 14 blocks for a lane, 15 for a group. -/
def WinRecord.blocks (r : WinRecord) : List Block :=
  [ field 0 8 r.source.code ||| field 8 16 r.number.toNat ||| field 24 8 r.reason.code ||| flag 32 r.counts.sat
      ||| flag 33 r.suspect ||| flag 34 r.incomplete ||| flag 35 r.first.isSome ||| field 40 8 r.status.code
      ||| field 48 8 (verdictCode r.verdict) ||| field 56 8 (alarmCode r.alarmAfter),
    field 0 32 r.openTick.toNat ||| field 32 32 r.closeTick.toNat,
    field 0 32 r.frames ||| seqField 32 r.first ||| seqField 48 r.last ]
  ++ recordCountBlocks r ++ [ratioBlock r]
  ++ (if r.source.isGroup then
        [octetsBlock (lanesAll.map (fun l => BitVec.ofNat 8 (min (r.lags.get l) 255)))]
      else [])

/-! ### Capture entries -/

def CapKind.code : CapKind → Nat
  | .bitErrors => 0 | .syncLoss => 1 | .markerError => 2 | .laneIdMismatch => 3 | .trigger => 4

def CapEntry.blocks (c : CapEntry) : List Block :=
  [ field 0 8 c.lane.val ||| field 8 8 c.kind.code ||| flag 16 c.seq.isSome ||| flag 17 c.bits.isSome
      ||| field 24 8 (c.bits.getD 0) ||| seqField 32 c.seq,
    field 0 32 c.pos ||| field 32 32 c.tick.toNat ]

/-! ### Context records -/

def CkState.code : CkState → Nat
  | .off => 0 | .hunt => 1 | .confirm => 2 | .locked => 3 | .lost => 4

/-- A context record: 22 blocks. -/
def ContextRecord.blocks (c : ContextRecord) : List Block :=
  [ field 0 8 c.version ||| field 8 8 c.lane ||| field 16 8 c.winPresent ||| field 24 8 c.alarm
      ||| field 32 8 c.ckState ||| flag 40 c.runSat ||| flag 41 c.winSat ||| flag 42 c.winSuspect
      ||| field 48 16 c.number.toNat,
    field 0 32 c.frames ||| field 32 32 c.ticks ]
  ++ c.run.list.map (field 0 56) ++ c.win.list.map (field 0 56)

/-- Ten count blocks read as a set of counts. -/
def countsOf (bs : List Block) (sat : Bool) : Counts :=
  let n (i : Nat) := fieldAt (bs.getD i 0) 0 56
  ⟨n 0, n 1, n 2, n 3, n 4, n 5, n 6, n 7, n 8, n 9, sat⟩

/-- The context record in 22 blocks; bits the layout does not name are must-be-zero. -/
def readContext (bs : List Block) : ContextRecord :=
  let b0 := bs.getD 0 0
  let b1 := bs.getD 1 0
  { version := fieldAt b0 0 8, lane := fieldAt b0 8 8, winPresent := fieldAt b0 16 8, alarm := fieldAt b0 24 8,
    ckState := fieldAt b0 32 8, runSat := b0.getLsbD 40, winSat := b0.getLsbD 41, winSuspect := b0.getLsbD 42,
    number := BitVec.ofNat 16 (fieldAt b0 48 16), frames := fieldAt b1 0 32, ticks := fieldAt b1 32 32,
    run := countsOf (bs.drop 2) (b0.getLsbD 40), win := countsOf (bs.drop 12) (b0.getLsbD 41),
    mbz := fieldAt b0 43 5 == 0 && (bs.drop 2).all (fun b => fieldAt b 56 8 == 0) }

/-! ### Bodies -/

/-- The blocks of a body: by the Formats section where it gives the layout, otherwise free values (log entry 3). -/
def Body.blocks (body : Body) : List Block :=
  match body with
  | .empty => []
  | .history rs => rs.flatMap WinRecord.blocks
  | .capture es full left => es.flatMap CapEntry.blocks ++ [flag 0 full ||| field 32 9 left]
  | .context c => c.blocks
  | _ => (List.range (Config.openBodyLength body).toNat).map (Config.openBodyBlock body)

/-- The header block of an egress record (R168). -/
def EgRec.header (r : EgRec) : Block :=
  headerBlock (if r.isNotice then 3 else 2) r.code r.tag (BitVec.ofNat 8 r.body.blocks.length) r.target r.status

/-! ### Channel records -/

/-- The octets of a channel record (R155). -/
def PeerRec.octets (r : PeerRec) : List Octet :=
  [r.kind, r.code, r.tag, BitVec.ofNat 8 r.body.length, r.target] ++ r.body

end Sys2Proof.Machine
end

