-- ==== Sys2Proof/Machine/Ops.lean ====
section
/-! DEFINITION. The named operations over the state that every block of the part shares: lanes, groups and channels;
descriptors in force; notices; reports to the window unit; the capture queue and the triggers; pattern memory. -/

namespace Sys2Proof.Machine

/-! ### Lanes, groups, channels -/

def State.lane (s : State) (l : LaneNo) : Lane := s.lanes.get l

def State.modLane (s : State) (l : LaneNo) (f : Lane → Lane) : State := { s with lanes := s.lanes.set l (f (s.lane l)) }

def State.modTx (s : State) (l : LaneNo) (f : Tx → Tx) : State := s.modLane l (fun L => { L with tx := f L.tx })
def State.modAl (s : State) (l : LaneNo) (f : Aligner → Aligner) : State := s.modLane l (fun L => { L with al := f L.al })
def State.modCk (s : State) (l : LaneNo) (f : Checker → Checker) : State := s.modLane l (fun L => { L with ck := f L.ck })
def State.modWin (s : State) (l : LaneNo) (f : Win → Win) : State := s.modLane l (fun L => { L with win := f L.win })
def State.modMem (s : State) (l : LaneNo) (f : Member → Member) : State := s.modLane l (fun L => { L with mem := f L.mem })

def State.group (s : State) (g : GroupId) : Group := s.groups.get g

def State.modGroup (s : State) (g : GroupId) (f : Group → Group) : State :=
  { s with groups := s.groups.set g (f (s.group g)) }

def State.modInj (s : State) (c : ChanNo) (f : InjChan → InjChan) : State := { s with inj := s.inj.set c (f (s.inj.get c)) }

/-- Make an update for each of the eight lanes, in rising order (log entry 16). -/
def State.forLanes (s : State) (f : LaneNo → State → State) : State := lanesAll.foldl (fun s l => f l s) s

/-! ### Table entries in force

An entry that is not loaded stands as the `absent` value; a CONFIGURED part has every entry loaded (R172), so it is met
only in an UNCONFIGURED part, where the spec gives the entry no part to play (log entry 29). -/

def LaneDesc.absent : LaneDesc :=
  ⟨.raw, .check, 1, 1, 1, false, false, .off, .none, .notice, .openEnded, false, 0, false⟩

def LaneMapEntry.absent : LaneMapEntry := ⟨0, 0, false, none⟩

def PatDesc.absent : PatDesc := ⟨.prbs7, false, 127, 0, 0⟩

def GroupDesc.absent : GroupDesc := ⟨.openEnded, false, 0, false⟩

def AlarmProfile.absent : AlarmProfile := ⟨⟨100, 0⟩, ⟨100, 0⟩, ⟨100, 0⟩, ⟨100, 0⟩, ⟨100, 0⟩⟩

def State.desc (s : State) (l : LaneNo) : LaneDesc := (s.laneDesc.get l).getD LaneDesc.absent
def State.map (s : State) (l : LaneNo) : LaneMapEntry := (s.laneMap.get l).getD LaneMapEntry.absent
def State.pat (s : State) (d : LaneNo) : PatDesc := (s.patDesc.get d).getD PatDesc.absent

/-- The descriptor a lane's generator uses (2.1). -/
def State.txPat (s : State) (l : LaneNo) : PatDesc := s.pat (s.map l).txId
/-- The descriptor a lane's checker uses (2.1). -/
def State.rxPat (s : State) (l : LaneNo) : PatDesc := s.pat (s.map l).rxId

/-- A lane's receive framing: FRAMED only in a CONFIGURED part (R8). -/
def State.rxFramed (s : State) (l : LaneNo) : Bool := s.configured && (s.desc l).framing == .framed

/-- A lane's receive mode, none while no descriptor is loaded (log entry 31). -/
def State.rxMode (s : State) (l : LaneNo) : Option RxMode := (s.laneDesc.get l).map LaneDesc.rxMode

/-- The group a lane is a member of (R59). -/
def State.memberOf (s : State) (l : LaneNo) : Option GroupId := (s.map l).group

def State.isMember (s : State) (g : GroupId) (l : LaneNo) : Bool := s.memberOf l == some g

/-- R139: a lane counts in RUN and STEPPING, and in HELD with count-while-held set. -/
def State.counting (s : State) (l : LaneNo) : Bool :=
  match (s.lane l).hold with
  | .run => true
  | .stepping => true
  | .held => (s.desc l).countHeld

def State.ckOff (s : State) (l : LaneNo) : Bool := (s.lane l).ck.state == .off
def State.aligned (s : State) (l : LaneNo) : Bool := (s.lane l).al.state == .aligned

/-! ### Notices and the egress record queue -/

/-- The egress record of a notice (R168, 11.7). -/
def noticeRec (n : Notice) : EgRec where
  isNotice := true
  code := n.code
  tag := Config.noticeTag n
  target := match n.source with
    | some src => BitVec.ofNat 8 src.code
    | none => Config.noticeTarget n
  status := 0
  body := .notice n

/-- A notice is placed only when at least 5 of the 16 places are free; else it is dropped (R168). -/
def State.notify (s : State) (n : Notice) : State :=
  if s.egress.length + 5 ≤ 16 then { s with egress := s.egress ++ [noticeRec n] } else { s with noticesLost := true }

/-! ### Reports to the window unit -/

/-- A report goes to the lane's open window, if any, and to its run totals (R94). -/
def State.report (s : State) (l : LaneNo) (f : Counts → Counts) : State :=
  s.modLane l (fun L =>
    { L with
      win := if L.win.isOpen then { L.win with counts := f L.win.counts } else L.win
      run := { L.run with counts := f L.run.counts } })

/-- R6: the alarm state set to CLEAR without notice and not known. -/
def State.forgetAlarm (s : State) (l : LaneNo) : State :=
  s.modLane l (fun L => { L with alarm := .clear, alarmKnown := false })

/-- R6: the alarm a lane's markers report. -/
def State.reportedAlarm (s : State) (l : LaneNo) : FarAlarm :=
  if s.ckOff l || !(s.lane l).alarmKnown then .unknown
  else match (s.lane l).alarm with
    | .clear => .clear
    | .degraded => .degraded
    | .failed => .failed

/-- R88: the run totals cleared; on a RAW lane a new pseudo-frame begins, and heavy blocks of a pending run that arrived before the
clear keep the pseudo-frames in which they arrived (DESIGN CHOICE, log entry 67). -/
def State.clearRun (s : State) (l : LaneNo) : State :=
  s.modLane l (fun L =>
    { L with
      run := ⟨Counts.zero, s.tick, 0, none, if s.rxFramed l then L.run.tag else L.run.tag + 1⟩ })

/-! ### Capture queue and triggers -/

/-- R132. -/
def State.placeCapture (s : State) (c : CapEntry) : State :=
  if s.capture.length < 256 then { s with capture := s.capture ++ [c] } else { s with captureOver := true }

/-- R131. -/
def policyAdmits (p : CapturePolicy) (k : CapKind) : Bool :=
  match k with
  | .trigger => true
  | .bitErrors => p == .errors || p == .all
  | _ => p == .events || p == .all

/-- An admitted entry is placed, or held in the lane's pending heavy run while that is not empty (R46, R132). -/
def State.giveEntry (s : State) (l : LaneNo) (c : CapEntry) : State :=
  if (s.lane l).ck.run.isEmpty then s.placeCapture c
  else s.modCk l (fun k => { k with run := k.run ++ [.entry c] })

/-- An event of the lane offered under its capture policy (R131), stamped now. -/
def State.offerEvent (s : State) (l : LaneNo) (k : CapKind) (seq : Option FrameSeq) (pos : Nat) : State :=
  if policyAdmits (s.desc l).policy k then s.giveEntry l ⟨l, k, seq, pos, none, s.tick⟩ else s

/-- An armed trigger is judged only while the checker is not OFF and the lane counts (R135). -/
def State.trigJudged (s : State) (l : LaneNo) : Bool := (s.lane l).armed && !s.ckOff l && s.counting l

/-- R136: a firing. The hold request of step 4 is kept in `holdReq` until the whole arrival is accounted. The notice carries the
tick stamp `t` of the TRIGGER entry, which for a released heavy block is that of its arrival: R136 says only "the tick stamp"
(DESIGN CHOICE, log entry 69). -/
def State.fireTrigger (s : State) (l : LaneNo) (seq : Option FrameSeq) (pos : Nat) (t : Tick) : State :=
  let s := s.modLane l (fun L => { L with armed := false, holdReq := L.holdReq || (s.desc l).action == .hold })
  let s := s.giveEntry l ⟨l, .trigger, seq, pos, none, t⟩
  s.notify (.trigger l (s.desc l).trigger (s.desc l).action seq pos t)

/-! ### Pattern memory -/

/-- What an entry holds after a hard reset, and so what an unlisted one reads as (R23). -/
def PatWord.zero : PatWord := ⟨0, true⟩

def patRead : PatMem → Nat → PatWord
  | [], _ => PatWord.zero
  | (j, w) :: rest, i => if i = j then w else patRead rest i

/-- Put an entry at the head of a list whose indexes are above it, unless it is what an unlisted index reads as. -/
def patCons (i : Nat) (w : PatWord) (rest : PatMem) : PatMem := if w = PatWord.zero then rest else (i, w) :: rest

def patWrite : PatMem → Nat → PatWord → PatMem
  | [], i, w => patCons i w []
  | (j, v) :: rest, i, w =>
    if i < j then patCons i w ((j, v) :: rest)
    else if i = j then patCons i w rest
    else (j, v) :: patWrite rest i w

/-- Indexes strictly rising from `lo`, below 4,096, and no entry as an unlisted index reads. -/
def patOrdered (lo : Nat) : PatMem → Bool
  | [] => true
  | (j, w) :: rest => decide (lo ≤ j) && decide (j < 4096) && decide (w ≠ PatWord.zero) && patOrdered (j + 1) rest

/-- The canonical form of pattern memory. -/
def PatMem.wf (m : PatMem) : Bool := patOrdered 0 m

/-- The bank of an entry (R24). -/
def bankOf (i : Nat) : BankNo := ⟨i / 1024 % 4, Nat.mod_lt _ (by decide)⟩

/-- R25: every open window whose banks-read set holds a bank with its fault flag set is suspect. -/
def State.markSuspects (s : State) (b : BankNo) : State :=
  { s with
    lanes := s.lanes.map (fun L =>
      if L.win.isOpen && L.win.banks.get b && s.memFault.get b then { L with win := { L.win with suspect := true } }
      else L) }

/-- A generator's or checker's read of an entry, with the effects of R24 and R25. -/
def State.readPattern (s : State) (l : LaneNo) (i : Nat) (byChecker : Bool) : Block × State :=
  let w := patRead s.patMem i
  let b := bankOf i
  let s := s.modWin l (fun v => { v with banks := v.banks.set b true })
  let s :=
    if w.agrees || s.memFault.get b then s
    else { s with memFault := s.memFault.set b true }.notify (.memoryFault b i l byChecker)
  (w.data, s.markSuspects b)

/-! ### Window records -/

/-- At most 16 records, the oldest removed first (R86). -/
def appendHistory (h : List WinRecord) (r : WinRecord) : List WinRecord :=
  if h.length < 16 then h ++ [r] else h.drop (h.length - 15) ++ [r]

def State.history (s : State) : Source → List WinRecord
  | .lane l => (s.lane l).hist
  | .group g => (s.group g).hist

def State.modHistory (s : State) (src : Source) (f : List WinRecord → List WinRecord) : State :=
  match src with
  | .lane l => s.modLane l (fun L => { L with hist := f L.hist })
  | .group g => s.modGroup g (fun G => { G with hist := f G.hist })

/-- Write into the record of a job where it stands in the history, if it does (R83). -/
def State.modRecord (s : State) (src : Source) (serial : Nat) (f : WinRecord → WinRecord) : State :=
  s.modHistory src (List.map (fun r => if r.serial = serial then f r else r))

end Sys2Proof.Machine
end

