-- ==== Sys2Proof/Machine/Ratio.lean ====
section
/-! DEFINITION. The ratio engine: ratios, bounds, verdicts and alarm states by exact whole numbers, the job queue, and a
job's completion (chapter 6). -/

namespace Sys2Proof.Machine

/-- The least x, from `x` on, with N ≤ E × 10^x; `fuel` bounds the search. -/
def leastExp (e n : Nat) : Nat → Nat → Nat
  | 0, x => x
  | fuel + 1, x => if n ≤ e * 10 ^ x then x else leastExp e n fuel (x + 1)

/-- R102. -/
def ratioOf (e n : Nat) : Ratio :=
  if e = 0 then .zero
  else
    let x := leastExp e n 64 0
    let m := (2 * e * 10 ^ (x + 2) + n) / (2 * n)
    if m = 1000 then .dec ⟨100, x - 1⟩ else .dec ⟨m, x⟩

/-- R104; `u` is absent for an E above 31. -/
def boundOf (n : Nat) (u : Option Nat) : Option Bound :=
  match u with
  | none => none
  | some u =>
    if u = 0 then none
    else if 100 * n ≤ u then some ⟨⟨100, 0⟩, true⟩
    else
      let x := leastExp u (100 * n) 64 0
      let m := (u * 10 ^ x + (n - 1)) / n
      if m = 1000 then some ⟨⟨100, x - 1⟩, x - 1 == 0⟩ else some ⟨⟨m, x⟩, false⟩

/-- R105: E/N is at or above T. -/
def atOrAbove (e n : Nat) (t : Decimal) : Bool := decide (t.m * n ≤ e * 10 ^ (t.x + 2))

/-- R105: the exact bound u / (100 × N) is below T. -/
def boundBelow (u n : Nat) (t : Decimal) : Bool := decide (u * 10 ^ t.x < t.m * n)

/-- R106. -/
def verdictOf (i : JobInputs) : Verdict :=
  if atOrAbove i.errs i.bits i.prof.target then .exceeded
  else
    match boundOf i.bits i.u with
    | some b => if !b.clamped && boundBelow (i.u.getD 0) i.bits i.prof.target then .proven else .undecided
    | none => .undecided

/-- R108. -/
def alarmNext (a : Alarm) (i : JobInputs) : Alarm :=
  match a with
  | .clear =>
    if atOrAbove i.errs i.bits i.prof.failSet then .failed
    else if atOrAbove i.errs i.bits i.prof.degradeSet then .degraded else .clear
  | .degraded =>
    if atOrAbove i.errs i.bits i.prof.failSet then .failed
    else if !atOrAbove i.errs i.bits i.prof.degradeClear then .clear else .degraded
  | .failed =>
    if !atOrAbove i.errs i.bits i.prof.degradeClear then .clear
    else if !atOrAbove i.errs i.bits i.prof.failClear then .degraded else .failed

/-- R101: the first ratio is no greater than the second. -/
def decimalLe (a b : Decimal) : Bool := decide (a.m * 10 ^ b.x ≤ b.m * 10 ^ a.x)

/-! ### The queue -/

/-- The profile a job of the source uses (R98). -/
def State.profileOf (s : State) (src : Source) : AlarmProfile :=
  let i : Fin 4 := match src with
    | .lane l => (s.desc l).profile
    | .group g => ((s.groupDesc.get g).getD GroupDesc.absent).profile
  (s.profiles.get i).getD AlarmProfile.absent

/-- R98: the inputs a job takes at its start. E and N are the closed window's, whether or not its record still stands in the
history (log entry 56). -/
def State.jobInputs (s : State) (j : Job) : JobInputs :=
  { errs := j.errs
    bits := j.bits
    u := if h : j.errs < 32 then some ((s.conf[j.errs]'h).getD 0) else none
    prof := s.profileOf j.source }

/-- A job at the head of the queue starts when the engine is free (R98). -/
def State.startHead (s : State) : State :=
  match s.jobs with
  | [] => s
  | j :: rest =>
    match j.inputs with
    | some _ => s
    | none => { s with jobs := { j with inputs := some (s.jobInputs j) } :: rest }

/-- A waiting job of the source. -/
def isWaiting (src : Source) (j : Job) : Bool := j.source == src && j.inputs.isNone

/-- Remove the waiting job of the source, its record becoming SKIPPED (R97). -/
def State.skipWaiting (s : State) (src : Source) : State :=
  match s.jobs.find? (isWaiting src) with
  | none => s
  | some j =>
    { s with jobs := s.jobs.filter (fun k => !isWaiting src k) }.modRecord src j.serial
      (fun r => { r with status := .skipped })

def State.hasWaiting (s : State) (src : Source) : Bool := s.jobs.any (isWaiting src)

/-- R97: the three cases of placing a job, and its start if the engine is free. -/
def State.postJob (s : State) (src : Source) (number : FrameSeq) (serial errs bits : Nat) : State :=
  let s :=
    if s.hasWaiting src then s.skipWaiting src
    else match s.jobs with
      | j :: _ => if s.jobs.length == 10 && s.hasWaiting j.source then s.skipWaiting j.source else s
      | [] => s
  let j : Job := ⟨src, number, serial, errs, bits, false, none⟩
  { s with jobs := s.jobs ++ [j] }.startHead

/-- A lane has a job, waiting or in service (R100). -/
def State.hasJob (s : State) (l : LaneNo) : Bool := s.jobs.any (fun j => j.source == .lane l)

/-- R100, RESTART_LANE: the lane's waiting job is removed and its job in service gets the discard mark. -/
def State.dropLaneJobs (s : State) (l : LaneNo) : State :=
  { s with
    jobs := (s.jobs.filter (fun j => !isWaiting (.lane l) j)).map
      (fun j => if j.source == .lane l then { j with discard := true } else j) }

/-- R100, soft reset. -/
def markServed (jobs : List Job) : List Job :=
  (jobs.filter (fun j => j.inputs.isSome)).map (fun j => { j with discard := true })

/-! ### Records -/

/-- R82 steps 3 to 5: the record enters its history, a job is posted if N > 0 (and `post`), the notice is sent. -/
def State.fileRecord (s : State) (r : WinRecord) (post note : Bool) : State :=
  let s := s.modHistory r.source (fun h => appendHistory h r)
  let s := if post && r.counts.bits ≠ 0 then s.postJob r.source r.number r.serial r.counts.errors r.counts.bits else s
  if note then s.notify (.windowClosed r.source r.number r.reason r.closeTick r.status) else s

/-! ### Completion -/

def State.alarmOf (s : State) : Source → Alarm
  | .lane l => (s.lane l).alarm
  | .group g => (s.group g).alarm

/-- The evaluated alarm state of a source; a lane's becomes known (R99 step 6). -/
def State.setAlarm (s : State) (src : Source) (a : Alarm) : State :=
  match src with
  | .lane l => s.modLane l (fun L => { L with alarm := a, alarmKnown := true })
  | .group g => s.modGroup g (fun G => { G with alarm := a })

/-- R99 steps 1 to 6 for a job without a discard mark. -/
def State.judge (s : State) (j : Job) (i : JobInputs) : State :=
  let before := s.alarmOf j.source
  let after := alarmNext before i
  let s := s.modRecord j.source j.serial (fun r =>
    { r with
      status := .done, ratio := some (ratioOf i.errs i.bits), bound := boundOf i.bits i.u,
      verdict := some (verdictOf i), alarmAfter := some after })
  let s := s.setAlarm j.source after
  if before = after then s
  else s.notify (.alarmChange j.source j.number before after (ratioOf i.errs i.bits) s.tick)

/-- R99: the job in service completes, leaves the queue, and the next job starts. Without a job in service nothing
completes. -/
def State.completeJob (s : State) : State :=
  match s.jobs with
  | [] => s
  | j :: rest =>
    match j.inputs with
    | none => s
    | some i =>
      let s := if j.discard then s else s.judge j i
      { s with jobs := rest }.startHead

end Sys2Proof.Machine
end

