-- ==== Sys2Proof/Machine/Group.lean ====
section
/-! DEFINITION. The group aligner: leading sequence, lag and skew, contribution, the frame flag ring, and group windows
(chapter 4.3 to 4.5, R91). -/

namespace Sys2Proof.Machine

/-! ### Spans and passing -/

/-- R71: a sequence is in the span of an open window. -/
def GWin.inSpan (w : GWin) (q : FrameSeq) : Bool :=
  match w.s0 with
  | none => false
  | some z =>
    match w.spec with
    | .frames n => decide ((q - z).toNat < n)
    | _ => decide (((q - z).toNat : Int) ≤ w.offset)

/-- The last sequence of the span of a FRAMES window whose S0 is determined (R71). -/
def GWin.lastSeq (w : GWin) : Option FrameSeq :=
  match w.s0, w.spec with
  | some z, .frames n => some (z + BitVec.ofNat 16 n - 1)
  | _, _ => none

/-- The window's first sequence is determined and its leading offset is 0 or more. -/
def GWin.live (w : GWin) : Bool := w.s0.isSome && decide (0 ≤ w.offset)

def Group.live (gr : Group) : Bool :=
  match gr.win with
  | none => false
  | some w => w.live

/-- The lane's pending heavy run holds a block of frame `q` (R68). -/
def Lane.runHolds (L : Lane) (q : FrameSeq) : Bool :=
  L.ck.run.any (fun it => match it with
    | .heavy r => r.seq == some q
    | .entry _ => false)

/-- R68: the lane has passed an entry of the ring. -/
def State.passedEntry (s : State) (l : LaneNo) (e : RingEntry) : Bool :=
  e.reported.get l && !(s.lane l).runHolds e.seq

/-- R68, R73: the lane has passed the last sequence of the window's span; in an OPEN window none passes it (R71). -/
def State.passedLast (s : State) (l : LaneNo) (w : GWin) : Bool :=
  match w.lastSeq with
  | none => false
  | some q => w.past.get l && !(s.lane l).runHolds q

/-! ### The ring -/

/-- R69: a retiring entry that is flagged and in the span raises the errored frames of the open window. -/
def retireEntry (w : Option GWin) (e : RingEntry) : Option GWin :=
  match w with
  | none => none
  | some w => if e.errored && w.inSpan e.seq then some { w with counts := w.counts.addErroredFrame } else some w

/-- The entries chosen by `gone` retire, oldest first. -/
def Group.retire (gr : Group) (gone : RingEntry → Bool) : Group :=
  { gr with
    win := (gr.ring.filter gone).foldl retireEntry gr.win
    ring := gr.ring.filter (fun e => !gone e) }

def newEntry (q : FrameSeq) : RingEntry := ⟨q, false, Eight.all false⟩

/-! ### Leading sequence -/

/-- The ALIGNED members of a group. -/
def State.alignedMembers (s : State) (g : GroupId) : List LaneNo :=
  lanesAll.filter (fun l => s.isMember g l && s.aligned l)

/-- R66: the new leading sequence; none while no member is ALIGNED. -/
def State.leadingOf (s : State) (g : GroupId) : Option FrameSeq :=
  let ms := s.alignedMembers g
  let q (l : LaneNo) : FrameSeq := (s.lane l).al.seq
  let tops := (ms.filter (fun i => ms.all (fun j => !ahead (q j) (q i)))).map q
  match tops with
  | v :: rest => if rest.all (fun x => x == v) then some v else ms.head?.map q
  | [] => ms.head?.map q

/-- R66: while S0 is undetermined a recomputation sets it, and does nothing else to the window. Otherwise the move of
the leading sequence acts by `f`. -/
def Group.moveWindow (gr : Group) (b : FrameSeq) (f : GWin → GWin) : Group :=
  match gr.win with
  | none => gr
  | some w =>
    match w.s0 with
    | none => { gr with win := some { w with s0 := some b, offset := 0 } }
    | some _ => { gr with win := some (f w) }

/-- R66 and R68: the leading sequence becomes `b`. -/
def Group.setLeading (b : FrameSeq) (gr : Group) : Group :=
  match gr.leading with
  | none => { gr.moveWindow b id with leading := some b, ring := [newEntry (b - 2), newEntry (b - 1), newEntry b] }
  | some a =>
    if a = b then gr.moveWindow b id
    else if ahead b a then
      let d := (b - a).toNat
      let gr := gr.retire (fun e => !decide ((b - e.seq).toNat ≤ 2))
      let new := [b - 2, b - 1, b].filter (fun q => decide ((b - q).toNat < d))
      { gr.moveWindow b (fun w => { w with offset := w.offset + d }) with
        leading := some b, ring := gr.ring ++ new.map newEntry }
    else
      let gr := gr.retire (fun _ => true)
      { gr.moveWindow b (fun w => { w with incomplete := true }) with
        leading := some b, ring := [newEntry (b - 2), newEntry (b - 1), newEntry b] }

/-! ### Lag and contribution -/

/-- R67: the lag of one member brought up to date, with SKEW_EXCESS entered or left. A member that is not ALIGNED has no
lag and no SKEW_EXCESS. -/
def State.refreshLag (s : State) (g : GroupId) (l : LaneNo) : State :=
  if !s.isMember g l then s
  else if !s.aligned l then s.modMem l (fun m => { m with lag := none, skew := false })
  else
    match (s.group g).leading with
    | none => s
    | some b =>
      let d := (b - (s.lane l).al.seq).toNat
      let entered := decide (3 ≤ d) && !(s.lane l).mem.skew
      let s := s.modMem l (fun m =>
        { m with lag := some d, skew := decide (3 ≤ d), greatestLag := max m.greatestLag d })
      if entered then s.notify (.skewExcess g l d b s.tick) else s

/-- R66: the leading sequence of a group recomputed, and the lags with it. -/
def State.recompute (s : State) (g : GroupId) : State :=
  let s := match s.leadingOf g with
    | none => s
    | some b => s.modGroup g (Group.setLeading b)
  s.forLanes (fun l s => s.refreshLag g l)

/-- The first condition of R65 that fails for a lane, in the order there given. -/
def State.contribFail (s : State) (l : LaneNo) : Option ContribFail :=
  if !s.aligned l then some .notAligned
  else if (s.lane l).ck.state ≠ .locked then some .notLocked
  else if !s.counting l then some .held
  else if (s.lane l).mem.skew then some .skewExcess
  else none

/-- R65, R71: a contributing flag becomes no as soon as a condition fails; the whole flag is then cleared if a window is
open and the lane has not passed its last sequence. -/
def State.dropMember (s : State) (g : GroupId) (l : LaneNo) : State :=
  if s.isMember g l && (s.lane l).mem.contributing && (s.contribFail l).isSome then
    let past := match (s.group g).win with
      | none => true
      | some w => s.passedLast l w
    s.modMem l (fun m => { m with contributing := false, whole := m.whole && past })
  else s

def State.dropContrib (s : State) (g : GroupId) : State := s.forLanes (fun l s => s.dropMember g l)

/-- R71: the whole flags of the members that are not contributing are cleared. -/
def State.clearWholes (s : State) (g : GroupId) : State :=
  s.forLanes (fun l s =>
    if s.isMember g l && !(s.lane l).mem.contributing then s.modMem l (fun m => { m with whole := false }) else s)

/-! ### Opening and closing group windows -/

/-- A group window opened (R71): accumulators zero, greatest lags 0, whole flags set; if the leading offset is already
0 or more, the whole flags of members not contributing are cleared at once. Of the boundaries before the opening, only that
which gave an ALIGNED member its current sequence counts as passing the last sequence of the span (R73; DESIGN CHOICE, log
entry 50). -/
def State.openGroup (s : State) (g : GroupId) (spec : WinSpec) (rep notices : Bool) (s0 : Option FrameSeq)
    (offset : Int) : State :=
  let w : GWin := ⟨(s.group g).nextNumber, spec, rep, notices, s.tick, Counts.zero, false, s0, offset, Eight.all false⟩
  let past : Eight Bool := match w.lastSeq with
    | none => Eight.all false
    | some q => Eight.gen (fun l => s.isMember g l && s.aligned l && ahead (s.lane l).al.seq q)
  let s := s.modGroup g (fun gr => { gr with win := some { w with past := past }, nextNumber := gr.nextNumber + 1 })
  let s := s.forLanes (fun l s =>
    if s.isMember g l then s.modMem l (fun m => { m with greatestLag := 0, whole := true }) else s)
  if w.live then s.clearWholes g else s

/-- R73: the frames spanned of a closing group window. -/
def GWin.framesSpanned (w : GWin) (r : CloseReason) : Nat :=
  match w.s0, w.spec with
  | none, _ => 0
  | some _, .frames n => if r = .length then n else min (w.offset + 1).toNat n
  | some _, _ => (w.offset + 1).toNat

/-- The record of a closing group window (R73, R91). -/
def State.groupRecord (s : State) (g : GroupId) (w : GWin) (r : CloseReason) : WinRecord :=
  let n := w.framesSpanned r
  let q := if n = 0 then none else w.s0
  { source := .group g, number := w.number, reason := r, openTick := w.openTick, closeTick := s.tick, frames := n,
    first := q, last := q.map (fun z => z + BitVec.ofNat 16 n - 1), counts := w.counts, suspect := false,
    incomplete := w.incomplete,
    status := if w.counts.bits = 0 then .undefined else .pending,
    ratio := none, bound := none, verdict := if w.counts.bits = 0 then some .unordered else none, alarmAfter := none,
    serial := s.serial, members := Eight.gen (s.isMember g),
    whole := Eight.gen (fun l => s.isMember g l && (s.lane l).mem.whole),
    lags := Eight.gen (fun l => if s.isMember g l then (s.lane l).mem.greatestLag else 0) }

/-- Some member's whole flag is clear (R73 step 2). -/
def State.someNotWhole (s : State) (g : GroupId) : Bool :=
  lanesAll.any (fun l => s.isMember g l && !(s.lane l).mem.whole)

/-- R73: the open window of a group closes; at a LENGTH close with repeat yes the next opens by R71. -/
def State.closeGroup (s : State) (g : GroupId) (r : CloseReason) : State :=
  match (s.group g).win with
  | none => s
  | some w0 =>
    let s := s.modGroup g (fun gr => gr.retire (fun e => w0.inSpan e.seq))
    match (s.group g).win with
    | none => s
    | some w1 =>
      let w := { w1 with incomplete := w1.incomplete || s.someNotWhole g }
      let rec' := s.groupRecord g w r
      let s := { s.modGroup g (fun gr => { gr with win := none }) with serial := s.serial + 1 }
      let s := s.fileRecord rec' true w.notices
      match r, w.rep, w.s0, w.spec with
      | .length, true, some z, .frames n =>
        s.openGroup g w.spec w.rep w.notices (some (z + BitVec.ofNat 16 n)) (w.offset - n)
      | _, _, _, _ => s

/-- R73: the LENGTH condition of a FRAMES window. -/
def State.lengthDue (s : State) (g : GroupId) : Bool :=
  match (s.group g).win with
  | none => false
  | some w =>
    match w.s0, w.spec with
    | some _, .frames n =>
      decide ((n : Int) ≤ w.offset)
        && lanesAll.all (fun l => !(s.isMember g l && (s.lane l).mem.contributing) || s.passedLast l w)
    | _, _ => false

/-- LENGTH closes, again for a repeated window that already meets the condition (log entry 18). -/
def State.closeDue (s : State) (g : GroupId) : Nat → State
  | 0 => s
  | fuel + 1 => if s.lengthDue g then (s.closeGroup g .length).closeDue g fuel else s

/-- R69, second case: with at least one member contributing, the entries that every contributing member has passed
retire. -/
def State.retirePassed (s : State) (g : GroupId) : State :=
  let cs := lanesAll.filter (fun l => s.isMember g l && (s.lane l).mem.contributing)
  if cs.isEmpty then s
  else s.modGroup g (fun gr => gr.retire (fun e => cs.all (fun l => s.passedEntry l e)))

/-- What is judged at every boundary report, at every release or discard of a run, and at every change of a contributing
flag (R69, R73). Where both come at one event, the passed entries retire first, against the window that then closes: no rule gives
an order (DESIGN CHOICE, log entry 70). -/
def State.settleGroup (s : State) (g : GroupId) : State :=
  let s := s.retirePassed g
  let fuel := match (s.group g).win with
    | none => 0
    | some w => w.offset.toNat + 1
  s.closeDue g fuel

/-! ### Events -/

/-- The lane's boundary of a frame with sequence `q` is noted against the ring and the window's last sequence (R68). A boundary that
the lane reported while it was no member is not noted, and a note outlasts its leaving the group (DESIGN CHOICE, log entry 71). -/
def State.markReported (s : State) (g : GroupId) (l : LaneNo) (q : FrameSeq) : State :=
  s.modGroup g (fun gr =>
    { gr with
      ring := gr.ring.map (fun e => if ahead q e.seq then { e with reported := e.reported.set l true } else e)
      win := match gr.win with
        | none => none
        | some w =>
          match w.lastSeq with
          | none => some w
          | some z => if ahead q z then some { w with past := w.past.set l true } else some w })

/-- R65: the flag becomes yes at a boundary of the lane at which all conditions hold. -/
def State.startContrib (s : State) (l : LaneNo) : State :=
  if (s.contribFail l).isNone then s.modMem l (fun m => { m with contributing := true }) else s

/-- A recomputation of the leading sequence with all that follows from it; `bl` is the boundary that causes it, if one
does. The whole flags are judged after the contributing flags are brought up to date (log entry 17). -/
def State.groupEvent (s : State) (g : GroupId) (bl : Option (LaneNo × FrameSeq)) : State :=
  let live := (s.group g).live
  let s := s.recompute g
  let s := match bl with
    | none => s
    | some (l, q) => (s.markReported g l q).startContrib l
  let s := s.dropContrib g
  let s := if !live && (s.group g).live then s.clearWholes g else s
  s.settleGroup g

/-- A lane's group learns that its condition for contributing may have failed, or that its run was settled. -/
def State.groupRefresh (s : State) (l : LaneNo) : State :=
  match s.memberOf l with
  | none => s
  | some g => (s.dropContrib g).settleGroup g

/-- A recomputation for the group of a lane whose aligner left ALIGNED (R66). -/
def State.groupLeft (s : State) (l : LaneNo) : State :=
  match s.memberOf l with
  | none => s
  | some g => s.groupEvent g none

/-- A received frame boundary of an ALIGNED lane reaches its group (R14, R66). -/
def State.groupBoundary (s : State) (l : LaneNo) (q : FrameSeq) : State :=
  match s.memberOf l with
  | none => s
  | some g => s.groupEvent g (some (l, q))

/-- R68, R69 and R72: a counted block of frame `q` with `e` errors, in the group's ring and open window. The window's counts take a
block of its span alone (R72); an errored block whose ring entry has retired marks the window incomplete whatever its frame (R69,
R75; that R74's "adds nothing" speaks of the counts is DEDUCED, log entry 19). -/
def Group.countBlock (gr : Group) (e : Nat) (q : FrameSeq) : Group :=
  let late := e ≠ 0 && !gr.ring.any (fun x => x.seq == q)
  { gr with
    ring := gr.ring.map (fun x => if e ≠ 0 && x.seq == q then { x with errored := true } else x)
    win := match gr.win with
      | none => none
      | some w =>
        some { w with
          counts := if w.inSpan q then w.counts.addCounted e false else w.counts
          incomplete := w.incomplete || late } }

/-- A counted block of a contributing member reaches the group aligner (R65). -/
def State.groupCount (s : State) (l : LaneNo) (c : Checked) : State :=
  match s.memberOf l, c.seq with
  | some g, some q => if (s.lane l).mem.contributing then s.modGroup g (fun gr => gr.countBlock c.errs q) else s
  | _, _ => s

end Sys2Proof.Machine
end

