-- ==== Sys2Proof/Machine/Window.lean ====
section
/-! DEFINITION. Counting a block, settling a pending heavy run, and lane windows: opening, advancing and closing (R47, R51,
R79 to R83). -/

namespace Sys2Proof.Machine

/-! ### Counted blocks -/

/-- A counted block in the open window; an errored frame is counted once (R51). -/
def Win.count (w : Win) (c : Checked) : Win :=
  if w.isOpen then
    { w with
      counts := w.counts.addCounted c.errs (c.errs ≠ 0 && w.errTag ≠ some c.winTag)
      errTag := if c.errs = 0 then w.errTag else some c.winTag }
  else w

/-- A counted block in the run totals (R51). -/
def RunTotals.count (r : RunTotals) (c : Checked) : RunTotals :=
  { r with
    counts := r.counts.addCounted c.errs (c.errs ≠ 0 && r.errTag ≠ some c.runTag)
    errTag := if c.errs = 0 then r.errTag else some c.runTag }

/-- R136: the block triggers; the first-error flag is judged before the block sets it. -/
def blockFires (t : Trigger) (firstErr : Bool) (e : Nat) : Bool :=
  match t with
  | .firstError => e ≠ 0 && !firstErr
  | .blockAtLeast n => decide (n ≤ e)
  | _ => false

/-- R51: a counted block goes to the window and the run totals, the group aligner, the capture unit and the trigger. -/
def State.countBlock (s : State) (l : LaneNo) (c : Checked) : State :=
  let s := s.modLane l (fun L => { L with win := L.win.count c, run := L.run.count c })
  let s := s.groupCount l c
  let s := if c.errs ≠ 0 && c.wants then s.giveEntry l ⟨l, .bitErrors, c.seq, c.pos, some c.errs, c.tick⟩ else s
  let fires := s.trigJudged l && blockFires (s.desc l).trigger (s.lane l).firstErr c.errs
  let s := s.modLane l (fun L => { L with firstErr := L.firstErr || c.errs ≠ 0 })
  if fires then s.fireTrigger l c.seq c.pos c.tick else s

/-! ### The pending heavy run -/

/-- The number of heavy blocks in a pending heavy run. -/
def heavyCount (run : List RunItem) : Nat :=
  run.countP (fun it => match it with
    | .heavy _ => true
    | .entry _ => false)

/-- One item of a released run: a heavy block is counted, a held entry placed (R47). -/
def State.releaseItem (l : LaneNo) (s : State) (it : RunItem) : State :=
  match it with
  | .heavy r => s.countBlock l r
  | .entry c => s.placeCapture c

/-- R47: the run is released, oldest first, and then empty. The group judges a release (R69, R73) once, when the whole run has been
counted and before the light block that caused it is (DEDUCED, log entry 65). -/
def State.releaseRun (s : State) (l : LaneNo) : State :=
  let run := (s.lane l).ck.run
  if run.isEmpty then s
  else (run.foldl (State.releaseItem l) (s.modCk l (fun k => { k with run := [] }))).groupRefresh l

/-- One item of a discarded run: the entries of its heavy blocks are dropped, the other held entries are placed (R39). -/
def State.discardItem (s : State) (it : RunItem) : State :=
  match it with
  | .heavy _ => s
  | .entry c => s.placeCapture c

/-- A pending heavy run discarded: its blocks become unsynced if `count`, and its held entries are given to the capture
unit if `give` (R39, R48, R57, R147). -/
def State.discardRun (s : State) (l : LaneNo) (count give : Bool) : State :=
  let run := (s.lane l).ck.run
  if run.isEmpty then s
  else
    let s := s.modCk l (fun k => { k with run := [] })
    let s := if count then s.report l (Counts.addUnsynced (heavyCount run)) else s
    let s := if give then run.foldl State.discardItem s else s
    s.groupRefresh l

/-! ### Opening and closing -/

/-- R79: the aligner's current sequence, on a FRAMED lane that is ALIGNED. -/
def State.openSeq (s : State) (l : LaneNo) : Option FrameSeq :=
  if s.rxFramed l && s.aligned l then some (s.lane l).al.seq else none

/-- R79. On a RAW lane the opening begins a pseudo-frame of its own; heavy blocks that arrived while no window was open and are
released into this one count as one errored frame apart from it (R51 is silent: DESIGN CHOICE, log entry 67). -/
def State.openWindow (s : State) (l : LaneNo) : State :=
  s.modWin l (fun w =>
    { isOpen := true, nextNumber := w.nextNumber + 1, number := w.nextNumber, counts := Counts.zero, frames := 0,
      ticks := 0, pseudo := 0, openTick := s.tick, first := s.openSeq l, last := s.openSeq l, suspect := false,
      banks := Four.all false, errTag := none, tag := if s.rxFramed l then w.tag else w.tag + 1 })

/-- R83: the sequence a closing window's record carries; a RAW lane's record carries none. -/
def State.recordSeq (s : State) (l : LaneNo) (q : Option FrameSeq) : Option FrameSeq := if s.rxFramed l then q else none

/-- R83: the record of a closing lane window. -/
def State.laneRecord (s : State) (l : LaneNo) (r : CloseReason) : WinRecord :=
  let w := (s.lane l).win
  { source := .lane l, number := w.number, reason := r, openTick := w.openTick, closeTick := s.tick,
    frames := w.frames, first := s.recordSeq l w.first, last := s.recordSeq l w.last, counts := w.counts, suspect := w.suspect,
    incomplete := false,
    status := if w.counts.bits = 0 then .undefined else .pending,
    ratio := none, bound := none, verdict := if w.counts.bits = 0 then some .unordered else none, alarmAfter := none,
    serial := s.serial, members := Eight.all false, whole := Eight.all false, lags := Eight.all 0 }

/-- R82; nothing on a lane with no open window. -/
def State.closeWindow (s : State) (l : LaneNo) (r : CloseReason) : State :=
  if !(s.lane l).win.isOpen then s
  else
    let s := if r = .restart then s else s.releaseRun l
    let rec' := s.laneRecord l r
    let s := { s with serial := s.serial + 1 }.fileRecord rec' (r != CloseReason.restart) (s.desc l).notices
    let s := s.modWin l (fun w => { w with isOpen := false })
    if r == CloseReason.length && (s.desc l).rep then s.openWindow l else s

/-- The window ends without a record, a job or a notice (R95). -/
def State.discardWindow (s : State) (l : LaneNo) : State := s.modWin l (fun w => { w with isOpen := false })

/-! ### Advancing -/

/-- R80: frames elapsed rises by 1, stopping at its cap and then setting the saturated flag (R78). -/
def Win.addFrame (w : Win) : Win :=
  { w with
    frames := satAdd cap32 w.frames 1
    counts := { w.counts with sat := w.counts.sat || satHit cap32 w.frames 1 } }

def Win.addTick (w : Win) : Win :=
  { w with
    ticks := satAdd cap32 w.ticks 1
    counts := { w.counts with sat := w.counts.sat || satHit cap32 w.ticks 1 } }

/-- R81: frames elapsed, after a rise, meets a FRAMES n spec. -/
def State.framesDue (s : State) (l : LaneNo) : Bool :=
  match (s.desc l).spec with
  | .frames n => decide (n ≤ (s.lane l).win.frames)
  | _ => false

/-- R81: ticks elapsed, after a rise, meets a TICKS n spec. -/
def State.ticksDue (s : State) (l : LaneNo) : Bool :=
  match (s.desc l).spec with
  | .ticks n => decide (n ≤ (s.lane l).win.ticks)
  | _ => false

/-- A reported sequence becomes the last sequence, and the first if that is absent (R80). -/
def Win.takeSeq (w : Win) (q : FrameSeq) : Win :=
  { w with last := some q, first := if w.first.isNone then some q else w.first }

/-- A new frame begins for the errored-frame records of the window and the run totals (R51, log entry 21). -/
def State.nextFrameTags (s : State) (l : LaneNo) : State :=
  s.modLane l (fun L =>
    { L with win := { L.win with tag := L.win.tag + 1 }, run := { L.run with tag := L.run.tag + 1 } })

/-- A received frame boundary reaches the window unit (R80, R81). -/
def State.windowBoundary (s : State) (l : LaneNo) (q : FrameSeq) : State :=
  let s := s.nextFrameTags l
  if !(s.lane l).win.isOpen then s
  else if !s.counting l then s.modWin l (fun w => w.takeSeq q)
  else
    let s := s.modWin l Win.addFrame
    if s.framesDue l then s.closeWindow l .length else s.modWin l (fun w => w.takeSeq q)

/-- A tick arrival reaches a lane's window (R80, R81). -/
def State.windowTick (s : State) (l : LaneNo) : State :=
  if (s.lane l).win.isOpen && s.counting l then
    let s := s.modWin l Win.addTick
    if s.ticksDue l then s.closeWindow l .length else s
  else s

/-- R80: a RAW window's pseudo-frame position reaches 128: it returns to 0 and frames elapsed rises by 1. -/
def Win.addPseudo (w : Win) : Win := { w.addFrame with pseudo := 0, tag := w.tag + 1 }

/-- A pseudo-frame boundary of a RAW lane's window (R80), with the length test of R81. -/
def State.pseudoBoundary (s : State) (l : LaneNo) : State :=
  let s := s.modWin l Win.addPseudo
  if s.framesDue l then s.closeWindow l .length else s

/-- R88: the run totals' own pseudo-frame position. -/
def RunTotals.rawAdvance (r : RunTotals) : RunTotals :=
  if r.pseudo + 1 < 128 then { r with pseudo := r.pseudo + 1 } else { r with pseudo := 0, tag := r.tag + 1 }

/-- R80, R88: a payload block that a counting RAW lane's checker has taken. -/
def State.rawAdvance (s : State) (l : LaneNo) : State :=
  let s := s.modLane l (fun L => { L with run := L.run.rawAdvance })
  if !(s.lane l).win.isOpen then s
  else if (s.lane l).win.pseudo + 1 < 128 then s.modWin l (fun w => { w with pseudo := w.pseudo + 1 })
  else s.pseudoBoundary l

end Sys2Proof.Machine
end

