-- ==== Sys2Proof/Machine/Checker.lean ====
section
/-! DEFINITION. The pattern checker (chapter 3) and the hold control's check of it (R55). -/

namespace Sys2Proof.Machine

/-- R40: the hunt reason by framing, descriptor and aligner. -/
def State.huntReason (s : State) (l : LaneNo) : HuntReason :=
  let user := patIsUser (s.rxPat l).kind
  if s.rxFramed l then
    if !s.aligned l then .waitAlign else if user then .waitPhase else .waitSeed
  else if user then .noPhaseSource else .waitSeed

/-- An entry to HUNT (R40). The confirm run is 0 at every entry: R39, R40 and R44 say so of some of them only (DESIGN CHOICE,
log entry 48). -/
def State.enterHunt (s : State) (l : LaneNo) : State :=
  let r := s.huntReason l
  s.modCk l (fun k => { k with state := .hunt, reason := r, confirmRun := 0 })

/-- R39: a checker that is not OFF is forced into HUNT; see `discardRun` for `count` and `give`. SYNC_CHANGE is sent before the
group learns that the lane has ceased to contribute, and so before a WINDOW_CLOSED of the group that follows from that (DESIGN
CHOICE, log entry 58). -/
def State.forceHunt (s : State) (l : LaneNo) (cause : SyncCause) (count give : Bool) : State :=
  if s.ckOff l then s
  else
    let wasLocked := (s.lane l).ck.state == .locked
    let s := (s.discardRun l count give).enterHunt l
    let s := if wasLocked then s.notify (.syncChange l .hunt cause s.tick) else s
    s.groupRefresh l

/-- R38: a checker that is not OFF is stopped, as STOP_RX, the supervisor's RELEASE and a change to PASS stop it. SYNC_CHANGE
before the group's part: DESIGN CHOICE, log entry 58. -/
def State.stopChecker (s : State) (l : LaneNo) : State :=
  if s.ckOff l then s
  else
    let wasLocked := (s.lane l).ck.state == .locked
    let s := (s.releaseRun l).closeWindow l .stop
    let s := s.modCk l (fun k => { k with state := .off, confirmRun := 0, sinceLock := 0 })
    let s := if wasLocked then s.notify (.syncChange l .off .stop s.tick) else s
    s.groupRefresh l

/-! ### The expected pattern -/

def nextPhase (p len : Nat) : Nat := if p + 1 < len then p + 1 else 0

/-- R43: the expected block, the expected-pattern state advanced by one block. -/
def State.expected (s : State) (l : LaneNo) : Block × State :=
  let d := s.rxPat l
  let k := (s.lane l).ck
  if patIsUser d.kind then
    let r := s.readPattern l (d.start + k.phase) true
    (inverted d.invert r.1, r.2.modCk l (fun k => { k with phase := nextPhase k.phase d.len }))
  else
    let g := prbsBlock d.kind k.stages
    (inverted d.invert g.1, s.modCk l (fun k => { k with stages := g.2 }))

/-- R55: the expected-pattern state advanced by one block without comparing or reading pattern memory. -/
def State.advanceHeld (s : State) (l : LaneNo) : State :=
  let d := s.rxPat l
  s.modCk l (fun k =>
    if patIsUser d.kind then { k with phase := nextPhase k.phase d.len }
    else { k with stages := (prbsBlock d.kind k.stages).2 })

/-! ### Acquisition -/

/-- R41: the seed block. -/
def State.seedBlock (s : State) (l : LaneNo) (b : Block) : State :=
  let d := s.rxPat l
  let st := seedStages (patOrder d.kind) (inverted d.invert b)
  s.modCk l (fun k =>
    if st = 0 then { k with state := .hunt, reason := .waitSeed, confirmRun := 0 }
    else { k with state := .confirm, confirmRun := 0, stages := st })

/-- R42: a pattern phase taken from a good marker. -/
def State.takePhase (s : State) (l : LaneNo) (q : Nat) : State :=
  let k := (s.lane l).ck
  if s.counting l && k.state == .hunt && k.reason == .waitPhase && decide (q < (s.rxPat l).len) then
    s.modCk l (fun k => { k with state := .confirm, confirmRun := 0, phase := q })
  else s

/-- R44, R54, R135: entry to LOCKED. -/
def State.enterLocked (s : State) (l : LaneNo) : State :=
  let s := s.modLane l (fun L =>
    { L with ck := { L.ck with state := .locked, sinceLock := 0 }, firstErr := false })
  s.notify (.syncChange l .locked .locked s.tick)

/-- R44: a block taken in CONFIRM. -/
def State.confirmBlock (s : State) (l : LaneNo) (b : Block) : State :=
  let user := patIsUser (s.rxPat l).kind
  let r := s.expected l
  let s := r.2.report l (Counts.addUnsynced 1)
  if bitErrors b r.1 = 0 then
    let s := s.modCk l (fun k => { k with confirmRun := k.confirmRun + 1 })
    if (s.desc l).confirm ≤ (s.lane l).ck.confirmRun then s.enterLocked l else s
  else if user then s.modCk l (fun k => { k with state := .hunt, reason := .waitPhase, confirmRun := 0 })
  else s.seedBlock l b

/-! ### Loss of synchronization -/

def lossCause : LossKind → SyncCause
  | .marker => .lossMarker
  | _ => .lossBlock

/-- R48 after the pending heavy run has been discarded: steps 3 to 6, and the SYNC_LOSS trigger (R136). The TRIGGER notice is
sent before the SYNC_CHANGE notice: R136 orders the capture entries alone (DESIGN CHOICE, log entry 47). SYNC_CHANGE before the
group's part: DESIGN CHOICE, log entry 58. -/
def State.countLoss (s : State) (l : LaneNo) (kind : LossKind) (seq : Option FrameSeq) (pos : Nat) : State :=
  let s := s.report l Counts.addSyncLoss
  let s := s.offerEvent l .syncLoss seq pos
  let s := if s.trigJudged l && (s.desc l).trigger == .syncLoss then s.fireTrigger l seq pos s.tick else s
  let s := s.modCk l (fun k => { k with state := .lost, lastLoss := kind })
  (s.notify (.syncChange l .lost (lossCause kind) s.tick)).groupRefresh l

/-! ### The locked checker -/

/-- R45 to R48: a block taken in LOCKED; `fp` is its frame sequence and position on a FRAMED lane. -/
def State.lockedBlock (s : State) (l : LaneNo) (b : Block) (fp : Option (FrameSeq × Nat)) : State :=
  let r := s.expected l
  let e := bitErrors b r.1
  let s := r.2
  let L := s.lane l
  let c : Checked :=
    { errs := e, seq := fp.map Prod.fst
      pos := match fp with
        | some p => p.2
        | none => L.ck.sinceLock.toNat
      tick := s.tick, wants := policyAdmits (s.desc l).policy .bitErrors, winTag := L.win.tag, runTag := L.run.tag }
  let s := s.modCk l (fun k => { k with sinceLock := k.sinceLock + 1 })
  if e < (s.desc l).heavy then (s.releaseRun l).countBlock l c
  else
    let full := (s.desc l).lossRun ≤ heavyCount (s.lane l).ck.run + 1
    let s := s.modCk l (fun k => { k with run := k.run ++ [.heavy c] })
    if full then (s.discardRun l true true).countLoss l .block c.seq c.pos else s

/-! ### A payload block -/

/-- What a counting checker does with a payload block (R40 to R49). -/
def State.checkBlock (s : State) (l : LaneNo) (b : Block) (fp : Option (FrameSeq × Nat)) : State :=
  let s := if (s.lane l).ck.state == .lost && (s.desc l).autoResync then s.enterHunt l else s
  match (s.lane l).ck.state with
  | .off => s
  | .lost => s.report l (Counts.addUnsynced 1)
  | .hunt =>
    let s := s.report l (Counts.addUnsynced 1)
    if (s.lane l).ck.reason == .waitSeed then s.seedBlock l b else s
  | .confirm => s.confirmBlock l b
  | .locked => s.lockedBlock l b fp

/-- A payload block reaching the checker (R36, R52, R55, R80). -/
def State.checkerTake (s : State) (l : LaneNo) (b : Block) (fp : Option (FrameSeq × Nat)) : State :=
  if s.ckOff l then s
  else if s.counting l then
    let s := s.checkBlock l b fp
    if s.rxFramed l then s else s.rawAdvance l
  else
    let s := s.report l Counts.addHeld
    match (s.lane l).ck.state with
    | .confirm => s.advanceHeld l
    | .locked => s.advanceHeld l
    | _ => s

/-! ### Alignment and the checker -/

/-- R40: the reason of a counting checker in HUNT when its lane's aligner has entered ALIGNED. -/
def State.noteAligned (s : State) (l : LaneNo) : State :=
  if s.counting l && (s.lane l).ck.state == .hunt then s.enterHunt l else s

/-- R55: the check a FRAMED lane's checker makes when a hold lets it count. -/
def State.holdEndCheck (s : State) (l : LaneNo) : State :=
  if !s.rxFramed l then s
  else
    match (s.lane l).ck.state with
    | .locked => if s.aligned l then s else (s.discardRun l true true).countLoss l .marker none 0
    | .confirm => if s.aligned l then s else s.enterHunt l
    | .hunt =>
      if !s.aligned l then s.enterHunt l
      else if (s.lane l).ck.reason == .waitAlign then s.enterHunt l else s
    | _ => s

/-! ### Holds -/

/-- R138: a hold request. -/
def State.requestHold (s : State) (l : LaneNo) : State :=
  if (s.lane l).hold == .run then (s.modLane l (fun L => { L with hold := .held })).groupRefresh l else s

/-- R136 step 4: the hold requests of triggers, made when the whole arrival has been accounted. -/
def State.settleHold (s : State) (l : LaneNo) : State :=
  if (s.lane l).holdReq then (s.modLane l (fun L => { L with holdReq := false })).requestHold l else s

def State.settleHolds (s : State) : State := s.forLanes (fun l s => s.settleHold l)

/-- R141: the end of a frame step; nothing on a lane that is not STEPPING. STEP_DONE is sent before the group learns that the lane
has ceased to contribute (DESIGN CHOICE, log entry 58). -/
def State.endStep (s : State) (l : LaneNo) (q : Option FrameSeq) : State :=
  if (s.lane l).hold == .stepping then
    let s := s.modLane l (fun L => { L with hold := .held, stepCount := 0 })
    (s.notify (.stepDone l q (s.lane l).ck.state s.tick)).groupRefresh l
  else s

end Sys2Proof.Machine
end

