-- ==== Sys2Proof/Machine/Marker.lean ====
section
/-! DEFINITION. The marker block: its fields, its check, building and reading it (R5, R7, 11.7 Marker block). -/

namespace Sys2Proof.Machine

/-- The fields of a marker that vary (R5). -/
structure Marker where
  id : LaneNo
  lock : Bool
  alarm : FarAlarm
  word : Bool
  toggle : Bool
  seq : FrameSeq
  octet : Octet
  phase : Nat
  recordEnd : Bool
  resume : Bool
  resumeToggle : Bool
deriving DecidableEq, Repr

def FarAlarm.code : FarAlarm → Nat
  | .clear => 0 | .degraded => 1 | .failed => 2 | .unknown => 3

def farAlarmOf (n : Nat) : FarAlarm :=
  if n = 0 then .clear else if n = 1 then .degraded else if n = 2 then .failed else .unknown

/-- The sum of octets 0..6, modulo 256. -/
def markerSum (b : Block) : Octet :=
  octetOf b 0 + octetOf b 1 + octetOf b 2 + octetOf b 3 + octetOf b 4 + octetOf b 5 + octetOf b 6

/-- Octets 0..6 of a marker; the must-be-zero bit 55 and the check octet are 0. -/
def markerFields (m : Marker) : Block :=
  field 0 8 0xB4 ||| field 8 3 m.id.val ||| flag 11 m.lock ||| field 12 2 m.alarm.code ||| flag 14 m.word
    ||| flag 15 m.toggle ||| field 16 16 m.seq.toNat ||| field 32 8 m.octet.toNat ||| field 40 12 m.phase
    ||| flag 52 m.recordEnd ||| flag 53 m.resume ||| flag 54 m.resumeToggle

/-- R7: the check is 255 minus the sum of octets 0..6 modulo 256. -/
def buildMarker (m : Marker) : Block :=
  markerFields m ||| field 56 8 (255 - markerSum (markerFields m)).toNat

/-- R7: the three tests of a good marker. -/
def goodMarker (b : Block) : Bool :=
  octetOf b 0 == 0xB4 && !b.getLsbD 55 && octetOf b 7 == 255 - markerSum b

def readMarker (b : Block) : Marker where
  id := ⟨fieldAt b 8 3, Nat.mod_lt _ (by decide)⟩
  lock := b.getLsbD 11
  alarm := farAlarmOf (fieldAt b 12 2)
  word := b.getLsbD 14
  toggle := b.getLsbD 15
  seq := b.extractLsb' 16 16
  octet := octetOf b 4
  phase := fieldAt b 40 12
  recordEnd := b.getLsbD 52
  resume := b.getLsbD 53
  resumeToggle := b.getLsbD 54

end Sys2Proof.Machine
end

