-- ==== Sys2Proof/Machine/Link.lean ====
section
/-! DEFINITION. The marker channel: UP and DOWN, the outbound queue, sending and taking octets, and inbound records
(chapter 10.1 to 10.4). -/

namespace Sys2Proof.Machine

def State.modLink (s : State) (f : Link → Link) : State := { s with link := f s.link }

/-- The lane is the management lane (R152). -/
def State.isMgmt (s : State) (l : LaneNo) : Bool :=
  match s.chan with
  | none => false
  | some c => c.lane == l

def State.remoteEnable (s : State) : Bool :=
  match s.chan with
  | none => false
  | some c => c.enable

def State.handshake (s : State) : Bool :=
  match s.chan with
  | none => true
  | some c => c.mode == .handshake

/-! ### UP and DOWN -/

/-- R154: entry to UP. -/
def State.linkEnter (s : State) : State :=
  s.modLink (fun k =>
    { k with up := true, sendToggle := false, sendIdx := 0, lastTaken := true, resume := false, asm := [],
             skipping := false })

/-- R154: departure from UP. -/
def State.linkDepart (s : State) : State :=
  let part := !s.link.asm.isEmpty
  let s := s.modLink (fun k => { k with up := false, sendIdx := 0, asm := [], skipping := false })
  if part then s.notify (.protocolFault .channelDown none) else s

/-- The aligner of a lane has entered ALIGNED. -/
def State.linkAligned (s : State) (l : LaneNo) : State :=
  if s.isMgmt l && s.remoteEnable && !s.link.up then s.linkEnter else s

/-- The aligner of a lane has left ALIGNED, or was reset. -/
def State.linkLeft (s : State) (l : LaneNo) : State := if s.isMgmt l && s.link.up then s.linkDepart else s

/-! ### The outbound queue -/

/-- A record other than SEND_PEER's joins the outbound queue, or is lost (R156). -/
def State.joinOutbound (s : State) (r : PeerRec) : State :=
  if s.link.outbound.length < 4 then s.modLink (fun k => { k with outbound := k.outbound ++ [r] })
  else s.modLink (fun k => { k with peerLost := true })

/-- A PEER_RESPONSE (R160). -/
def peerResponse (code tag : Octet) (st : Status) (body : List Octet) : PeerRec := ⟨2, code, tag, st.code, body⟩

/-- The sender moves to the next octet of the head record, or past its last octet to the next record. -/
def Link.advance (k : Link) : Link :=
  match k.outbound with
  | [] => k
  | r :: rest =>
    if k.sendIdx + 1 < r.octets.length then { k with sendIdx := k.sendIdx + 1 }
    else { k with outbound := rest, sendIdx := 0 }

/-- What the management lane's marker carries of the channel (R157, R158, R159). -/
structure SendFields where
  word : Bool
  toggle : Bool
  octet : Octet
  recordEnd : Bool
  resume : Bool
  resumeToggle : Bool
deriving DecidableEq, Repr

def SendFields.zero : SendFields := ⟨false, false, 0, false, false, false⟩

def Link.sendFields (k : Link) (handshake : Bool) : SendFields :=
  if !k.up then SendFields.zero
  else
    let resume := handshake && k.resume
    match k.outbound with
    | [] => { SendFields.zero with resume := resume, resumeToggle := resume && k.lastTaken }
    | r :: _ =>
      { word := true, toggle := handshake && k.sendToggle, octet := r.octets.getD k.sendIdx 0
        recordEnd := k.sendIdx + 1 == r.octets.length, resume := resume, resumeToggle := resume && k.lastTaken }

/-- R159: in CONTINUOUS mode an octet placed in a marker is sent. -/
def State.octetPlaced (s : State) : State := if s.link.up && !s.handshake then s.modLink Link.advance else s

/-- R157: the held octet acknowledged by a good marker. -/
def State.ackOctet (s : State) (m : Marker) : State :=
  if s.link.up && s.handshake && m.resume && m.resumeToggle == s.link.sendToggle && !s.link.outbound.isEmpty then
    s.modLink (fun k => { k.advance with sendToggle := !k.sendToggle })
  else s

/-! ### Inbound records -/

/-- R160: a valid channel record; it also clears the supervisor's stage flags (R162). -/
def State.inboundRecord (s : State) (r : PeerRec) : State :=
  let s := { s with sup := { s.sup with armed := false, warned := false } }
  if r.kind = 1 then
    if s.permit.contains r.code then
      if s.cmdQ.length < 8 then
        { s with cmdQ := s.cmdQ ++ [⟨.remote, r.code, r.tag, r.target, 0, 0, packOctets 8 r.body⟩] }
      else s.joinOutbound (peerResponse r.code r.tag .busy [])
    else s.joinOutbound (peerResponse r.code r.tag .denied [])
  else if r.kind = 4 then s
  else s.notify (.peerRecord r)

/-- A complete record: valid if its kind is one of the four (R155). -/
def State.completeRecord (s : State) (os : List Octet) : State :=
  let r : PeerRec := ⟨os.getD 0 0, os.getD 1 0, os.getD 2 0, os.getD 4 0, os.drop 5⟩
  if 1 ≤ r.kind.toNat ∧ r.kind.toNat ≤ 4 then s.inboundRecord r
  else s.notify (.protocolFault .channelFormat none)

/-- R155: a taken octet is judged by the inbound assembly. -/
def State.assemble (s : State) (o : Octet) (recordEnd : Bool) : State :=
  if s.link.skipping then
    if recordEnd then s.modLink (fun k => { k with skipping := false, asm := [] }) else s
  else
    let a := s.link.asm ++ [o]
    let len := (a.getD 3 0).toNat
    let whole := decide (5 ≤ a.length) && a.length == 5 + len
    let empty := s.modLink (fun k => { k with asm := [] })
    if recordEnd then
      if whole && decide (len ≤ 59) then empty.completeRecord a
      else empty.notify (.protocolFault .channelFormat none)
    else if whole || (a.length == 4 && decide (59 < len)) then
      (s.modLink (fun k => { k with asm := [], skipping := true })).notify (.protocolFault .channelFormat none)
    else s.modLink (fun k => { k with asm := a })

/-- R158, R159: the channel octet of a good marker is taken. -/
def State.takeOctet (s : State) (m : Marker) : State :=
  if s.handshake then
    if m.word && m.toggle != s.link.lastTaken then
      (s.modLink (fun k => { k with lastTaken := m.toggle, resume := true })).assemble m.octet m.recordEnd
    else s
  else if m.word then s.assemble m.octet m.recordEnd
  else s

/-- The channel fields of a good marker taken on a lane: used on the management lane while UP; the acknowledgement is
taken before the octet (log entry 25). -/
def State.takeChannelFields (s : State) (l : LaneNo) (m : Marker) : State :=
  if s.isMgmt l && s.link.up then (s.ackOctet m).takeOctet m else s

end Sys2Proof.Machine
end

