-- ==== Sys2Proof/Machine/Processor.lean ====
section
/-! DEFINITION. The command processor (R167): taking the oldest command, the checks in their order, the response, and the
remote action set with the supervisor's activity (R161, R162). -/

namespace Sys2Proof.Machine

/-! ### Remote action set -/

/-- The lane has an entry in the remote action set (R161). -/
def RemoteActs.any (r : RemoteActs) : Bool := r.echoSet.isSome || r.txStarted || r.rxStarted

/-- The number of entries of one lane. -/
def RemoteActs.entries (r : RemoteActs) : Nat := r.echoSet.isSome.toNat + r.txStarted.toNat + r.rxStarted.toNat

/-- The number of entries of the remote action set. -/
def State.remoteEntries (s : State) : Nat := lanesAll.foldl (fun n l => n + (s.lane l).remote.entries) 0

/-- The supervisor period P; the supervisor is off while no channel settings are loaded. -/
def State.supPeriod (s : State) : Nat := (s.chan.map ChanSettings.period).getD 0

/-- R162: active while the remote action set is not empty and P is above 0. -/
def State.supActive (s : State) : Bool := s.supPeriod ≠ 0 && lanesAll.any (fun l => (s.lane l).remote.any)

/-- R162: on becoming inactive the tick count and the stage flags are cleared. -/
def State.settleSup (s : State) : State :=
  if s.supActive then s else { s with sup := { s.sup with ticks := 0, armed := false, warned := false } }

/-- A change of one lane's entries in the remote action set. -/
def State.modRemote (s : State) (l : LaneNo) (f : RemoteActs → RemoteActs) : State :=
  (s.modLane l (fun L => { L with remote := f L.remote })).settleSup

/-! ### Taking a command -/

/-- The oldest command, if the processor is free and the egress record queue has a free place (R167). -/
def State.nextCommand (s : State) : Option CmdRec :=
  if s.waiting || decide (16 ≤ s.egress.length) then none else s.cmdQ.head?

/-- The oldest command, taken by the row of its code (log entry 1). -/
def State.takeCommand (s : State) (code : Octet) : Option CmdRec := s.nextCommand.filter (fun r => r.code == code)

/-! ### Answering -/

/-- The octets of a response body on the marker channel (R160). -/
def bodyOctets (body : Body) : List Octet := body.blocks.flatMap blockOctets

/-- R160: the PEER_RESPONSE of a REMOTE command; a body of 8 blocks or more does not fit. -/
def responseRec (r : CmdRec) (st : Status) (body : Body) : PeerRec :=
  if body.blocks.length < 8 then peerResponse r.code r.tag st (bodyOctets body)
  else peerResponse r.code r.tag .badLength []

/-- R167: the command leaves the command queue, the processor is free, and the response is placed by the command's
origin. -/
def State.answer (s : State) (r : CmdRec) (st : Status) (body : Body) : State :=
  let s := { s with cmdQ := s.cmdQ.drop 1, waiting := false }
  match r.origin with
  | .localPort => { s with egress := s.egress ++ [⟨false, r.code, r.tag, r.target, st.code, body⟩] }
  | .remote => s.joinOutbound (responseRec r st body)

/-- What a command's own rule decides: the state after its effect, the status and the response body. -/
structure Reply where
  s : State
  status : Status
  body : Body

def Reply.of (s : State) (st : Status) : Reply := ⟨s, st, .empty⟩
def Reply.ok (s : State) : Reply := ⟨s, .ok, .empty⟩

/-- The reply given to its command. -/
def Reply.give (a : Reply) (r : CmdRec) : State := a.s.answer r a.status a.body

/-! ### The checks of R167 -/

/-- A command without parameters has no body. -/
def noBody (r : CmdRec) : Option Unit := if r.body.isEmpty then some () else none

/-- The parameters of a command, none where the body has the wrong length; an empty body is too short for any
(log entry 2). -/
def bodyOf {α : Type} (p : BodyReading α) (r : CmdRec) : Option α :=
  if r.body.isEmpty then none
  else match p with
    | .wrongLength => none
    | .params a => some a

/-- No range is named for the target. -/
def anyTarget (_ : Nat) : Option Unit := some ()

/-- R167: the checks in their order, then the command's own rule. `free` says whether the command is taken
UNCONFIGURED. -/
def State.judgeCommand {τ β : Type} (s : State) (r : CmdRec) (free : Bool) (target : Nat → Option τ)
    (body : CmdRec → Option β) (own : CmdRec → τ → β → Reply) : Reply :=
  match target r.target.toNat with
  | none => Reply.of s .badTarget
  | some t =>
    if !s.configured && !free then Reply.of s .unconfigured
    else if r.mbz5 ≠ 0 ∨ r.mbz6 ≠ 0 then Reply.of s .badField
    else
      match body r with
      | none => Reply.of s .badLength
      | some b => own r t b

/-- A row of the command processor: the oldest command, if it is the row's, is taken, judged and answered. -/
def State.command {τ β : Type} (s : State) (code : Octet) (free : Bool) (target : Nat → Option τ)
    (body : CmdRec → Option β) (own : CmdRec → τ → β → Reply) : State :=
  match s.takeCommand code with
  | none => s
  | some r => (s.judgeCommand r free target body own).give r

/-- A command that names a lane and has no parameters. -/
def State.laneCommand (s : State) (code : Octet) (own : CmdRec → LaneNo → Reply) : State :=
  s.command code false laneOf noBody (fun r l _ => own r l)

/-- The group a target names (log entry 23). -/
def groupOf (n : Nat) : Option GroupId := if n = 8 then some .a else if n = 9 then some .b else none

/-- The source a target names (R87). -/
def sourceOf (n : Nat) : Option Source :=
  match laneOf n with
  | some l => some (.lane l)
  | none => (groupOf n).map Source.group

end Sys2Proof.Machine
end

