-- ==== Sys2Proof/Machine/Context.lean ====
section
/-! DEFINITION. Context records and SAVE_CONTEXT, SNAPSHOT_CONTEXT and RESTORE_CONTEXT with their wait (chapter 9). -/

namespace Sys2Proof.Machine

/-! ### The record -/

/-- R144: the context record of a lane. -/
def State.contextOf (s : State) (l : LaneNo) : ContextRecord :=
  let L := s.lane l
  let w := L.win
  { version := 1, lane := l.val, winPresent := w.isOpen.toNat, alarm := L.alarm.code, ckState := L.ck.state.code,
    runSat := L.run.counts.sat, winSat := w.isOpen && w.counts.sat, winSuspect := w.isOpen && w.suspect,
    number := if w.isOpen then w.number else w.nextNumber,
    frames := if w.isOpen then w.frames else 0, ticks := if w.isOpen then w.ticks else 0,
    run := L.run.counts, win := if w.isOpen then w.counts else Counts.zero, mbz := true }

/-- R149 check 5: N a whole multiple of 64 within its cap. -/
def Counts.goodBits (c : Counts) : Bool := c.bits % 64 == 0 && decide (c.bits ≤ capBits)

/-- R149 check 7: every other counter within its cap. Checks 5 and 6 judge N against its cap and E against N alone, so E's own cap
is taken to be judged here (DESIGN CHOICE, log entry 64). -/
def Counts.goodOthers (c : Counts) : Bool :=
  c.errors ≤ capBlocks && c.erroredBlocks ≤ capBlocks && c.erroredFrames ≤ capFrames && c.syncLosses ≤ cap32
    && c.unsynced ≤ capBlocks && c.held ≤ capBlocks && c.markerErrors ≤ cap32 && c.injBits ≤ capBits
    && c.injBlocks ≤ capBlocks

/-- The fields of check 3 of R149. -/
def ContextRecord.goodNames (c : ContextRecord) : Bool :=
  c.lane ≤ 7 && 1 ≤ c.alarm && c.alarm ≤ 3 && c.winPresent ≤ 1 && c.ckState ≤ 4

/-- Check 4 of R149: nothing of a window where none is present. -/
def ContextRecord.goodAbsent (c : ContextRecord) : Bool :=
  c.winPresent != 0
    || (c.win.list.all (· == 0) && !c.winSat && !c.winSuspect && c.frames == 0 && c.ticks == 0)

/-- R149: the first check that fails, by its number. -/
def ContextRecord.failed (c : ContextRecord) : Option Nat :=
  if c.version ≠ 1 then some 1
  else if !c.mbz then some 2
  else if !c.goodNames then some 3
  else if !c.goodAbsent then some 4
  else if !c.run.goodBits || !c.win.goodBits then some 5
  else if c.run.bits < c.run.errors ∨ c.win.bits < c.win.errors then some 6
  else if !c.run.goodOthers || !c.win.goodOthers then some 7
  else none

/-! ### Effects -/

/-- R147: the record is formed before the rest. -/
def State.saveContext (s : State) (l : LaneNo) : Reply :=
  let rec' := s.contextOf l
  let s := ((s.forceHunt l .save false false).discardWindow l).clearRun l
  let s := s.forgetAlarm l
  ⟨if s.ckOff l then s else s.openWindow l, .ok, .context rec'⟩

/-- R150: a loaded set of counts is saturated if its flag says so or a counter stands at its cap. -/
def Counts.loaded (c : Counts) (sat : Bool) : Counts := { c with sat := sat || c.atCap }

/-- R150 step 2. -/
def State.loadRun (s : State) (l : LaneNo) (c : ContextRecord) : State :=
  s.modLane l (fun L => { L with run := ⟨c.run.loaded c.runSat, s.tick, 0, none, L.run.tag + 1⟩ })

/-- R150 steps 3 and 4. -/
def State.loadWindow (s : State) (l : LaneNo) (c : ContextRecord) : State :=
  if c.winPresent = 0 then s.modWin l (fun w => { w with isOpen := false, nextNumber := c.number })
  else
    s.modWin l (fun w =>
      { isOpen := true, nextNumber := c.number + 1, number := c.number, counts := c.win.loaded c.winSat,
        frames := c.frames, ticks := c.ticks, pseudo := 0, openTick := s.tick, first := s.openSeq l,
        last := s.openSeq l, suspect := c.winSuspect, banks := Four.all false, errTag := none, tag := w.tag + 1 })

def alarmOfCode (n : Nat) : Alarm := if n = 1 then .clear else if n = 2 then .degraded else .failed

/-- R150. -/
def State.loadContext (s : State) (l : LaneNo) (c : ContextRecord) : State :=
  (((s.forceHunt l .restore false false).loadRun l c).loadWindow l c).modLane l
    (fun L => { L with alarm := alarmOfCode c.alarm, alarmKnown := true })

/-- R148. -/
def State.restoreContext (s : State) (l : LaneNo) (c : ContextRecord) : Reply :=
  if (s.lane l).hold ≠ .held then Reply.of s .notHeld
  else if s.ckOff l then Reply.of s .badTarget
  else
    match c.failed with
    | some n => ⟨s, .badField, .failedCheck n⟩
    | none => Reply.ok (s.loadContext l c)

/-! ### The wait -/

/-- A context command acts, its wait ended (R146 to R148). -/
def State.actContext (s : State) (r : CmdRec) (l : LaneNo) : Reply :=
  if r.code = 0x24 then s.saveContext l
  else if r.code = 0x25 then ⟨s, .ok, .context (s.contextOf l)⟩
  else s.restoreContext l (readContext r.body)

/-- R145: a REMOTE save or snapshot is refused. -/
def refusesRemote (r : CmdRec) : Bool := r.origin == .remote && (r.code == 0x24 || r.code == 0x25)

/-- The body of a context command: a RESTORE_CONTEXT carries a record of 22 blocks (R144). -/
def contextBody (code : Octet) (r : CmdRec) : Option Unit :=
  if r.body.length = (if code = 0x26 then 22 else 0) then some () else none

/-- R145: the command passes its checks and its lane has a job. -/
def State.mustWait (s : State) (code : Octet) (r : CmdRec) : Bool :=
  s.configured && r.mbz5 == 0 && r.mbz6 == 0 && (contextBody code r).isSome && !refusesRemote r
    && ((laneOf r.target.toNat).map s.hasJob).getD false

/-- R145: the checks, and then the effect at once or the wait. -/
def State.contextCommand (s : State) (code : Octet) : State :=
  match s.takeCommand code with
  | none => s
  | some r =>
    if s.mustWait code r then { s with waiting := true }
    else s.command code false laneOf (contextBody code) (fun r l _ =>
      if refusesRemote r then Reply.of s .badLength else s.actContext r l)

/-- R100, R145: a waiting context command acts once its lane has no job. -/
def State.endWait (s : State) : State :=
  if s.waiting then
    match s.cmdQ with
    | [] => s
    | r :: _ =>
      match laneOf r.target.toNat with
      | none => s
      | some l => if s.hasJob l then s else (s.actContext r l).give r
  else s

/-- SAVE_CONTEXT (R145, R147). -/
def execSaveContext (s : State) : Out := .next (s.contextCommand 0x24)

/-- SNAPSHOT_CONTEXT (R145, R146). -/
def execSnapshotContext (s : State) : Out := .next (s.contextCommand 0x25)

/-- RESTORE_CONTEXT (R145, R148 to R150). -/
def execRestoreContext (s : State) : Out := .next (s.contextCommand 0x26)

/-- RATIO_JOB_COMPLETE (R99): the job in service completes, and a wait that it ends ends. -/
def execRatioJobComplete (s : State) : Out :=
  match s.jobs with
  | [] => .next s
  | j :: _ => if j.inputs.isSome then .next s.completeJob.endWait else .next s

end Sys2Proof.Machine
end

