-- ==== Sys2Proof/Machine/LaneMap.lean ====
section
/-! DEFINITION. The lane map's identity check and follow adoption (R61 to R63). -/

namespace Sys2Proof.Machine

def State.setRxId (s : State) (l r : LaneNo) : State :=
  { s with laneMap := s.laneMap.set l ((s.laneMap.get l).map (fun e => { e with rxId := r })) }

/-- R61, R63: the condition is entered with its notice and capture entry, or brought up to date. -/
def State.mismatch (s : State) (l r : LaneNo) (reason : IdReason) (q : FrameSeq) : State :=
  let present := (s.lane l).idm.isSome
  let s := s.modLane l (fun L => { L with idm := some ⟨reason, r⟩ })
  if present then s
  else
    let s := s.notify (.laneIdMismatch l r (s.map l).rxId reason s.tick)
    if !s.ckOff l && s.counting l then s.offerEvent l .laneIdMismatch (some q) 0 else s

/-- R62: some other lane with follow yes holds rx_id `r`. -/
def State.heldByOther (s : State) (l r : LaneNo) : Bool :=
  lanesAll.any (fun j => j != l && (s.laneMap.get j).isSome && (s.map j).follow && (s.map j).rxId == r)

/-- R61, R62: the identity check of a good marker with logical id `r` and frame sequence `q`. -/
def State.identity (s : State) (l r : LaneNo) (q : FrameSeq) : State :=
  if r = (s.map l).rxId then s.modLane l (fun L => { L with idm := none })
  else if !(s.map l).follow then s.mismatch l r .mismatch q
  else if s.heldByOther l r then s.mismatch l r .duplicate q
  else ((s.setRxId l r).modLane l (fun L => { L with idm := none })).forceHunt l .follow true true

end Sys2Proof.Machine
end

