-- ==== Sys2Proof/Machine/Receive.lean ====
section
/-! DEFINITION. The marker aligner and what a received block does (R8 to R17, R33, R36, R169). -/

namespace Sys2Proof.Machine

/-- R9: the aligner of a lane set to its reset values, with what follows for its identity condition and the marker
channel. The errored-frame records of the open window and the run totals begin a new frame, and both pseudo-frame positions
stay as they stand: for a held write that changes the framing of a lane the spec says neither (DESIGN CHOICE, log entry
61). -/
def State.seekAligner (s : State) (l : LaneNo) : State :=
  ((s.modLane l (fun L => { L with al := Aligner.reset, idm := none })).nextFrameTags l).linkLeft l

/-- The aligner of one lane reset, and the leading sequence of its group recomputed (R66; R90 step 1 asks for it at a RESTART_LANE,
whatever state the aligner was in). The group judges the lane's contributing flag at once, and its window closes with LENGTH if that
completes R73: R90's "not closed" is read of the restart itself (DESIGN CHOICE, log entry 68). The marker channel's departure, with
its notice (R154), is made before the group's update (DESIGN CHOICE, log entry 46). -/
def State.resetAligner (s : State) (l : LaneNo) : State := (s.seekAligner l).groupLeft l

/-- The aligner reset of a framing change (R8): the group's leading sequence is recomputed where the aligner thereby leaves ALIGNED,
and not otherwise (R66). -/
def State.reframeAligner (s : State) (l : LaneNo) : State := if s.aligned l then s.resetAligner l else s.seekAligner l

/-- Every aligner reset at once; the groups are brought up to date when all have left ALIGNED (log entry 33). -/
def State.resetAligners (s : State) : State :=
  ((s.forLanes (fun l s => s.seekAligner l)).groupEvent .a none).groupEvent .b none

/-- R17: a marker error raises the total, and the window's and run totals' marker errors while the checker is not OFF
and the lane counts. -/
def State.markerError (s : State) (l : LaneNo) : State :=
  let s := s.modAl l (fun a => { a with errs := a.errs.add 1 })
  if !s.ckOff l && s.counting l then s.report l Counts.addMarkerError else s

/-- R17: the capture entry of a marker error, on the same terms. -/
def State.markerErrorEntry (s : State) (l : LaneNo) (q : FrameSeq) : State :=
  if !s.ckOff l && s.counting l then s.offerEvent l .markerError (some q) 0 else s

/-- A received frame boundary reaches the window unit and the group aligner (R14); the hold control takes it at the end
of the arrival (log entry 15). -/
def State.frameBoundary (s : State) (l : LaneNo) (q : FrameSeq) : State :=
  (s.windowBoundary l q).groupBoundary l q

/-- R136: the FRAME_SEQ trigger of a lane judged for a good marker taken while ALIGNED. -/
def State.fireFrameSeq (s : State) (l : LaneNo) (q : FrameSeq) : State :=
  if s.trigJudged l && (s.desc l).trigger == .frameSeq q.toNat then s.fireTrigger l (some q) 0 s.tick else s

/-- R15: the uses of a good marker taken while ALIGNED. The trigger follows the identity check, so that the TRIGGER entry
stands directly after the entries the marker makes (R136 step 2); the rest is in the order of R15's table (DESIGN CHOICE, log
entry 15). -/
def State.takeMarker (s : State) (l : LaneNo) (m : Marker) : State :=
  let s := (s.identity l m.id m.seq).fireFrameSeq l m.seq
  let s := s.modAl l (fun a => { a with far := .known m.lock m.alarm })
  (s.takePhase l m.phase).takeChannelFields l m

/-- A good marker at an expected position, accepted (R12), or the one that completes TRIAL (R11); the boundary, the
marker's uses and the end of a frame step follow. -/
def State.acceptMarker (s : State) (l : LaneNo) (m : Marker) : State :=
  ((s.frameBoundary l m.seq).takeMarker l m).endStep l (some m.seq)

/-- R11: the third good marker of a TRIAL. -/
def State.completeTrial (s : State) (l : LaneNo) (m : Marker) : State :=
  let s := s.modAl l (fun a => { a with state := .aligned, pos := 0, trial := 0, miss := 0, seq := m.seq })
  ((s.linkAligned l).noteAligned l).acceptMarker l m

/-- R12. A SEQUENCE_JUMP error is reported (R17) before the boundary of the same marker, so in the window that the boundary
closes: R12, R17 and R94 leave the order open (DESIGN CHOICE, log entry 45). -/
def State.goodAligned (s : State) (l : LaneNo) (m : Marker) : State :=
  let jump := m.seq != (s.lane l).al.seq + 1
  let s := s.modAl l (fun a => { a with pos := 0, miss := 0, seq := m.seq })
  let s := if jump then (s.markerError l).markerErrorEntry l m.seq else s
  s.acceptMarker l m

/-- R13, R48: the fourth consecutive bad marker; `q` is the sequence of the position that failed (log entry 14) and the
aligner's own sequence that of the last frame. The checker acts first, with its notices and with what its discarded run and its
loss do to the group (DESIGN CHOICE, log entry 57); then the marker channel's departure, with its notice (R154), is made; then
the group's leading sequence is recomputed (DESIGN CHOICE, log entry 46). -/
def State.markerLoss (s : State) (l : LaneNo) (q : FrameSeq) : State :=
  let last := (s.lane l).al.seq
  let s := s.modAl l (fun a => { a with state := .seek, pos := 0, trial := 0, miss := 0 })
  let s :=
    if !s.counting l then s
    else match (s.lane l).ck.state with
      | .locked => ((s.discardRun l true true).markerErrorEntry l q).countLoss l .marker (some last) 0
      | .hunt => (s.markerErrorEntry l q).enterHunt l
      | .confirm => (s.markerErrorEntry l q).enterHunt l
      | _ => s.markerErrorEntry l q
  (s.linkLeft l).groupLeft l

/-- R13: a bad marker at an expected position while ALIGNED. -/
def State.badAligned (s : State) (l : LaneNo) : State :=
  let q := (s.lane l).al.seq + 1
  let miss := (s.lane l).al.miss
  let s := s.markerError l
  if miss < 3 then
    let s := s.modAl l (fun a => { a with pos := 0, miss := miss + 1, seq := q })
    ((s.markerErrorEntry l q).frameBoundary l q).endStep l (some q)
  else s.markerLoss l q

/-! ### Payload -/

/-- R33: the echo path. -/
def Tx.echo (t : Tx) (b : Block) : Tx :=
  if t.state == .running && t.mode == .echo then
    if t.buf.length < 32 then { t with buf := t.buf ++ [b] } else { t with drops := t.drops.add 1 }
  else t

/-- R169: the receive pass buffer. -/
def Lane.placeRx (L : Lane) (b : Block) : Lane :=
  if L.rxBuf.length < 32 then { L with rxBuf := L.rxBuf ++ [b] } else { L with rxDrops := L.rxDrops.add 1 }

/-- R141: a received block of a RAW lane in STEPPING. Where the framing of a STEPPING lane changes, the step ends by the framing at
each block, the step count going on from where it stands (DESIGN CHOICE, log entry 72). -/
def State.stepRaw (s : State) (l : LaneNo) : State :=
  if (s.lane l).hold == .stepping then
    if (s.lane l).stepCount + 1 < 128 then s.modLane l (fun L => { L with stepCount := L.stepCount + 1 })
    else s.endStep l none
  else s

/-- A payload block handed on by the aligner: one arrival at the echo path, the receive pass buffer and the checker
(R33, R36). -/
def State.payload (s : State) (l : LaneNo) (b : Block) (fp : Option (FrameSeq × Nat)) : State :=
  let s := s.modTx l (fun t => t.echo b)
  let s := if s.rxMode l == some .pass || s.rxMode l == some .monitor then s.modLane l (fun L => L.placeRx b) else s
  let s := s.checkerTake l b fp
  if s.rxFramed l then s else s.stepRaw l

/-! ### A received block -/

/-- R10 to R14 on a FRAMED lane of a CONFIGURED part. -/
def State.alignBlock (s : State) (l : LaneNo) (b : Block) : State :=
  let a := (s.lane l).al
  let m := readMarker b
  match a.state with
  | .seek =>
    if goodMarker b then s.modAl l (fun a => { a with state := .trial, trial := 1, pos := 0, seq := m.seq })
    else s.payload l b none
  | .trial =>
    if a.pos + 1 < 128 then (s.modAl l (fun a => { a with pos := a.pos + 1 })).payload l b none
    else if goodMarker b then
      if a.trial < 2 then s.modAl l (fun a => { a with trial := 2, pos := 0, seq := m.seq })
      else s.completeTrial l m
    else (s.modAl l (fun a => { a with state := .seek, pos := 0, trial := 0 })).payload l b none
  | .aligned =>
    if a.pos + 1 < 128 then (s.modAl l (fun a => { a with pos := a.pos + 1 })).payload l b (some (a.seq, a.pos))
    else if goodMarker b then s.goodAligned l m
    else s.badAligned l

/-- R8. -/
def State.receive (s : State) (l : LaneNo) (b : Block) : State :=
  if s.rxFramed l then s.alignBlock l b else s.payload l b none

/-- RECEIVE_BLOCK. -/
def execReceiveBlock (l : LaneNo) (b : Block) (s : State) : Out := .next (s.receive l b).settleHolds

/-- PSEUDO_FRAME_BOUNDARY (R80): the window's pseudo-frame position of a counting RAW lane stands one short of 128
(log entry 6). -/
def execPseudoFrameBoundary (l : LaneNo) (s : State) : Out :=
  if (s.lane l).win.isOpen && s.counting l && !s.rxFramed l && (s.lane l).win.pseudo == 127 then
    .next (s.pseudoBoundary l).settleHolds
  else .next s

/-- STEP_COUNT_EXPIRY (R141): the step count of a STEPPING RAW lane stands one short of 128, or at it (log entry 6). -/
def execStepCountExpiry (l : LaneNo) (s : State) : Out :=
  if !s.rxFramed l && decide (127 ≤ (s.lane l).stepCount) then .next (s.endStep l none) else .next s

/-- Frames elapsed may rise next (R80): the next block of a FRAMED lane stands at an expected marker position of an ALIGNED aligner,
that of a RAW lane completes the window's pseudo-frame. -/
def State.atFrameEnd (s : State) (l : LaneNo) : Bool :=
  if s.rxFramed l then s.aligned l && decide (127 ≤ (s.lane l).al.pos) else (s.lane l).win.pseudo == 127

/-- The rise of frames elapsed or ticks elapsed that completes the window's length (R81): which one the spec names, and
whether the next rise reaches it. A window gains frames at frame boundaries alone, so that a FRAMES window of a lane that has none
stays open. -/
def State.lengthRise (s : State) (l : LaneNo) : Option (Win → Win) :=
  match (s.desc l).spec with
  | .frames n =>
    if s.atFrameEnd l && decide (n ≤ (s.lane l).win.frames + 1) then
      some (if s.rxFramed l then Win.addFrame else Win.addPseudo)
    else none
  | .ticks n => if n ≤ (s.lane l).win.ticks + 1 then some Win.addTick else none
  | .openEnded => none

/-- LANE_WINDOW_LENGTH_CLOSE (R81): the count that the window spec names rises once more and meets the length, for frames elapsed
where a frame boundary can stand (log entry 6). -/
def execLaneWindowLengthClose (l : LaneNo) (s : State) : Out :=
  if (s.lane l).win.isOpen && s.counting l then
    match s.lengthRise l with
    | some f => .next ((s.modWin l f).closeWindow l .length).settleHolds
    | none => .next s
  else .next s

end Sys2Proof.Machine
end

