-- ==== Sys2Proof/Machine/RxCommands.lean ====
section
/-! DEFINITION. START_RX, STOP_RX, RESYNC, RESTART_LANE and READ_LANE (R37 to R39, R57, R58, R90). -/

namespace Sys2Proof.Machine

/-- R37: the effect of a START_RX that is taken. -/
def State.beginRx (s : State) (l : LaneNo) : State :=
  let s := s.modLane l (fun L =>
    { L with ck := { L.ck with confirmRun := 0, run := [], sinceLock := 0, lastLoss := .none }, firstErr := false })
  (((s.enterHunt l).clearRun l).openWindow l).forgetAlarm l

/-- R37 from its receive-mode check on; a REMOTE one adds RX_STARTED (R161). -/
def State.startRx (s : State) (r : CmdRec) (l : LaneNo) : Reply :=
  if s.rxMode l == some .pass then Reply.of s .badTarget
  else if !s.ckOff l then Reply.of s .busy
  else if !s.rxFramed l && patIsUser (s.rxPat l).kind then Reply.of s .noPhase
  else
    Reply.ok ((s.beginRx l).modRemote l (fun a => { a with rxStarted := a.rxStarted || r.origin == .remote }))

/-- START_RX (R37). -/
def execStartRx (s : State) : Out := .next (s.laneCommand 0x0B s.startRx)

/-- R38 with the remote action entry it removes (R161). -/
def State.stopRx (s : State) (l : LaneNo) : State :=
  ((s.stopChecker l).settleHolds).modRemote l (fun a => { a with rxStarted := false })

/-- STOP_RX (R38). -/
def execStopRx (s : State) : Out := .next (s.laneCommand 0x0C (fun _ l => Reply.ok (s.stopRx l)))

/-- R39. -/
def State.resync (s : State) (l : LaneNo) : State :=
  match (s.lane l).ck.state with
  | .off => s
  | .hunt => s
  | _ => s.forceHunt l .resync true true

/-- RESYNC (R39). -/
def execResync (s : State) : Out := .next (s.laneCommand 0x0D (fun _ l => Reply.ok (s.resync l)))

/-- R57: the checker at a restart. -/
def State.restartChecker (s : State) (l : LaneNo) : State :=
  if s.ckOff l then s
  else (s.forceHunt l .restart false false).modCk l (fun k => { k with sinceLock := 0, lastLoss := .none })

/-- R90, R134: every entry of a lane leaves the capture queue. -/
def State.dropCaptures (s : State) (l : LaneNo) : State := { s with capture := s.capture.filter (fun c => c.lane != l) }

/-- R90, steps 1 to 8. That a LENGTH close of the group window may follow from step 1 is log entry 68. -/
def State.restartLane (s : State) (l : LaneNo) : State :=
  let s := ((s.resetAligner l).restartChecker l).closeWindow l .restart
  let s := (s.modHistory (.lane l) (fun _ => [])).dropLaneJobs l
  let s := ((s.clearRun l).dropCaptures l).forgetAlarm l
  if s.ckOff l then s else s.openWindow l

/-- RESTART_LANE (R90). -/
def execRestartLane (s : State) : Out := .next (s.laneCommand 0x0E (fun _ l => Reply.ok (s.restartLane l)))

/-- R58, R154: the snapshot of a lane. -/
def State.laneView (s : State) (l : LaneNo) : LaneView :=
  let L := s.lane l
  { txState := L.tx.state, txMode := L.tx.mode, pendStart := L.tx.pendStart, pendStop := L.tx.pendStop,
    pendMode := L.tx.pendMode, underrun := L.tx.underrun, drops := L.tx.drops,
    alState := L.al.state, seq := L.al.seq, errs := L.al.errs, far := L.al.far,
    rxMode := s.rxMode l, ckState := L.ck.state,
    reason := if L.ck.state = .hunt then some L.ck.reason else none,
    confirmRun := L.ck.confirmRun, heavyBlocks := heavyCount L.ck.run, sinceLock := L.ck.sinceLock,
    lastLoss := L.ck.lastLoss, rxId := (s.laneMap.get l).map LaneMapEntry.rxId,
    hold := L.hold, armed := L.armed,
    idm := L.idm, skew := L.mem.skew, lag := L.mem.lag, greatestLag := L.mem.greatestLag,
    window := if L.win.isOpen then some L.win.number else none,
    alarm := L.alarm, alarmKnown := L.alarmKnown,
    rxHeld := L.rxBuf.length, rxDrops := L.rxDrops,
    channelUp := if s.isMgmt l then some s.link.up else none }

/-- READ_LANE (R58). -/
def execReadLane (s : State) : Out := .next (s.laneCommand 0x0F (fun _ l => ⟨s, .ok, .lane (s.laneView l)⟩))

end Sys2Proof.Machine
end

