-- ==== Sys2Proof/Machine/Inject.lean ====
section
/-! DEFINITION. The injection unit: activations, the modes' slots, arbitration, suspension and settling (chapter 7). -/

namespace Sys2Proof.Machine

/-! ### What an injection does -/

/-- R113: the bits an injection complements. -/
def Injection.mask (i : Injection) : Block :=
  match i.kind with
  | .marker => field 56 8 255
  | .payload => BitVec.ofNat 64 ((2 ^ i.bits - 1) * 2 ^ i.pos)

/-- R113: the number of bits an injection changes. -/
def Injection.changed (i : Injection) : Nat :=
  match i.kind with
  | .marker => 8
  | .payload => min i.bits (64 - i.pos)

/-! ### Activations -/

/-- R114: an activation by the channel's state. -/
def InjChan.activate (ch : InjChan) : InjChan := if ch.state = .waiting then { ch with state := .active } else ch

def InjChan.sourceIs (ch : InjChan) (f : InjSource → Bool) : Bool :=
  match ch.settings with
  | none => false
  | some p => f p.source

def isContinuous : InjSource → Bool
  | .continuous => true
  | _ => false

/-- The channel enters WAITING; with source CONTINUOUS it then takes an activation (R114). -/
def InjChan.toWaiting (ch : InjChan) : InjChan :=
  let ch := { ch with state := .waiting }
  if ch.sourceIs isContinuous then ch.activate else ch

/-- R114: a tick or a transmit frame boundary counted by a channel that is not IDLE, `n` being the period of its
source. -/
def InjChan.countActivation (ch : InjChan) (n : Nat) : InjChan :=
  if ch.actCount + 1 < n then { ch with actCount := ch.actCount + 1 } else { ch with actCount := 0 }.activate

def InjChan.onTick (ch : InjChan) : InjChan :=
  match ch.state, ch.settings.map InjSettings.source with
  | .idle, _ => ch
  | _, some (.ticks n) => ch.countActivation n
  | _, _ => ch

def InjChan.onFrame (ch : InjChan) : InjChan :=
  match ch.state, ch.settings.map InjSettings.source with
  | .idle, _ => ch
  | _, some (.frames n) => ch.countActivation n
  | _, _ => ch

def InjChan.onPin (ch : InjChan) : InjChan := if ch.sourceIs (· == .pin) then ch.activate else ch

/-! ### Slots of the modes -/

def SchedEntry.absent : SchedEntry := ⟨0, 1, 1, 0⟩

def State.schedAt (s : State) (i : Nat) : SchedEntry :=
  if h : i < 64 then (s.sched[i]'h).getD SchedEntry.absent else SchedEntry.absent

/-- The schedule progress set to an entry, with its gap and blocks. -/
def InjChan.loadEntry (ch : InjChan) (i : Nat) (e : SchedEntry) : InjChan := { ch with entry := i, gap := e.gap, blocks := e.blocks }

/-- The remaining count falls by 1 if the count setting is not 0. -/
def InjChan.spend (ch : InjChan) (p : InjSettings) : InjChan :=
  if p.count = 0 then ch else { ch with remaining := ch.remaining - 1 }

/-- The count setting is not 0 and the remaining count is. -/
def InjChan.spent (ch : InjChan) (p : InjSettings) : Bool := p.count ≠ 0 && ch.remaining == 0

/-- R117: the countdown reaches 0. -/
def InjChan.rateDue (ch : InjChan) (p : InjSettings) : Injection × InjChan :=
  let ch := { ch with rateLeft := p.rateK }.spend p
  (⟨p.kind, p.bits, p.pos⟩, { ch with runOver := ch.spent p })

/-- R118: a slot of a walk with remaining gap 0. -/
def InjChan.scheduleDue (ch : InjChan) (p : InjSettings) (sched : Nat → SchedEntry) : Injection × InjChan :=
  let i : Injection := ⟨p.kind, (sched ch.entry).bits, (sched ch.entry).pos⟩
  let ch := { ch with blocks := ch.blocks - 1 }
  if ch.blocks ≠ 0 then (i, ch)
  else if ch.entry < p.schedLast then (i, ch.loadEntry (ch.entry + 1) (sched (ch.entry + 1)))
  else
    let ch := ch.spend p
    if ch.spent p then (i, { ch with runOver := true })
    else if isContinuous p.source then (i, ch.loadEntry p.schedFirst (sched p.schedFirst))
    else (i, { ch with runOver := true })

/-- A slot as a channel counts it: the injection that falls due in it, and the channel after it (R116 to R118). -/
def InjChan.slot (ch : InjChan) (sched : Nat → SchedEntry) : Option Injection × InjChan :=
  match ch.settings with
  | none => (none, ch)
  | some p =>
    if ch.state ≠ .active ∨ ch.runOver then (none, ch)
    else
      match p.mode with
      | .single => (some ⟨p.kind, p.bits, p.pos⟩, { ch with runOver := true })
      | .rate =>
        if 1 < ch.rateLeft then (none, { ch with rateLeft := ch.rateLeft - 1 })
        else ((ch.rateDue p).1, (ch.rateDue p).2)
      | .schedule =>
        if ch.gap ≠ 0 then (none, { ch with gap := ch.gap - 1 })
        else ((ch.scheduleDue p sched).1, (ch.scheduleDue p sched).2)

/-! ### Arbitration -/

/-- R122: the channel's candidate for a lane: its deferred injection, or the new one falling due. -/
def InjChan.candidate (ch : InjChan) (due : Option Injection) (l : LaneNo) : Option Injection :=
  match ch.deferred.get l with
  | some i => some i
  | none =>
    match ch.settings with
    | none => none
    | some p => if p.targets.get l then due else none

def InjChan.setDeferred (ch : InjChan) (l : LaneNo) (i : Option Injection) : InjChan :=
  { ch with deferred := ch.deferred.set l i }

/-- What R121 and R122 decide for a candidate on a lane in a slot. -/
inductive SlotFate
  | discarded | applied | deferred
deriving DecidableEq, Repr

/-- R121, R122: `markerSlot` is slot 0 of a FRAMED lane, `taken` says whether a lower-numbered channel has applied an
injection to the slot. -/
def slotFate (t : Tx) (markerSlot taken : Bool) (i : Injection) : SlotFate :=
  if t.state = .idle ∨ (i.kind = .marker ∧ t.framing = .raw) then .discarded
  else if !taken && ((i.kind == .marker) == markerSlot) then .applied
  else .deferred

/-- One lane's slot during arbitration: the block so far and whether an injection has been applied to it. -/
structure SlotWork where
  b : Block
  taken : Bool
  s : State

/-- One channel's turn at a lane's slot (R122). -/
def arbitrateChan (l : LaneNo) (markerSlot : Bool) (dues : Four (Option Injection)) (w : SlotWork) (c : ChanNo) : SlotWork :=
  match (w.s.inj.get c).candidate (dues.get c) l with
  | none => w
  | some i =>
    match slotFate (w.s.lane l).tx markerSlot w.taken i with
    | .discarded => { w with s := w.s.modInj c (fun ch => ch.setDeferred l none) }
    | .deferred => { w with s := w.s.modInj c (fun ch => ch.setDeferred l (some i)) }
    | .applied =>
      { b := w.b ^^^ i.mask, taken := true
        s := (w.s.modInj c (fun ch => ch.setDeferred l none)).report l (Counts.addInjected i.changed) }

/-- R122: the channels in order of number at one lane's slot. -/
def arbitrate (s : State) (l : LaneNo) (markerSlot : Bool) (dues : Four (Option Injection)) (b : Block) : Block × State :=
  let w := chansAll.foldl (arbitrateChan l markerSlot dues) ⟨b, false, s⟩
  (w.b, w.s)

/-! ### Settling, suspending, disarming -/

def noDeferred (ch : InjChan) : Bool := lanesAll.all (fun l => (ch.deferred.get l).isNone)

/-- The channel enters IDLE; its settings stay for STATUS (R126). The run-over flag is cleared as well: R120 says so of a
channel that ends its count, R126 is silent for a disarm (DESIGN CHOICE, log entry 55). -/
def InjChan.toIdle (ch : InjChan) : InjChan :=
  { ch with state := .idle, runOver := false, deferred := Eight.all none }

/-- R127: INJECTION_END on a transition into IDLE. -/
def State.endChannel (s : State) (c : ChanNo) (reason : EndReason) : State :=
  let ch := s.inj.get c
  let s := s.modInj c InjChan.toIdle
  match ch.settings with
  | none => s
  | some p =>
    if p.notify then
      s.notify (.injectionEnd c reason (if reason = .complete ∨ p.count = 0 then 0 else ch.remaining) s.tick)
    else s

/-- R116, R120: a channel with run over set and no deferred injection leaves ACTIVE. -/
def State.settleChan (s : State) (c : ChanNo) : State :=
  let ch := s.inj.get c
  match ch.settings with
  | none => s
  | some p =>
    if ch.state ≠ .active ∨ !ch.runOver ∨ !noDeferred ch then s
    else
      let ch := { ch with runOver := false }
      let ch := if p.mode = .single then ch.spend p else ch
      let ch := if p.mode = .schedule then ch.loadEntry p.schedFirst (s.schedAt p.schedFirst) else ch
      let s := s.modInj c (fun _ => ch)
      if p.mode = .rate ∨ ch.spent p then s.endChannel c .complete else s.modInj c InjChan.toWaiting

/-- R123, R124. -/
def InjChan.suspend (ch : InjChan) : InjChan :=
  match ch.state with
  | .waiting => { ch with state := .suspended, resume := .waiting, deferred := Eight.all none }
  | .active => { ch with state := .suspended, resume := .active, deferred := Eight.all none }
  | _ => ch

/-- R125: a SUSPENDED channel returns to its resume state. -/
def InjChan.resumeRun (ch : InjChan) : InjChan :=
  match ch.state, ch.resume with
  | .suspended, .waiting => ch.toWaiting
  | .suspended, .active => { ch with state := .active }
  | _, _ => ch

/-- R111, soft reset: the values of a hard reset, but the settings are kept. -/
def InjChan.softReset (ch : InjChan) : InjChan := { InjChan.reset with settings := ch.settings }

/-! ### Rows -/

/-- QUIET_ASSERTION (R124). -/
def execQuietAssertion (s : State) : Out := .next { s with quietPin := true, inj := s.inj.map InjChan.suspend }

/-- QUIET_RELEASE (R124). -/
def execQuietRelease (s : State) : Out := .next { s with quietPin := false }

/-- INJECT_ARRIVAL (R114). -/
def execInjectArrival (s : State) : Out := .next { s with inj := s.inj.map InjChan.onPin }

/-- Injections falling due outside a slot wait as deferred injections for the lanes' next slots; on a lane that already
holds one the new one is dropped (R122, log entry 7). -/
def InjChan.deferDue (ch : InjChan) (p : InjSettings) (i : Injection) : InjChan :=
  { ch with
    deferred := Eight.gen (fun l => match ch.deferred.get l with
      | some j => some j
      | none => if p.targets.get l then some i else none) }

/-- RATE_COUNTDOWN_EXPIRY (R117): the countdown of an ACTIVE RATE channel stands one short of 0 (log entry 6). -/
def execRateCountdownExpiry (c : ChanNo) (s : State) : Out :=
  let ch := s.inj.get c
  match ch.settings with
  | none => .next s
  | some p =>
    if ch.state == .active && !ch.runOver && p.mode == .rate && decide (ch.rateLeft ≤ 1) then
      .next (s.modInj c (fun ch => (ch.rateDue p).2.deferDue p (ch.rateDue p).1))
    else .next s

/-- SCHEDULE_GAP_EXPIRY (R118): the remaining gap of an ACTIVE walk is 0. -/
def execScheduleGapExpiry (c : ChanNo) (s : State) : Out :=
  let ch := s.inj.get c
  match ch.settings with
  | none => .next s
  | some p =>
    if ch.state == .active && !ch.runOver && p.mode == .schedule && ch.gap == 0 then
      .next (s.modInj c (fun ch => (ch.scheduleDue p s.schedAt).2.deferDue p (ch.scheduleDue p s.schedAt).1))
    else .next s

/-- TICKS_ACTIVATION_EXPIRY (R114): the activation count of an armed TICKS channel stands one short of n
(log entry 6). -/
def execTicksActivationExpiry (c : ChanNo) (s : State) : Out :=
  let ch := s.inj.get c
  match ch.settings.map InjSettings.source with
  | some (.ticks n) =>
    if ch.state ≠ .idle ∧ n ≤ ch.actCount + 1 then .next (s.modInj c (fun ch => { ch with actCount := 0 }.activate))
    else .next s
  | _ => .next s

/-- FRAMES_ACTIVATION_EXPIRY (R114). -/
def execFramesActivationExpiry (c : ChanNo) (s : State) : Out :=
  let ch := s.inj.get c
  match ch.settings.map InjSettings.source with
  | some (.frames n) =>
    if ch.state ≠ .idle ∧ n ≤ ch.actCount + 1 then .next (s.modInj c (fun ch => { ch with actCount := 0 }.activate))
    else .next s
  | _ => .next s

end Sys2Proof.Machine
end

