-- ==== Sys2Proof/Machine/Operands.lean ====
section
/-! DEFINITION. Written values judged and brought into the form in which the part stores them: each function gives the
entry or settings to store, or none where the write is refused BAD_FIELD. -/

namespace Sys2Proof.Machine

/-- A written 0 is taken as 1; a value above `top` is refused. -/
def countIn (top v : Nat) : Option Nat := if top < v then none else some (max v 1)

def guardSome {α : Type} (p : Bool) (x : α) : Option α := if p then some x else none

/-- R60: an id outside 0..7, or a follow or group value not of its kind. -/
def LaneMapArg.entry (a : LaneMapArg) : Option LaneMapEntry :=
  match laneOf a.txId, laneOf a.rxId, a.follow, a.group with
  | some t, some r, some f, some g => some ⟨t, r, f, g⟩
  | _, _, _, _ => none

/-- The lengths of a lane window spec (R142). -/
def WinSpec.inLane : WinSpec → Bool
  | .frames n => 1 ≤ n && n ≤ 65535
  | .ticks n => 1 ≤ n && n ≤ 16777215
  | .openEnded => true

/-- R70: FRAMES n or OPEN; TICKS is refused. -/
def WinSpec.inGroup : WinSpec → Bool
  | .frames n => 1 ≤ n && n ≤ 65535
  | .ticks _ => false
  | .openEnded => true

/-- R142, the values of a trigger. R142 names the n of BLOCK_AT_LEAST alone as BAD_FIELD; a frame sequence above its range is
refused too (DESIGN CHOICE, log entry 63). -/
def Trigger.inRange : Trigger → Bool
  | .blockAtLeast n => 1 ≤ n && n ≤ 64
  | .frameSeq s => s ≤ 65535
  | _ => true

/-- R142, the fields of a lane descriptor with their clamps. A trigger or a window spec of no named kind is refused (DESIGN CHOICE,
log entry 63). -/
def LaneDescArg.entry (a : LaneDescArg) : Option LaneDesc := do
  let framing ← a.framing
  let rxMode ← a.rxMode
  let confirm ← countIn 15 a.confirm
  let lossRun ← countIn 15 a.lossRun
  let autoResync ← a.autoResync
  let countHeld ← a.countHeld
  let policy ← a.policy
  let trigger ← a.trigger.filter Trigger.inRange
  let action ← a.action
  let spec ← a.spec.filter WinSpec.inLane
  let rep ← a.rep
  let profile ← fourOf a.profile
  let notices ← a.notices
  some ⟨framing, rxMode, confirm, min (max a.heavy 1) 64, lossRun, autoResync, countHeld, policy, trigger, action, spec,
    rep, profile, notices⟩

/-- R18: the stored seed of a PRBS kind, the low k bits of the value written, or all ones. -/
def seedOf (k v : Nat) : Nat := if v % 2 ^ k = 0 then 2 ^ k - 1 else v % 2 ^ k

/-- R18. -/
def PatDescArg.entry (a : PatDescArg) : Option PatDesc :=
  match a.kind with
  | none => none
  | some .user =>
    guardSome (a.start ≤ 4095 && 1 ≤ a.len && a.len ≤ 4096 && a.start + a.len ≤ 4096)
      ⟨.user, a.invert, 0, a.start, a.len⟩
  | some k => some ⟨k, a.invert, seedOf (patOrder k) a.seed, 0, 0⟩

/-- R119. -/
def SchedArg.entry (a : SchedArg) : Option SchedEntry :=
  guardSome (a.gap ≤ 65535 && 1 ≤ a.blocks && a.blocks ≤ 255 && 1 ≤ a.bits && a.bits ≤ 64 && a.pos ≤ 63) a

/-- R101: mantissa 100..999, exponent 0..19. -/
def decimalInRange (d : Decimal) : Bool := 100 ≤ d.m && d.m ≤ 999 && d.x ≤ 19

/-- R107: every field in range, and the fields in order. -/
def ProfileArg.entry (a : ProfileArg) : Option AlarmProfile :=
  guardSome ([a.degradeSet, a.degradeClear, a.failSet, a.failClear, a.target].all decimalInRange
    && decimalLe a.degradeClear a.degradeSet && decimalLe a.degradeSet a.failSet
    && decimalLe a.degradeClear a.failClear && decimalLe a.failClear a.failSet) a

/-- R70. -/
def GroupDescArg.entry (a : GroupDescArg) : Option GroupDesc := do
  let spec ← a.spec.filter WinSpec.inGroup
  let rep ← a.rep
  let profile ← fourOf a.profile
  let notices ← a.notices
  some ⟨spec, rep, profile, notices⟩

/-- R152. -/
def ChanArg.entry (a : ChanArg) : Option ChanSettings := do
  let lane ← laneOf a.lane
  let mode ← a.mode
  let enable ← a.enable
  let action ← a.action
  guardSome (a.period ≤ 65535) ⟨lane, mode, enable, a.period, action⟩

/-- The command codes of the part (11.6). -/
def isCommandCode (c : Octet) : Bool := 1 ≤ c.toNat && c.toNat ≤ 0x28

/-- The commands that the permit set may not name (R153): LOAD_IMAGE, WRITE_ENTRY, DEVICE_RESET, RESTORE_CONTEXT, SEND_PEER
and SET_SUPERVISOR. -/
def isForbiddenCode (c : Octet) : Bool :=
  c == 0x03 || c == 0x05 || c == 0x02 || c == 0x26 || c == 0x27 || c == 0x28

/-- The codes of a list, each once, in order of first place. -/
def distinct : List Octet → List Octet
  | [] => []
  | c :: cs => c :: (distinct cs).filter (· != c)

/-- R153. -/
def permitEntry (cs : List Octet) : Option (List Octet) :=
  guardSome (cs.all isCommandCode && !cs.any isForbiddenCode && decide ((distinct cs).length ≤ 16)) (distinct cs)

/-- The period of an activation source (R112). R112 names n of 0 as BAD_FIELD; n above its range is refused too (DESIGN CHOICE, log
entry 62). -/
def InjSource.inRange : InjSource → Bool
  | .ticks n => 1 ≤ n && n ≤ 65535
  | .frames n => 1 ≤ n && n ≤ 65535
  | _ => true

/-- R112: the settings loaded by an ARM_CHANNEL. An interval K above its range is refused (log entry 27), and so is an activation
source of no named kind (DESIGN CHOICE, log entry 62). -/
def ArmArg.settings (a : ArmArg) : Option InjSettings := do
  let mode ← a.mode
  let kind ← a.kind
  let bits ← countIn 64 a.bits
  let source ← a.source.filter InjSource.inRange
  let rateK ← countIn 16777215 a.rateK
  let note ← a.notify
  guardSome (lanesAll.any a.targets.get && a.pos ≤ 63 && a.count ≤ 16777215 && a.schedFirst ≤ a.schedLast
      && a.schedLast ≤ 63)
    ⟨mode, a.targets, kind, bits, a.pos, source, a.count, rateK, a.schedFirst, a.schedLast, note⟩

/-- R87, R133: a count k; 0 is taken as 1, and above 16 as 16. -/
def readCount (k : Nat) : Nat := min (max k 1) 16

end Sys2Proof.Machine
end

