-- ==== Sys2Proof/Machine/Tables.lean ====
section
/-! DEFINITION. The tables: each table's write judged and made by its own rule, reading, loading and dumping
(R18, R19, R23, R60, R70, R103, R107, R119, R142, R143, R152, R153, R172, R173), and CLEAR_MEMORY_FAULT (R26). -/

namespace Sys2Proof.Machine

/-! ### Who uses an entry -/

def someLane (f : LaneNo → Bool) : Bool := lanesAll.any f

/-- The lane's transmitter is RUNNING with PATTERN in force. -/
def State.sendsPattern (s : State) (l : LaneNo) : Bool := (s.lane l).tx.state == .running && (s.lane l).tx.mode == .pattern

/-- The lane's checker is not OFF while its hold state is RUN or STEPPING. -/
def State.checksUnheld (s : State) (l : LaneNo) : Bool := !s.ckOff l && (s.lane l).hold != .held

/-- A USER descriptor whose segment holds entry `i` (R23). -/
def PatDesc.holds (d : PatDesc) (i : Nat) : Bool := patIsUser d.kind && decide (d.start ≤ i) && decide (i < d.start + d.len)

def State.groupOpen (s : State) (g : Option GroupId) : Bool :=
  match g with
  | none => false
  | some g => (s.group g).win.isSome

/-! ### Pattern descriptors and pattern memory -/

/-- R19: a checker of a HELD lane that uses a rewritten descriptor is put in HUNT. -/
def State.rewrittenPat (d : LaneNo) (l : LaneNo) (s : State) : State :=
  if (s.map l).rxId == d && (s.lane l).hold == .held then s.forceHunt l .rewrite true true else s

/-- R18, R19. -/
def State.writePatDesc (s : State) (d : LaneNo) (a : PatDescArg) : Status × State :=
  match PatDescArg.entry a with
  | none => (.badField, s)
  | some e =>
    if someLane (fun l => s.sendsPattern l && (s.map l).txId == d)
        || someLane (fun l => s.checksUnheld l && (s.map l).rxId == d) then (.notHeld, s)
    else (.ok, { s with patDesc := s.patDesc.set d (some e) }.forLanes (State.rewrittenPat d))

/-- R23. -/
def State.writePatMem (s : State) (i : Nat) (b : Block) : Status × State :=
  if someLane (fun l => s.sendsPattern l && PatDesc.holds (s.txPat l) i)
      || someLane (fun l => s.checksUnheld l && PatDesc.holds (s.rxPat l) i) then (.notHeld, s)
  else (.ok, { s with patMem := patWrite s.patMem i ⟨b, true⟩ })

/-! ### Lane map -/

/-- R60, R66: the lane leaves its old group and joins the new one; it contributes again only at a boundary
(log entry 38). Its whole flag stays as it last stood until a window of its group opens (DESIGN CHOICE, log entry 51). -/
def State.changeGroup (s : State) (l : LaneNo) (old new : Option GroupId) : State :=
  if old = new then s
  else
    let s := s.modMem l (fun m => { m with contributing := false, lag := none, skew := false, greatestLag := 0 })
    let s := match old with
      | none => s
      | some g => s.groupEvent g none
    match new with
    | none => s
    | some g => s.groupEvent g none

/-- R60. Of the effects of a taken write, the change of group is made first, with its notices, then ID_MISMATCH is cleared, then
the checker is forced into HUNT: R60 gives no order (DESIGN CHOICE, log entry 59). -/
def State.writeLaneMap (s : State) (l : LaneNo) (a : LaneMapArg) : Status × State :=
  match LaneMapArg.entry a with
  | none => (.badField, s)
  | some e =>
    let old := s.memberOf l
    if (s.lane l).tx.state = .running ∨ s.checksUnheld l then (.notHeld, s)
    else if old ≠ e.group ∧ (s.groupOpen old || s.groupOpen e.group) then (.busy, s)
    else
      let s := { s with laneMap := s.laneMap.set l (some e) }
      let s := s.changeGroup l old e.group
      (.ok, (s.modLane l (fun L => { L with idm := none })).forceHunt l .rewrite true true)

/-! ### Lane descriptors -/

/-- R36, R56: what a taken write does to the lane's checker, with the remote action entry a stop takes back (R161). -/
def State.rewrittenDesc (s : State) (l : LaneNo) : State :=
  if s.ckOff l then s
  else if (s.desc l).rxMode = .pass then (s.stopChecker l).modRemote l (fun r => { r with rxStarted := false })
  else s.forceHunt l .rewrite true true

/-- R142, R143: the table first, then the armed flag, the aligner, the checker, and the check of R55 where the lane begins
to count (log entry 34). -/
def State.writeLaneDesc (s : State) (l : LaneNo) (a : LaneDescArg) : Status × State :=
  match LaneDescArg.entry a with
  | none => (.badField, s)
  | some e =>
    if s.checksUnheld l then (.notHeld, s)
    else
      let counted := s.counting l
      let reframed := (s.laneDesc.get l).map LaneDesc.framing ≠ some e.framing
      let s := { s with laneDesc := s.laneDesc.set l (some e) }
      let s := s.modLane l (fun L => { L with armed := e.trigger != .none })
      let s := if reframed then s.reframeAligner l else s
      let s := s.rewrittenDesc l
      let s := if !counted && s.counting l then s.holdEndCheck l else s
      (.ok, s.settleHolds)

/-! ### Schedule, confidence, profiles, group descriptors -/

/-- The channel is not IDLE and its schedule range holds entry `i` (R119). -/
def InjChan.protects (ch : InjChan) (i : Nat) : Bool :=
  match ch.settings with
  | none => false
  | some p => ch.state != .idle && decide (p.schedFirst ≤ i) && decide (i ≤ p.schedLast)

/-- R119; an index past the table's end is refused (R173). -/
def State.writeSched (s : State) (i : Nat) (a : SchedArg) : Status × State :=
  if h : i < 64 then
    match SchedArg.entry a with
    | none => (.badField, s)
    | some e =>
      if chansAll.any (fun c => (s.inj.get c).protects i) then (.busy, s)
      else (.ok, { s with sched := s.sched.set i (some e) h })
  else (.badField, s)

/-- R103. -/
def State.writeConf (s : State) (i u : Nat) : Status × State :=
  if h : i < 32 then
    if u ≤ 65535 then (.ok, { s with conf := s.conf.set i (some u) h }) else (.badField, s)
  else (.badField, s)

/-- R107. -/
def State.writeProfile (s : State) (i : Fin 4) (a : ProfileArg) : Status × State :=
  match ProfileArg.entry a with
  | none => (.badField, s)
  | some e => (.ok, { s with profiles := s.profiles.set i (some e) })

/-- R70. -/
def State.writeGroupDesc (s : State) (g : GroupId) (a : GroupDescArg) : Status × State :=
  match GroupDescArg.entry a with
  | none => (.badField, s)
  | some e =>
    if (s.group g).win.isSome then (.busy, s) else (.ok, { s with groupDesc := s.groupDesc.set g (some e) })

/-! ### Channel settings and permit set -/

/-- R164: the supervisor after the channel settings have changed from period `old`. -/
def State.periodChanged (s : State) (old : Nat) : State :=
  if s.supPeriod = old then s else { s with sup := { s.sup with ticks := 0 } }.settleSup

/-- R154: the channel judged for the settings as they now stand: a departure where it was UP on another lane, in another
mode, or is no longer enabled, and an entry where it is DOWN and the management lane is ALIGNED. -/
def State.rejudgeLink (s : State) (moved : Bool) : State :=
  let s := if s.link.up && (moved || !s.remoteEnable) then s.linkDepart else s
  match s.chan with
  | none => s
  | some c => if !s.link.up && c.enable && s.aligned c.lane then s.linkEnter else s

/-- R152: the write changes the management lane or the channel mode. -/
def State.movesChannel (s : State) (e : ChanSettings) : Bool :=
  match s.chan with
  | none => true
  | some c => c.lane != e.lane || c.mode != e.mode

/-- R152, R154, R164. An octet awaiting resume belongs to a queued record. A write that is both out of range and blocked by the
outbound queue is answered BAD_FIELD: R152 gives the two answers no order (DESIGN CHOICE, log entry 66). -/
def State.writeChan (s : State) (a : ChanArg) : Status × State :=
  match ChanArg.entry a with
  | none => (.badField, s)
  | some e =>
    let moved := s.movesChannel e
    if moved && !s.link.outbound.isEmpty then (.busy, s)
    else
      let old := s.supPeriod
      (.ok, ({ s with chan := some e }.rejudgeLink moved).periodChanged old)

/-- R153. -/
def State.writePermit (s : State) (cs : List Octet) : Status × State :=
  match permitEntry cs with
  | none => (.badField, s)
  | some e => (.ok, { s with permit := e })

/-! ### One entry of any table -/

def groupIndex (i : Nat) : Option GroupId := if i = 0 then some .a else if i = 1 then some .b else none

/-- A write whose index must name an entry of its table, else BAD_FIELD (R173). -/
def atIndex {ι : Type} (s : State) (i : Option ι) (f : ι → Status × State) : Status × State :=
  match i with
  | none => (.badField, s)
  | some j => f j

def patIndex (i : Nat) : Option Nat := if i < 4096 then some i else none
def oneIndex (i : Nat) : Option Unit := if i = 0 then some () else none

/-- The number of entries of a table, by its table number (11.7). -/
def tableSize : Nat → Nat
  | 0 => 8 | 1 => 8 | 2 => 8 | 3 => 4096 | 4 => 64 | 5 => 32 | 6 => 4 | 7 => 2 | 8 => 1 | 9 => 1 | _ => 0

def viewOf {α : Type} (f : α → EntryView) : Option α → EntryView
  | none => .empty
  | some a => f a

/-- R173: an entry as stored. Pattern memory entries carry their mismatch indication (R24). -/
def State.entryView (s : State) (table i : Nat) : EntryView :=
  match table with
  | 0 => viewOf .laneMap ((laneOf i).bind s.laneMap.get)
  | 1 => viewOf .laneDesc ((laneOf i).bind s.laneDesc.get)
  | 2 => viewOf .patDesc ((laneOf i).bind s.patDesc.get)
  | 3 => .patMem (patRead s.patMem i).data !(patRead s.patMem i).agrees
  | 4 => if h : i < 64 then viewOf .sched (s.sched[i]'h) else .empty
  | 5 => if h : i < 32 then viewOf .conf (s.conf[i]'h) else .empty
  | 6 => viewOf .profile ((fourOf i).bind s.profiles.get)
  | 7 => viewOf .groupDesc ((groupIndex i).bind s.groupDesc.get)
  | 8 => viewOf .chan s.chan
  | 9 => .permit s.permit
  | _ => .empty

/-! ### The ten WRITE_ENTRY rows -/

/-- A table number in a target octet. -/
def tableOf (n : Nat) : Option Nat := if n < 10 then some n else none

/-- WRITE_ENTRY names a table by its target (R173): the row of a table takes the command when the target is its table's
number, or no table's (log entry 12). -/
def State.writeCommand {α : Type} (s : State) (table : Nat) (p : BodyReading (WriteArg α))
    (write : Nat → α → Status × State) : State :=
  match s.nextCommand with
  | none => s
  | some r =>
    if r.target.toNat ≠ table ∧ (tableOf r.target.toNat).isSome then s
    else
      s.command 0x05 false tableOf (bodyOf p) (fun _ _ a =>
        let w := write a.index a.entry
        Reply.of w.2 w.1)

/-- WRITE_LANE_MAP_ENTRY (R60). -/
def execWriteLaneMapEntry (p : BodyReading (WriteArg LaneMapArg)) (s : State) : Out :=
  .next (s.writeCommand 0 p (fun i a => atIndex s (laneOf i) (fun l => s.writeLaneMap l a)))

/-- WRITE_LANE_DESCRIPTOR (R142, R143). -/
def execWriteLaneDescriptor (p : BodyReading (WriteArg LaneDescArg)) (s : State) : Out :=
  .next (s.writeCommand 1 p (fun i a => atIndex s (laneOf i) (fun l => s.writeLaneDesc l a)))

/-- WRITE_PATTERN_DESCRIPTOR (R18, R19). -/
def execWritePatternDescriptor (p : BodyReading (WriteArg PatDescArg)) (s : State) : Out :=
  .next (s.writeCommand 2 p (fun i a => atIndex s (laneOf i) (fun d => s.writePatDesc d a)))

/-- WRITE_PATTERN_MEMORY (R23). -/
def execWritePatternMemory (p : BodyReading (WriteArg Block)) (s : State) : Out :=
  .next (s.writeCommand 3 p (fun i a => atIndex s (patIndex i) (fun j => s.writePatMem j a)))

/-- WRITE_SCHEDULE_ENTRY (R119). -/
def execWriteScheduleEntry (p : BodyReading (WriteArg SchedArg)) (s : State) : Out :=
  .next (s.writeCommand 4 p (fun i a => s.writeSched i a))

/-- WRITE_CONFIDENCE_ENTRY (R103). -/
def execWriteConfidenceEntry (p : BodyReading (WriteArg Nat)) (s : State) : Out :=
  .next (s.writeCommand 5 p (fun i a => s.writeConf i a))

/-- WRITE_ALARM_PROFILE (R107). -/
def execWriteAlarmProfile (p : BodyReading (WriteArg ProfileArg)) (s : State) : Out :=
  .next (s.writeCommand 6 p (fun i a => atIndex s (fourOf i) (fun j => s.writeProfile j a)))

/-- WRITE_GROUP_DESCRIPTOR (R70). -/
def execWriteGroupDescriptor (p : BodyReading (WriteArg GroupDescArg)) (s : State) : Out :=
  .next (s.writeCommand 7 p (fun i a => atIndex s (groupIndex i) (fun g => s.writeGroupDesc g a)))

/-- WRITE_CHANNEL_SETTINGS (R152, R154, R164). -/
def execWriteChannelSettings (p : BodyReading (WriteArg ChanArg)) (s : State) : Out :=
  .next (s.writeCommand 8 p (fun i a => atIndex s (oneIndex i) (fun _ => s.writeChan a)))

/-- WRITE_PERMIT_SET (R153). -/
def execWritePermitSet (p : BodyReading (WriteArg (List Octet))) (s : State) : Out :=
  .next (s.writeCommand 9 p (fun i a => atIndex s (oneIndex i) (fun _ => s.writePermit a)))

/-! ### Reading -/

/-- READ_ENTRY (R173). -/
def execReadEntry (p : BodyReading Nat) (s : State) : Out :=
  .next (s.command 0x06 true tableOf (bodyOf p) (fun _ t i =>
    if i < tableSize t then ⟨s, .ok, .entry (s.entryView t i)⟩ else Reply.of s .badField))

/-- The consecutive entries of a DUMP_TABLES response: no more than asked for, than the table has from the first index,
or than fit (R173, log entry 5). -/
def State.dump (s : State) (t : Nat) (a : DumpArg) : List EntryView :=
  (List.range (min (min a.count (tableSize t - a.first)) (Config.dumpCapacity t))).map (fun k => s.entryView t (a.first + k))

/-- DUMP_TABLES (R173). -/
def execDumpTables (p : BodyReading DumpArg) (s : State) : Out :=
  .next (s.command 0x04 true tableOf (bodyOf p) (fun _ t a =>
    ⟨s, if tableSize t < a.first + a.count then .overflow else .ok, .entries (s.dump t a)⟩))

/-! ### LOAD_IMAGE -/

/-- A LOAD_IMAGE under way: the state, the first refused entry with its table and index, and whether any entry was
ignored. -/
structure Loading where
  s : State
  refused : Option (Status × Nat × Nat)
  ignored : Bool

/-- An entry of a section is judged by its table's own rule; one past the table's last index is ignored (R172), but R103 has
the confidence table refuse it BAD_FIELD: the table's own rule is followed there (DESIGN CHOICE, log entry 53). -/
def judgedAt (table i : Nat) : Bool := decide (i < tableSize table) || table == 5

/-- One entry of a section, written as WRITE_ENTRY would write it, or ignored (R172). -/
def Loading.entry (w : Loading) (table i : Nat) (write : State → Status × State) : Loading :=
  if judgedAt table i then
    let r := write w.s
    { w with s := r.2, refused := if w.refused.isNone && r.1 != .ok then some (r.1, table, i) else w.refused }
  else { w with ignored := true }

/-- The entries of one section from its first index on. -/
def Loading.entries {α : Type} (table : Nat) (write : State → Nat → α → Status × State) :
    List α → Nat → Loading → Loading
  | [], _, w => w
  | e :: es, i, w => Loading.entries table write es (i + 1) (w.entry table i (fun s => write s i e))

def Loading.sect (w : Loading) (x : ImageSection) : Loading :=
  match x with
  | .laneMap i es => Loading.entries 0 (fun s j e => atIndex s (laneOf j) (fun l => s.writeLaneMap l e)) es i w
  | .laneDesc i es => Loading.entries 1 (fun s j e => atIndex s (laneOf j) (fun l => s.writeLaneDesc l e)) es i w
  | .patDesc i es => Loading.entries 2 (fun s j e => atIndex s (laneOf j) (fun d => s.writePatDesc d e)) es i w
  | .patMem i es => Loading.entries 3 (fun s j e => atIndex s (patIndex j) (fun k => s.writePatMem k e)) es i w
  | .sched i es => Loading.entries 4 (fun s j e => s.writeSched j e) es i w
  | .conf i es => Loading.entries 5 (fun s j e => s.writeConf j e) es i w
  | .profiles i es => Loading.entries 6 (fun s j e => atIndex s (fourOf j) (fun k => s.writeProfile k e)) es i w
  | .groupDesc i es => Loading.entries 7 (fun s j e => atIndex s (groupIndex j) (fun g => s.writeGroupDesc g e)) es i w
  | .chan i es => Loading.entries 8 (fun s j e => atIndex s (oneIndex j) (fun _ => s.writeChan e)) es i w
  | .permit i es => Loading.entries 9 (fun s j e => atIndex s (oneIndex j) (fun _ => s.writePermit e)) es i w
  | .unknownTable _ => w

def ImageSection.known : ImageSection → Bool
  | .unknownTable _ => false
  | _ => true

/-- The first index below a size whose entry is not loaded. -/
def firstFalse (f : Nat → Bool) (size : Nat) : Option Nat := (List.range size).find? (fun i => !f i)

/-- The entry of a table is loaded; entries of pattern memory and the permit set always pass (R172). -/
def State.loaded (s : State) (table i : Nat) : Bool :=
  match s.entryView table i with
  | .empty => false
  | _ => true

/-- R172, the end-of-image validation: the first empty table and index, in table-number order. -/
def State.firstEmpty (s : State) : Option (Nat × Nat) :=
  [0, 1, 2, 4, 5, 6, 7, 8].findSome? (fun t => (firstFalse (s.loaded t) (tableSize t)).map (fun i => (t, i)))

/-- R27: a pending start, stop or mode is cancelled. -/
def Lane.cancelPending (L : Lane) : Lane :=
  { L with tx := { L.tx with pendStart := false, pendStop := false, pendMode := none } }

/-- R8, R27: the part passes from CONFIGURED to UNCONFIGURED. -/
def State.unconfigure (s : State) : State :=
  if s.configured then { s with configured := false, lanes := s.lanes.map Lane.cancelPending }.resetAligners else s

/-- R172: no LOAD_IMAGE is taken in a CONFIGURED part while a transmitter, a checker or a channel is at work. -/
def State.atWork (s : State) : Bool :=
  someLane (fun l => (s.lane l).tx.state != .idle || !s.ckOff l) || chansAll.any (fun c => (s.inj.get c).state != .idle)

/-- The status of a load before any validation (R172). -/
def Loading.reply (w : Loading) : Reply :=
  match w.refused with
  | some (st, t, i) => ⟨w.s, st, .tableIndex t i⟩
  | none => Reply.of w.s (if w.ignored then .overflow else .ok)

/-- R172: the sections loaded in order, then the passage the target asks for. -/
def State.load (s : State) (target : Nat) (xs : List ImageSection) : Reply :=
  let a := (xs.foldl Loading.sect ⟨s, none, false⟩).reply
  if target = 0 then a
  else if target = 1 then
    match a.s.firstEmpty with
    | none => { a with s := { a.s with configured := true } }
    | some (t, i) => ⟨a.s.unconfigure, .badField, .tableIndex t i⟩
  else { a with s := a.s.unconfigure }

def imageTarget (n : Nat) : Option Nat := if n < 3 then some n else none

/-- The sections of a body; an empty body holds none (log entry 2). -/
def imageOf (p : BodyReading (List ImageSection)) (r : CmdRec) : BodyReading (List ImageSection) :=
  if r.body.isEmpty then .params [] else p

/-- LOAD_IMAGE (R172); its body is judged after BUSY, as R172 orders its checks. -/
def execLoadImage (p : BodyReading (List ImageSection)) (s : State) : Out :=
  .next (s.command 0x03 true imageTarget (fun r => some (imageOf p r)) (fun _ t body =>
    if s.configured && s.atWork then Reply.of s .busy
    else match body with
      | .wrongLength => Reply.of s .badLength
      | .params xs => if xs.all ImageSection.known then s.load t xs else Reply.of s .badLength))

/-! ### CLEAR_MEMORY_FAULT -/

/-- A bank, or with the target 4 all four (R26). -/
def bankTarget (n : Nat) : Option (Option BankNo) := if n = 4 then some none else (fourOf n).map some

/-- CLEAR_MEMORY_FAULT (R26). -/
def execClearMemoryFault (s : State) : Out :=
  .next (s.command 0x07 true bankTarget noBody (fun _ t _ =>
    Reply.ok (match t with
      | none => { s with memFault := Four.all false }
      | some b => { s with memFault := s.memFault.set b false })))

end Sys2Proof.Machine
end

