-- ==== Sys2Proof/Machine/TxCommands.lean ====
section
/-! DEFINITION. START_TX, STOP_TX and SET_TX_MODE (R28 to R30) with their part in the remote action set (R161). -/

namespace Sys2Proof.Machine

/-- R29: a stop asked for: a pending start is cancelled, a RUNNING transmitter gets a pending stop. -/
def Tx.askStop (t : Tx) : Tx :=
  match t.state with
  | .idle => { t with pendStart := false }
  | .running => { t with pendStop := true }

/-- R30: a mode asked for replaces any pending mode. -/
def Tx.askMode (m : TxMode) (t : Tx) : Tx := { t with pendMode := some m }

/-- R28, R161: a start asked for on an IDLE transmitter. -/
def State.startTx (s : State) (r : CmdRec) (l : LaneNo) : Reply :=
  match (s.lane l).tx.state with
  | .running => Reply.of s .busy
  | .idle =>
    Reply.ok ((s.modTx l (fun t => { t with pendStart := true })).modRemote l
      (fun a => { a with txStarted := r.origin == .remote }))

/-- START_TX (R28). -/
def execStartTx (s : State) : Out := .next (s.laneCommand 0x08 s.startTx)

/-- R29, R161. -/
def State.stopTx (s : State) (l : LaneNo) : State :=
  (s.modTx l Tx.askStop).modRemote l (fun a => { a with txStarted := false })

/-- STOP_TX (R29). -/
def execStopTx (s : State) : Out := .next (s.laneCommand 0x09 (fun _ l => Reply.ok (s.stopTx l)))

/-- R161: what a SET_TX_MODE answered OK does to the lane's ECHO_SET entry, `t` being the transmitter before it. -/
def echoAfter (origin : Origin) (m : TxMode) (t : Tx) (a : RemoteActs) : RemoteActs :=
  if origin = .remote ∧ m = .echo then
    match a.echoSet with
    | some _ => a
    | none => { a with echoSet := some (t.pendMode.getD t.mode) }
  else { a with echoSet := none }

/-- R30, R161. -/
def State.setTxMode (s : State) (r : CmdRec) (l : LaneNo) (m : Option TxMode) : Reply :=
  match m with
  | none => Reply.of s .badField
  | some m => Reply.ok ((s.modTx l (Tx.askMode m)).modRemote l (echoAfter r.origin m (s.lane l).tx))

/-- SET_TX_MODE (R30). -/
def execSetTxMode (p : BodyReading (Option TxMode)) (s : State) : Out :=
  .next (s.command 0x0A false laneOf (bodyOf p) s.setTxMode)

end Sys2Proof.Machine
end

