-- ==== Sys2Proof/Machine/Supervisor.lean ====
section
/-! DEFINITION. The supervisor (R162 to R164), SEND_PEER (R156) and SET_SUPERVISOR. -/

namespace Sys2Proof.Machine

/-- The configured action; NONE while no channel settings are loaded. -/
def State.supAction (s : State) : SupAction := (s.chan.map ChanSettings.action).getD .none

def State.setSupAction (s : State) (a : SupAction) : State :=
  { s with chan := s.chan.map (fun c => { c with action := a }) }

/-! ### Warning -/

/-- The octets of a tick value, least significant first (R162). -/
def tickOctets (t : Tick) : List Octet :=
  [t.extractLsb' 0 8, t.extractLsb' 8 8, t.extractLsb' 16 8, t.extractLsb' 24 8]

/-- R162: the PEER_DATA record of a warning. -/
def State.warningRec (s : State) : PeerRec :=
  ⟨3, 0x8A, 0, 0, [BitVec.ofNat 8 s.remoteEntries, supActionCode s.supAction] ++ tickOctets s.tick⟩

/-- R162: WARNED is set, with the notice and the record. -/
def State.supWarn (s : State) : State :=
  let s := { s with sup := { s.sup with warned := true } }
  (s.notify (.supervisorWarning s.remoteEntries s.supAction s.tick)).joinOutbound s.warningRec

/-! ### Action -/

/-- The lanes that have an entry in the remote action set. -/
def State.remoteLanes (s : State) : Eight Bool := Eight.gen (fun l => (s.lane l).remote.any)

/-- R163, RELEASE: the entries of one lane reverted and removed (log entry 32). -/
def State.releaseLane (l : LaneNo) (s : State) : State :=
  let a := (s.lane l).remote
  let s := match a.echoSet with
    | none => s
    | some m => s.modTx l (Tx.askMode m)
  let s := if a.txStarted then s.modTx l Tx.askStop else s
  let s := if a.rxStarted then s.stopChecker l else s
  s.modLane l (fun L => { L with remote := RemoteActs.reset })

/-- R163, HOLD: a hold request for a lane that has an entry. -/
def State.holdRemote (l : LaneNo) (s : State) : State := if (s.lane l).remote.any then s.requestHold l else s

/-- R163: what the configured action does to the lanes. -/
def State.supAct (s : State) (a : SupAction) : State :=
  match a with
  | .none => s
  | .release => s.forLanes State.releaseLane
  | .hold => s.forLanes State.holdRemote

/-- R163. -/
def State.supTakeAction (s : State) : State :=
  let a := s.supAction
  let lanes := if a = .none then Eight.all false else s.remoteLanes
  let s := (s.supAct a).setSupAction .none
  let s := { s with sup := { s.sup with last := some (a, s.tick), armed := false, warned := false } }
  (s.notify (.supervisorAction a lanes s.tick)).settleSup

/-- R162: an expiry, by the stage flags. The tick count has returned to 0. -/
def State.supExpire (s : State) : State :=
  let s := { s with sup := { s.sup with ticks := 0 } }
  if !s.sup.armed then { s with sup := { s.sup with armed := true } }
  else if !s.sup.warned then s.supWarn
  else s.supTakeAction

/-- R162: the next tick arrival takes an expiry. -/
def State.supDue (s : State) : Bool := s.supActive && decide (s.supPeriod ≤ s.sup.ticks + 1)

/-- R162: a tick arrival reaches the supervisor. -/
def State.supTick (s : State) : State :=
  if s.supDue then s.supExpire
  else if s.supActive then { s with sup := { s.sup with ticks := s.sup.ticks + 1 } }
  else s

/-- SUPERVISOR_EXPIRY (R162): the tick count of an active supervisor stands one short of P (log entry 6). -/
def execSupervisorExpiry (s : State) : Out := if s.supDue then .next s.supExpire.settleHolds else .next s

/-! ### Commands -/

/-- R156 from its kind check on. -/
def State.sendPeer (s : State) (a : PeerArg) : Reply :=
  if a.kind ≠ 1 ∧ a.kind ≠ 3 ∧ a.kind ≠ 4 then Reply.of s .badField
  else if 59 < a.body.length then Reply.of s .badLength
  else if 4 ≤ s.link.outbound.length then Reply.of s .busy
  else Reply.ok (s.joinOutbound ⟨BitVec.ofNat 8 a.kind, a.code, a.tag, a.target, a.body⟩)

/-- SEND_PEER (R156). -/
def execSendPeer (p : BodyReading PeerArg) (s : State) : Out :=
  .next (s.command 0x27 false anyTarget (bodyOf p) (fun _ _ a => s.sendPeer a))

/-- R164: the two supervisor fields of the channel settings. -/
def ChanSettings.withSup (p : Nat) (act : SupAction) (c : ChanSettings) : ChanSettings :=
  { c with period := p, action := act }

/-- R164. -/
def State.setSupervisor (s : State) (a : SupervisorArg) : Reply :=
  match a.action with
  | none => Reply.of s .badField
  | some act =>
    if 65535 < a.period then Reply.of s .badField
    else
      Reply.ok ({ s with chan := s.chan.map (ChanSettings.withSup a.period act) }.periodChanged s.supPeriod)

/-- SET_SUPERVISOR (R164). -/
def execSetSupervisor (p : BodyReading SupervisorArg) (s : State) : Out :=
  .next (s.command 0x28 false anyTarget (bodyOf p) (fun _ _ a => s.setSupervisor a))

end Sys2Proof.Machine
end

