-- ==== Sys2Proof/Machine/Client.lean ====
section
/-! DEFINITION. The client port, the pins and the whole-part commands: ingress assembly (R165, R166), egress arbiter
(R170), resets (R171, R175), tick arrivals (R77), STATUS (R174) and unknown commands (R167). -/

namespace Sys2Proof.Machine

/-! ### Ingress -/

/-- R31: a DATA block offered to a transmit pass buffer. -/
def Tx.offer (t : Tx) (b : Block) : Tx :=
  if t.state = .running ∧ t.mode = .pass ∧ t.buf.length < 32 then { t with buf := t.buf ++ [b] }
  else { t with drops := t.drops.add 1 }

/-- R166: a LOCAL command record from its header and body blocks. -/
def localRec (h : Block) (body : List Block) : CmdRec :=
  ⟨.localPort, octetOf h 1, octetOf h 2, octetOf h 4, octetOf h 5, octetOf h 6, body⟩

/-- R165, R166: a complete record. -/
def State.recordDone (s : State) (h : Block) (body : List Block) : State :=
  let s := { s with ingress := .idle }
  if octetOf h 0 = 1 then
    if s.cmdQ.length < 8 then { s with cmdQ := s.cmdQ ++ [localRec h body] }
    else s.notify (.commandDropped (octetOf h 2) (octetOf h 1))
  else s.notify (.protocolFault .kind (some (octetOf h 2)))

/-- R165: a CONTROL block taken by the ingress assembly. -/
def State.control (s : State) (b : Block) : State :=
  match s.ingress with
  | .idle =>
    if octetOf b 7 ≠ 0xC3 then s.notify (.protocolFault .stray none)
    else if octetOf b 3 = 0 then s.recordDone b []
    else { s with ingress := .assembling b [] (octetOf b 3).toNat }
  | .assembling h body due =>
    if due ≤ 1 then s.recordDone h (body ++ [b]) else { s with ingress := .assembling h (body ++ [b]) (due - 1) }

/-- INGRESS_BLOCK (R165); discarded while RESET stays asserted (R171). -/
def execIngressBlock (ty : BlockType) (tag : LaneNo) (b : Block) (s : State) : Out :=
  if s.resetPin then .next s
  else
    match ty with
    | .data => .next (s.modTx tag (fun t => t.offer b))
    | .control => .next (s.control b)

/-! ### Egress -/

/-- The lanes from the one after `l` on, wrapping from 7 to 0 (R170). -/
def scanFrom (l : LaneNo) : List LaneNo := [l + 1, l + 2, l + 3, l + 4, l + 5, l + 6, l + 7, l]

/-- The blocks of an egress record, its header first (R168). -/
def EgRec.blocks (r : EgRec) : List Block := r.header :: r.body.blocks

/-- R170, cases 1 and 2: the next block of the record at the head; after its last block the record leaves. -/
def State.sendRecord (s : State) (r : EgRec) : State :=
  let s := { s with egressOut := some ⟨.control, 0, r.blocks.getD s.egressSent 0⟩ }
  if s.egressSent + 1 < r.blocks.length then { s with egressSent := s.egressSent + 1 }
  else { s with egress := s.egress.drop 1, egressSent := 0 }

/-- R170, cases 3 and 4. -/
def State.sendLane (s : State) : State :=
  match (scanFrom s.lastServed).find? (fun l => !(s.lane l).rxBuf.isEmpty) with
  | none => { s with egressOut := none }
  | some l =>
    { s.modLane l (fun L => { L with rxBuf := L.rxBuf.drop 1 }) with
      egressOut := some ⟨.data, l, ((s.lane l).rxBuf.head?).getD 0⟩, lastServed := l }

/-- EGRESS_READY (R170); nothing is sent while RESET stays asserted (R171). -/
def execEgressReady (s : State) : Out :=
  if s.resetPin then .next { s with egressOut := none }
  else
    match s.egress with
    | r :: _ => .next (s.sendRecord r)
    | [] => .next s.sendLane

/-! ### Resets -/

/-- HARD_RESET (R171): every block at its hard-reset values; the levels of the pins, and the events still to come, are
the outside's. -/
def execHardReset (s : State) : Out :=
  .next { State.reset with resetPin := true, quietPin := s.quietPin, pending := s.pending }

/-- RESET_RELEASE (R171). -/
def execResetRelease (s : State) : Out := .next { s with resetPin := false }

/-- R27, R34: a soft-reset transmitter; items that no rule gives a value stay (log entry 42). -/
def Tx.softReset (t : Tx) : Tx := { Tx.reset with framing := t.framing, stages := t.stages, phase := t.phase }

/-- R35. -/
def Checker.softReset (k : Checker) : Checker :=
  { Checker.reset with reason := k.reason, stages := k.stages, phase := k.phase }

/-- A lane at a soft reset (R9, R27, R35, R64, R78, R86, R88, R135, R138, R161, R169). -/
def Lane.softReset (t : Tick) (L : Lane) : Lane :=
  { Lane.reset with
    tx := L.tx.softReset, ck := L.ck.softReset, run := { RunTotals.reset with startTick := t } }

/-- R154, R164: the marker channel and the supervisor at a soft reset. -/
def State.softResetLink (s : State) : State :=
  { s with link := Link.reset, sup := { Supervisor.reset with last := s.sup.last } }.setSupAction .none

/-- R175: the soft reset. -/
def State.softReset (s : State) : State :=
  { s with
    slotPos := 0, frameSeq := 0, firstFrame := true, lanes := s.lanes.map (Lane.softReset s.tick),
    groups := ⟨Group.reset, Group.reset⟩, inj := s.inj.map InjChan.softReset, jobs := markServed s.jobs,
    capture := [], captureOver := false, lastServed := 7 }.softResetLink

/-- DEVICE_RESET (R175). -/
def execDeviceReset (s : State) : Out := .next (s.command 0x02 true anyTarget noBody (fun _ _ _ => Reply.ok s.softReset))

/-! ### Ticks -/

/-- R77: a tick arrival: the counter, then the windows, the injection channels and the supervisor (log entry 16). -/
def State.tickArrival (s : State) : State :=
  let s := { s with tick := s.tick + 1 }.forLanes (fun l s => s.windowTick l)
  { s with inj := s.inj.map InjChan.onTick }.supTick

/-- TICK_ARRIVAL (R77). -/
def execTickArrival (s : State) : Out := .next s.tickArrival.settleHolds

/-! ### STATUS and unknown commands -/

/-- R174. -/
def State.statusView (s : State) : StatusView where
  configured := s.configured
  tick := s.tick
  memFault := s.memFault
  captured := s.capture.length
  captureOver := s.captureOver
  channels := s.inj
  channelUp := s.link.up
  supActive := s.supActive
  supTicks := s.sup.ticks
  supArmed := s.sup.armed
  supWarned := s.sup.warned
  supAction := s.chan.map ChanSettings.action
  supLast := s.sup.last
  remote := Eight.gen (fun l => (s.lane l).remote)
  commands := s.cmdQ.length
  egressRecords := s.egress.length
  outbound := s.link.outbound.length
  noticesLost := s.noticesLost
  peerLost := s.link.peerLost

/-- R174: the two indications are cleared after they are copied. -/
def State.clearLost (s : State) : State := { s with noticesLost := false, link := { s.link with peerLost := false } }

/-- STATUS (R174). -/
def execStatus (s : State) : Out :=
  .next (s.command 0x01 true anyTarget noBody (fun _ _ _ => ⟨s.clearLost, .ok, .status s.statusView⟩))

/-- UNKNOWN_COMMAND (R167). -/
def execUnknownCommand (s : State) : Out :=
  match s.nextCommand with
  | none => .next s
  | some r => if isCommandCode r.code then .next s else .next (s.answer r .unknownCode .empty)

end Sys2Proof.Machine
end

