-- ==== Sys2Proof/Machine/HoldCommands.lean ====
section
/-! DEFINITION. The commands of the capture queue, the triggers and the hold control (R133, R134, R137, R138, R140,
R141). -/

namespace Sys2Proof.Machine

/-- R133: the `k` oldest entries and the overflow flag taken. -/
def State.readCapture (s : State) (k : Nat) : Reply :=
  let left := s.capture.drop k
  ⟨{ s with capture := left, captureOver := false }, .ok, .capture (s.capture.take k) s.captureOver left.length⟩

/-- READ_CAPTURE (R133). -/
def execReadCapture (p : BodyReading Nat) (s : State) : Out :=
  .next (s.command 0x1E false anyTarget (bodyOf p) (fun _ _ k => s.readCapture (readCount k)))

/-- CLEAR_CAPTURE (R134). -/
def execClearCapture (s : State) : Out :=
  .next (s.command 0x1F false anyTarget noBody (fun _ _ _ => Reply.ok { s with capture := [], captureOver := false }))

/-- R137. -/
def State.armTrigger (s : State) (l : LaneNo) (op : Option ArmOp) : Reply :=
  match op with
  | none => Reply.of s .badField
  | some .arm => Reply.ok (s.modLane l (fun L => { L with armed := (s.desc l).trigger != .none }))
  | some .disarm => Reply.ok (s.modLane l (fun L => { L with armed := false }))

/-- ARM_TRIGGER (R137). -/
def execArmTrigger (p : BodyReading (Option ArmOp)) (s : State) : Out :=
  .next (s.command 0x20 false laneOf (bodyOf p) (fun _ l op => s.armTrigger l op))

/-- HOLD_LANE (R138). -/
def execHoldLane (s : State) : Out := .next (s.laneCommand 0x21 (fun _ l => Reply.ok (s.requestHold l)))

/-- A HELD or STEPPING lane goes to another hold state; where it was not counting, the check of R55 is made (R140,
R141). -/
def State.leaveHeld (s : State) (l : LaneNo) (h : HoldState) : State :=
  let counted := s.counting l
  let s := s.modLane l (fun L => { L with hold := h, stepCount := 0 })
  if counted then s else (s.holdEndCheck l).settleHolds

/-- R140. -/
def State.resumeLane (s : State) (l : LaneNo) : State :=
  if (s.lane l).hold = .run then s else s.leaveHeld l .run

/-- RESUME_LANE (R140). -/
def execResumeLane (s : State) : Out := .next (s.laneCommand 0x22 (fun _ l => Reply.ok (s.resumeLane l)))

/-- R141. -/
def State.stepFrame (s : State) (l : LaneNo) : Reply :=
  match (s.lane l).hold with
  | .run => Reply.of s .notHeld
  | .stepping => Reply.of s .busy
  | .held => Reply.ok (s.leaveHeld l .stepping)

/-- STEP_FRAME (R141). -/
def execStepFrame (s : State) : Out := .next (s.laneCommand 0x23 (fun _ l => s.stepFrame l))

end Sys2Proof.Machine
end

