-- ==== Sys2Proof/Machine/InjCommands.lean ====
section
/-! DEFINITION. The commands of the injection channels (R112, R115, R124 to R126). -/

namespace Sys2Proof.Machine

/-- R112, R114: a channel armed. -/
def InjChan.arm (p : InjSettings) (sched : Nat → SchedEntry) : InjChan :=
  InjChan.toWaiting
    { InjChan.reset with
      settings := some p, remaining := p.count, rateLeft := p.rateK, entry := p.schedFirst,
      gap := (sched p.schedFirst).gap, blocks := (sched p.schedFirst).blocks }

/-- R112 from its settings check on. -/
def State.armChannel (s : State) (c : ChanNo) (a : ArmArg) : Reply :=
  match ArmArg.settings a with
  | none => Reply.of s .badField
  | some p =>
    if (s.inj.get c).state ≠ InjState.idle ∨ s.quietPin then Reply.of s .busy
    else Reply.ok (s.modInj c (fun _ => InjChan.arm p s.schedAt))

/-- ARM_CHANNEL (R112). -/
def execArmChannel (p : BodyReading ArmArg) (s : State) : Out :=
  .next (s.command 0x18 false fourOf (bodyOf p) (fun _ c a => s.armChannel c a))

/-- A command that names a channel and has no parameters. -/
def State.chanCommand (s : State) (code : Octet) (own : ChanNo → Reply) : State :=
  s.command code false fourOf noBody (fun _ c _ => own c)

/-- R126. -/
def State.disarm (s : State) (c : ChanNo) : State :=
  if (s.inj.get c).state = .idle then s else s.endChannel c .aborted

/-- DISARM_CHANNEL (R126). -/
def execDisarmChannel (s : State) : Out := .next (s.chanCommand 0x19 (fun c => Reply.ok (s.disarm c)))

/-- SUSPEND_CHANNEL (R124). -/
def execSuspendChannel (s : State) : Out :=
  .next (s.chanCommand 0x1A (fun c => Reply.ok (s.modInj c InjChan.suspend)))

/-- RUN_CHANNEL (R125). -/
def execRunChannel (s : State) : Out :=
  .next (s.chanCommand 0x1B (fun c =>
    if s.quietPin then Reply.of s .busy else Reply.ok (s.modInj c InjChan.resumeRun)))

/-- A channel, or with the target 4 every channel (R115). -/
def fireTarget (n : Nat) : Option (Option ChanNo) := if n = 4 then some none else (fourOf n).map some

/-- R115: a channel with source COMMAND that is WAITING takes an activation. -/
def InjChan.fireCommand (ch : InjChan) : InjChan := if ch.sourceIs (· == .command) then ch.activate else ch

/-- R115: FIRE of one channel. -/
def State.fireOne (s : State) (c : ChanNo) : Reply :=
  let ch := s.inj.get c
  if ch.state = .idle ∨ !ch.sourceIs (· == .command) then Reply.of s .badTarget
  else if ch.state = .waiting then Reply.ok (s.modInj c InjChan.fireCommand)
  else Reply.of s .busy

/-- FIRE (R115). -/
def execFire (s : State) : Out :=
  .next (s.command 0x1C false fireTarget noBody (fun _ t _ =>
    match t with
    | none => Reply.ok { s with inj := s.inj.map InjChan.fireCommand }
    | some c => s.fireOne c))

/-- QUIET_ALL (R124). -/
def execQuietAll (s : State) : Out :=
  .next (s.command 0x1D false anyTarget noBody (fun _ _ _ => Reply.ok { s with inj := s.inj.map InjChan.suspend }))

end Sys2Proof.Machine
end

