-- ==== Sys2Proof/Machine/Transmit.lean ====
section
/-! DEFINITION. The transmit framer and the transmitters (R1 to R7, R20 to R32). -/

namespace Sys2Proof.Machine

/-- R4: alternating ones and zeros, bit 0 a one. -/
def filler : Block := 0x5555555555555555

/-! ### Transmit frame boundaries -/

/-- R21, R22: the generator loaded from the seed, the user phase set to 0. -/
def Tx.load (t : Tx) (d : PatDesc) : Tx := { t with stages := BitVec.ofNat 31 d.seed, phase := 0 }

/-- R28: a pending start made. -/
def Tx.start (t : Tx) (d : PatDesc) : Tx :=
  let m := t.pendMode.getD t.mode
  let t := { t with state := .running, mode := m, pendStart := false, pendMode := none, buf := [] }
  if m = .pattern then t.load d else t

/-- R29: a pending stop made. -/
def Tx.stop (t : Tx) : Tx :=
  { t with
    state := .idle, mode := t.pendMode.getD t.mode, pendStop := false, pendMode := none,
    drops := t.drops.add t.buf.length, buf := [] }

/-- R30: a pending mode taken up where no start or stop is made. -/
def Tx.takeMode (t : Tx) (d : PatDesc) : Tx :=
  match t.pendMode with
  | none => t
  | some m =>
    let t' := { t with mode := m, pendMode := none }
    if t.state = .running ∧ m ≠ t.mode then
      let t' := { t' with drops := t.drops.add t.buf.length, buf := [] }
      if m = .pattern then t'.load d else t'
    else t'

/-- A transmit frame boundary at one lane (R3, R28 to R30). -/
def Tx.boundary (t : Tx) (framed : Bool) (d : PatDesc) : Tx :=
  let t := { t with framing := if framed then .framed else .raw }
  if t.pendStart then t.start d else if t.pendStop then t.stop else t.takeMode d

/-- R2, R114: slot 0 of a transmit frame. -/
def State.frameStart (s : State) : State :=
  let s := { s with frameSeq := if s.firstFrame then s.frameSeq else s.frameSeq + 1, firstFrame := false,
                    inj := s.inj.map InjChan.onFrame }
  s.forLanes (fun l s =>
    let framed := s.rxFramed l
    let d := s.txPat l
    s.modTx l (fun t => t.boundary framed d))

/-! ### What a lane's block holds -/

/-- R5: the pattern phase of a lane's marker. -/
def State.markerPhase (s : State) (l : LaneNo) : Nat :=
  let t := (s.lane l).tx
  if t.state = .running ∧ t.mode = .pattern ∧ patIsUser (s.txPat l).kind then t.phase else 0

/-- R5: the marker of a lane in this slot. -/
def State.markerOf (s : State) (l : LaneNo) : Marker :=
  let f := if s.isMgmt l then s.link.sendFields s.handshake else SendFields.zero
  { id := (s.map l).txId, lock := (s.lane l).ck.state == .locked, alarm := s.reportedAlarm l, word := f.word,
    toggle := f.toggle, seq := s.frameSeq, octet := f.octet, phase := s.markerPhase l, recordEnd := f.recordEnd,
    resume := f.resume, resumeToggle := f.resumeToggle }

/-- R20 to R22: the block of a RUNNING PATTERN lane. -/
def State.generate (s : State) (l : LaneNo) : Block × State :=
  let d := s.txPat l
  let t := (s.lane l).tx
  if patIsUser d.kind then
    let r := s.readPattern l (d.start + t.phase) false
    (inverted d.invert r.1, r.2.modTx l (fun t => { t with phase := nextPhase t.phase d.len }))
  else
    let g := prbsBlock d.kind t.stages
    (inverted d.invert g.1, s.modTx l (fun t => { t with stages := g.2 }))

/-- R32: the oldest block of the transmit pass buffer, or filler and an underrun. -/
def State.takePass (s : State) (l : LaneNo) : Block × State :=
  match (s.lane l).tx.buf with
  | [] => (filler, s.modTx l (fun t => { t with underrun := t.underrun.add 1 }))
  | b :: rest => (b, s.modTx l (fun t => { t with buf := rest }))

/-- The slot at hand is a marker slot of the lane (R3). -/
def State.markerSlot (s : State) (l : LaneNo) : Bool := (s.lane l).tx.framing == .framed && s.slotPos == 0

/-- R3, R4: the block a lane's source supplies in this slot; a marker on the management lane sends its octet (R159). -/
def State.sourceBlock (s : State) (l : LaneNo) : Block × State :=
  if s.markerSlot l then
    (buildMarker (s.markerOf l), if s.isMgmt l then s.octetPlaced else s)
  else if (s.lane l).tx.state = .idle ∨ !s.configured then (filler, s)
  else if (s.lane l).tx.mode = .pattern then s.generate l
  else s.takePass l

/-! ### One slot -/

/-- One lane's block of the slot, with the injection unit behind its source. -/
def State.laneSlot (dues : Four (Option Injection)) (w : Eight Block × State) (l : LaneNo) : Eight Block × State :=
  let r := w.2.sourceBlock l
  let a := arbitrate r.2 l (w.2.markerSlot l) dues r.1
  (w.1.set l a.1, a.2)

/-- The slot as the channels count it (R116 to R118). -/
def State.countSlot (s : State) : Four (Option Injection) × State :=
  (s.inj.map (fun ch => (ch.slot s.schedAt).1), { s with inj := s.inj.map (fun ch => (ch.slot s.schedAt).2) })

/-- R1: one slot on all eight lanes. Of the channels that settle after the slot (R120), the lower-numbered settles first, and
so sends its INJECTION_END first (DESIGN CHOICE, log entry 54). -/
def State.sendSlot (s : State) : State :=
  let s := if s.slotPos = 0 then s.frameStart else s
  let d := s.countSlot
  let w := lanesAll.foldl (State.laneSlot d.1) (Eight.all 0, d.2)
  let s := chansAll.foldl State.settleChan w.2
  { s with slotOut := some w.1, slotPos := if s.slotPos + 1 < 128 then s.slotPos + 1 else 0 }

/-- TRANSMIT_SLOT (R1); while RESET stays asserted no slot is emitted (R171). -/
def execTransmitSlot (s : State) : Out := if s.resetPin then .next { s with slotOut := none } else .next s.sendSlot

end Sys2Proof.Machine
end

