-- ==== Sys2Proof/Machine/WinCommands.lean ====
section
/-! DEFINITION. The commands of windows, histories, run totals and groups (R71, R74, R76, R84, R85, R87, R89). -/

namespace Sys2Proof.Machine

/-- R84: the open window closed with COMMAND, without repeat, and a new one opened. -/
def State.reopenWindow (s : State) (l : LaneNo) : State := ((s.closeWindow l .command).openWindow l).settleHolds

/-- OPEN_WINDOW (R84). -/
def execOpenWindow (s : State) : Out :=
  .next (s.laneCommand 0x10 (fun _ l => if s.ckOff l then Reply.of s .badTarget else Reply.ok (s.reopenWindow l)))

/-- CLOSE_WINDOW (R85). -/
def execCloseWindow (s : State) : Out :=
  .next (s.laneCommand 0x11 (fun _ l => Reply.ok (s.closeWindow l .command).settleHolds))

/-- The `k` newest records, oldest first (R87). -/
def newest (k : Nat) (h : List WinRecord) : List WinRecord := h.drop (h.length - k)

/-- READ_HISTORY (R87). -/
def execReadHistory (p : BodyReading Nat) (s : State) : Out :=
  .next (s.command 0x12 false sourceOf (bodyOf p) (fun _ src k =>
    ⟨s, .ok, .history (newest (readCount k) (s.history src))⟩))

/-- READ_RUN (R89). -/
def execReadRun (s : State) : Out :=
  .next (s.laneCommand 0x13 (fun _ l => ⟨s, .ok, .runTotals (s.lane l).run.counts (s.lane l).run.startTick⟩))

/-- CLEAR_RUN (R89). -/
def execClearRun (s : State) : Out := .next (s.laneCommand 0x14 (fun _ l => Reply.ok (s.clearRun l)))

/-- A command that names a group and has no parameters. -/
def State.groupCommand (s : State) (code : Octet) (own : GroupId → Reply) : State :=
  s.command code false groupOf noBody (fun _ g _ => own g)

/-- R71: S0 and the leading offset of a window opened by command. While S0 is undetermined the leading offset is held, and shown
by READ_GROUP, as 0 (DESIGN CHOICE, log entry 49). -/
def State.openingS0 (s : State) (g : GroupId) : Option FrameSeq × Int :=
  match (s.alignedMembers g).isEmpty, (s.group g).leading with
  | false, some b => (some (b + 1), -1)
  | _, _ => (none, 0)

/-- R71: the group's open window, if any, closed with COMMAND, its alarm state set to CLEAR and a new window opened. -/
def State.commandGroup (s : State) (g : GroupId) : State :=
  let s := (s.closeGroup g .command).modGroup g (fun gr => { gr with alarm := .clear })
  let d := (s.groupDesc.get g).getD GroupDesc.absent
  s.openGroup g d.spec d.rep d.notices (s.openingS0 g).1 (s.openingS0 g).2

/-- OPEN_GROUP_WINDOW (R71). -/
def execOpenGroupWindow (s : State) : Out := .next (s.groupCommand 0x15 (fun g => Reply.ok (s.commandGroup g)))

/-- CLOSE_GROUP_WINDOW (R74). -/
def execCloseGroupWindow (s : State) : Out := .next (s.groupCommand 0x16 (fun g => Reply.ok (s.closeGroup g .command)))

/-- R76: a member lane in the snapshot of its group. A member that does not contribute although every condition of R65 holds, since
it waits for its next boundary, has no failing condition; an absent member has its other items too (DESIGN CHOICE, log entry
60). -/
def State.memberView (s : State) (l : LaneNo) : MemberView :=
  let L := s.lane l
  { lane := l, present := s.rxFramed l, contributing := L.mem.contributing,
    failing := if L.mem.contributing then none else s.contribFail l,
    lag := L.mem.lag, skew := L.mem.skew, greatestLag := L.mem.greatestLag, whole := L.mem.whole, idm := L.idm }

/-- R76: the snapshot of a group. -/
def State.groupView (s : State) (g : GroupId) : GroupView :=
  { desc := s.groupDesc.get g, leading := (s.group g).leading, alarm := (s.group g).alarm,
    members := (lanesAll.filter (s.isMember g)).map s.memberView,
    ring := (s.group g).ring.map (fun e =>
      (e.seq, e.errored, Eight.gen (fun l => s.isMember g l && s.passedEntry l e))),
    win := (s.group g).win }

/-- READ_GROUP (R76). -/
def execReadGroup (s : State) : Out := .next (s.groupCommand 0x17 (fun g => ⟨s, .ok, .group (s.groupView g)⟩))

end Sys2Proof.Machine
end

