-- ==== Sys2Proof/Machine/Dispatch.lean ====
section
/-! DEFINITION. `exec`: one arm for each row of spec/opcode_table.json, in its order. -/

namespace Sys2Proof.Machine

def exec (i : Instr) (s : State) : Host.Outcome State Fault Refusal :=
  match i with
  | .hardReset => Sys2Proof.Machine.execHardReset s
  | .resetRelease => Sys2Proof.Machine.execResetRelease s
  | .tickArrival => Sys2Proof.Machine.execTickArrival s
  | .quietAssertion => Sys2Proof.Machine.execQuietAssertion s
  | .quietRelease => Sys2Proof.Machine.execQuietRelease s
  | .injectArrival => Sys2Proof.Machine.execInjectArrival s
  | .egressReady => Sys2Proof.Machine.execEgressReady s
  | .ingressBlock ty tag b => Sys2Proof.Machine.execIngressBlock ty tag b s
  | .transmitSlot => Sys2Proof.Machine.execTransmitSlot s
  | .rateCountdownExpiry c => Sys2Proof.Machine.execRateCountdownExpiry c s
  | .scheduleGapExpiry c => Sys2Proof.Machine.execScheduleGapExpiry c s
  | .ticksActivationExpiry c => Sys2Proof.Machine.execTicksActivationExpiry c s
  | .framesActivationExpiry c => Sys2Proof.Machine.execFramesActivationExpiry c s
  | .receiveBlock l b => Sys2Proof.Machine.execReceiveBlock l b s
  | .pseudoFrameBoundary l => Sys2Proof.Machine.execPseudoFrameBoundary l s
  | .stepCountExpiry l => Sys2Proof.Machine.execStepCountExpiry l s
  | .laneWindowLengthClose l => Sys2Proof.Machine.execLaneWindowLengthClose l s
  | .ratioJobComplete => Sys2Proof.Machine.execRatioJobComplete s
  | .supervisorExpiry => Sys2Proof.Machine.execSupervisorExpiry s
  | .status => Sys2Proof.Machine.execStatus s
  | .deviceReset => Sys2Proof.Machine.execDeviceReset s
  | .loadImage p => Sys2Proof.Machine.execLoadImage p s
  | .dumpTables p => Sys2Proof.Machine.execDumpTables p s
  | .readEntry p => Sys2Proof.Machine.execReadEntry p s
  | .writeLaneMapEntry p => Sys2Proof.Machine.execWriteLaneMapEntry p s
  | .writeLaneDescriptor p => Sys2Proof.Machine.execWriteLaneDescriptor p s
  | .writePatternDescriptor p => Sys2Proof.Machine.execWritePatternDescriptor p s
  | .writePatternMemory p => Sys2Proof.Machine.execWritePatternMemory p s
  | .writeScheduleEntry p => Sys2Proof.Machine.execWriteScheduleEntry p s
  | .writeConfidenceEntry p => Sys2Proof.Machine.execWriteConfidenceEntry p s
  | .writeAlarmProfile p => Sys2Proof.Machine.execWriteAlarmProfile p s
  | .writeGroupDescriptor p => Sys2Proof.Machine.execWriteGroupDescriptor p s
  | .writeChannelSettings p => Sys2Proof.Machine.execWriteChannelSettings p s
  | .writePermitSet p => Sys2Proof.Machine.execWritePermitSet p s
  | .clearMemoryFault => Sys2Proof.Machine.execClearMemoryFault s
  | .startTx => Sys2Proof.Machine.execStartTx s
  | .stopTx => Sys2Proof.Machine.execStopTx s
  | .setTxMode p => Sys2Proof.Machine.execSetTxMode p s
  | .startRx => Sys2Proof.Machine.execStartRx s
  | .stopRx => Sys2Proof.Machine.execStopRx s
  | .resync => Sys2Proof.Machine.execResync s
  | .restartLane => Sys2Proof.Machine.execRestartLane s
  | .readLane => Sys2Proof.Machine.execReadLane s
  | .openWindow => Sys2Proof.Machine.execOpenWindow s
  | .closeWindow => Sys2Proof.Machine.execCloseWindow s
  | .readHistory p => Sys2Proof.Machine.execReadHistory p s
  | .readRun => Sys2Proof.Machine.execReadRun s
  | .clearRun => Sys2Proof.Machine.execClearRun s
  | .openGroupWindow => Sys2Proof.Machine.execOpenGroupWindow s
  | .closeGroupWindow => Sys2Proof.Machine.execCloseGroupWindow s
  | .readGroup => Sys2Proof.Machine.execReadGroup s
  | .armChannel p => Sys2Proof.Machine.execArmChannel p s
  | .disarmChannel => Sys2Proof.Machine.execDisarmChannel s
  | .suspendChannel => Sys2Proof.Machine.execSuspendChannel s
  | .runChannel => Sys2Proof.Machine.execRunChannel s
  | .fire => Sys2Proof.Machine.execFire s
  | .quietAll => Sys2Proof.Machine.execQuietAll s
  | .readCapture p => Sys2Proof.Machine.execReadCapture p s
  | .clearCapture => Sys2Proof.Machine.execClearCapture s
  | .armTrigger p => Sys2Proof.Machine.execArmTrigger p s
  | .holdLane => Sys2Proof.Machine.execHoldLane s
  | .resumeLane => Sys2Proof.Machine.execResumeLane s
  | .stepFrame => Sys2Proof.Machine.execStepFrame s
  | .saveContext => Sys2Proof.Machine.execSaveContext s
  | .snapshotContext => Sys2Proof.Machine.execSnapshotContext s
  | .restoreContext => Sys2Proof.Machine.execRestoreContext s
  | .sendPeer p => Sys2Proof.Machine.execSendPeer p s
  | .setSupervisor p => Sys2Proof.Machine.execSetSupervisor p s
  | .unknownCommand => Sys2Proof.Machine.execUnknownCommand s

end Sys2Proof.Machine
end

