-- ==== Sys2Proof/Machine/Step.lean ====
section
/-! DEFINITION. One step: the event at the front of the queue is taken; on an empty queue the part idles (log entry 8). -/

namespace Sys2Proof.Machine

/-- The state with a command at the front of its queue. -/
def State.withPending (s : State) (c : Instr) : State := { s with pending := c :: s.pending }

/-- The command at the front runs on the state with the queue's rest. -/
def step (s : State) : Host.Outcome State Fault Refusal :=
  match s.pending with
  | [] => .next s
  | c :: rest => exec c { s with pending := rest }

/-- The command that a word spells put at the front of the queue; no word spells one (Decode). -/
def State.withFetchWord (s : State) (nbits w : Nat) : State :=
  match decodeTableWord nbits w with
  | none => s
  | some c => s.withPending c

end Sys2Proof.Machine
end

