-- ==== Sys2Proof/Safety.lean ====
section
/-! DEFINITION. What the claims speak of: the invariants of the part, and the moment at which the command processor takes a
command. -/

namespace Sys2Proof.Machine

/-! ### Queues -/

/-- The bounds of one lane: transmit and receive pass buffers (R27, R169) and interval history (R86). -/
def Lane.bounded (L : Lane) : Bool :=
  decide (L.tx.buf.length ≤ 32) && decide (L.rxBuf.length ≤ 32) && decide (L.hist.length ≤ 16)

/-- Every FIFO within its size: command queue (R166), egress record queue (R168), outbound queue (R156), capture queue
(R132), the lanes' buffers and the ten histories. A waiting command has a place kept for its response (R167). -/
def State.queuesBounded (s : State) : Bool :=
  decide (s.cmdQ.length ≤ 8) && decide (s.egress.length ≤ 16) && (!s.waiting || decide (s.egress.length ≤ 15))
    && decide (s.link.outbound.length ≤ 4) && decide (s.capture.length ≤ 256)
    && lanesAll.all (fun l => (s.lane l).bounded)
    && decide (s.groups.ga.hist.length ≤ 16) && decide (s.groups.gb.hist.length ≤ 16)

/-- The ratio job queue (R96, R97): its head, and no other job, is in service, and no two waiting jobs have one source. -/
def jobsOrdered : List Job → Bool
  | [] => true
  | j :: rest =>
    j.inputs.isSome && rest.all (fun k => k.inputs.isNone) && decide ((rest.map Job.source).Nodup)

/-! ### Counts -/

/-- R53: N a whole multiple of 64 within its cap, and E not above N. -/
def Counts.sound (c : Counts) : Bool := c.goodBits && decide (c.errors ≤ c.bits)

/-- The blocks of a pending heavy run have at most 64 errors each (R43). -/
def runSound (run : List RunItem) : Bool :=
  run.all (fun it => match it with
    | .heavy r => decide (r.errs ≤ 64)
    | .entry _ => true)

def Lane.sound (L : Lane) : Bool :=
  L.win.counts.sound && L.run.counts.sound && L.hist.all (fun r => r.counts.sound) && runSound L.ck.run

def Group.sound (g : Group) : Bool :=
  (match g.win with
    | none => true
    | some w => w.counts.sound) && g.hist.all (fun r => r.counts.sound)

/-- R53: every set of counts of the part is sound. -/
def State.countsSound (s : State) : Bool :=
  lanesAll.all (fun l => (s.lane l).sound) && s.groups.ga.sound && s.groups.gb.sound

/-! ### Supervisor, tables, holds -/

/-- R162: an inactive supervisor has its tick count and stage flags clear. -/
def State.supCleared (s : State) : Bool := s.supActive || (s.sup.ticks == 0 && !s.sup.armed && !s.sup.warned)

/-- R172: a CONFIGURED part holds no empty entry. -/
def State.tablesLoaded (s : State) : Bool := !s.configured || s.firstEmpty.isNone

/-- No hold request of a trigger is left over between steps (R136 step 4). -/
def State.holdsSettled (s : State) : Bool := lanesAll.all (fun l => !(s.lane l).holdReq)

/-! ### Frames -/

/-- The fields that no measuring operation writes: the notices, the window unit, the group aligner, the ratio engine, the
capture unit, the checker and the hold control leave them alone. -/
structure Fixed where
  resetPin : Bool
  quietPin : Bool
  configured : Bool
  tick : Tick
  laneMap : Eight (Option LaneMapEntry)
  laneDesc : Eight (Option LaneDesc)
  patDesc : Eight (Option PatDesc)
  patMem : PatMem
  sched : Vector (Option SchedEntry) 64
  conf : Vector (Option Nat) 32
  profiles : Four (Option AlarmProfile)
  groupDesc : GPair (Option GroupDesc)
  chan : Option ChanSettings
  permit : List Octet
  slotPos : Nat
  frameSeq : FrameSeq
  firstFrame : Bool
  inj : Four InjChan
  link : Link
  sup : Supervisor
  ingress : Ingress
  cmdQ : List CmdRec
  waiting : Bool
  egressSent : Nat
  lastServed : LaneNo
  slotOut : Option (Eight Block)
  egressOut : Option EgBlock
  pending : List Instr
deriving DecidableEq

/-- Those fields of a state. -/
def State.fixed (s : State) : Fixed :=
  ⟨s.resetPin, s.quietPin, s.configured, s.tick, s.laneMap, s.laneDesc, s.patDesc, s.patMem, s.sched,
    s.conf, s.profiles, s.groupDesc, s.chan, s.permit, s.slotPos, s.frameSeq, s.firstFrame, s.inj, s.link,
    s.sup, s.ingress, s.cmdQ, s.waiting, s.egressSent, s.lastServed, s.slotOut, s.egressOut, s.pending⟩

/-- A lane without its group items and its history: what no event of another lane changes. -/
def Lane.still (L : Lane) : Lane := { L with mem := Member.reset, hist := [] }

/-- From `s` to `t` the fixed fields are unchanged, and every lane but `l` is, its group items and history apart. -/
def State.keeps (s t : State) (l : LaneNo) : Prop :=
  t.fixed = s.fixed ∧ ∀ m, m ≠ l → (t.lane m).still = (s.lane m).still

/-! ### Received blocks -/

/-- The aligner hands the block on as a payload block (R8 to R13). -/
def State.isPayload (s : State) (l : LaneNo) (b : Block) : Bool :=
  !s.rxFramed l ||
    (match (s.lane l).al.state with
      | .seek => !goodMarker b
      | .trial => decide ((s.lane l).al.pos < 127) || !goodMarker b
      | .aligned => decide ((s.lane l).al.pos < 127))

/-- The heavy blocks of a pending heavy run, oldest first (R46). -/
def heavyBlocks (run : List RunItem) : List Checked :=
  run.filterMap (fun it => match it with
    | .heavy r => some r
    | .entry _ => none)

/-- The capture entries that a pending heavy run gives at its release, in list order: the BIT_ERRORS entry of each errored
block for which the policy asked, and the held entries (R46, R47). -/
def releasedEntries (l : LaneNo) (run : List RunItem) : List CapEntry :=
  run.filterMap (fun it => match it with
    | .heavy r => if r.errs ≠ 0 ∧ r.wants = true then some ⟨l, .bitErrors, r.seq, r.pos, some r.errs, r.tick⟩ else none
    | .entry c => some c)

/-- The capture entries that a discarded run gives: the held ones (R39, R48). -/
def heldEntries (run : List RunItem) : List CapEntry :=
  run.filterMap (fun it => match it with
    | .heavy _ => none
    | .entry c => some c)

/-- A good marker arrives where the aligner of the lane uses it by R15: while ALIGNED, or as the one that completes TRIAL. -/
def State.takesMarker (s : State) (l : LaneNo) (b : Block) : Bool :=
  s.rxFramed l && goodMarker b && decide (127 ≤ (s.lane l).al.pos) &&
    (match (s.lane l).al.state with
      | .seek => false
      | .trial => decide (2 ≤ (s.lane l).al.trial)
      | .aligned => true)

/-- The fourth consecutive bad marker of an ALIGNED lane arrives (R13). -/
def State.losesMarkers (s : State) (l : LaneNo) (b : Block) : Bool :=
  s.rxFramed l && s.aligned l && decide (127 ≤ (s.lane l).al.pos) && !goodMarker b && decide (3 ≤ (s.lane l).al.miss)

/-! ### The command processor -/

/-- The processor is free, the egress record queue has a free place, and `r` is the oldest command, with `rest` behind it
(R167). -/
abbrev State.takes (s : State) (r : CmdRec) (rest : List CmdRec) : Prop :=
  s.waiting = false ∧ s.egress.length < 16 ∧ s.cmdQ = r :: rest

/-- A LOCAL command record with must-be-zero octets of 0. -/
def localCmd (code tag target : Octet) (body : List Block) : CmdRec := ⟨.localPort, code, tag, target, 0, 0, body⟩

/-- The target octets that name a lane, and a channel, bank or profile. -/
def laneOctet (l : LaneNo) : Octet := BitVec.ofNat 8 l.val
def fourOctet (c : Fin 4) : Octet := BitVec.ofNat 8 c.val

/-- The target octet that names a group (log entry 23). -/
def groupOctet : GroupId → Octet
  | .a => 8
  | .b => 9

/-- A state with one lane, channel or group replaced. -/
def State.putLane (s : State) (l : LaneNo) (L : Lane) : State := { s with lanes := s.lanes.set l L }
def State.putInj (s : State) (c : ChanNo) (ch : InjChan) : State := { s with inj := s.inj.set c ch }

/-- The egress record of a response (R167, R168). -/
def responseTo (r : CmdRec) (st : Status) (body : Body) : EgRec := ⟨false, r.code, r.tag, r.target, st.code, body⟩

/-- The command answered: it has left the command queue and its response stands last in the egress record queue. -/
def State.answered (s : State) (r : CmdRec) (rest : List CmdRec) (st : Status) (body : Body) : State :=
  { s with cmdQ := rest, egress := s.egress ++ [responseTo r st body] }

/-- A REMOTE command answered with an empty body: it has left the command queue and its PEER_RESPONSE stands last in the
outbound queue (R160). -/
def State.answeredRemotely (s : State) (r : CmdRec) (rest : List CmdRec) (st : Status) : State :=
  { s with
    cmdQ := rest
    link := { s.link with outbound := s.link.outbound ++ [⟨2, r.code, r.tag, st.code, []⟩] } }

end Sys2Proof.Machine
end

