-- ==== Sys2Proof/Certificates/Slice0/Obligations.lean ====
section
/-! DEFINITION. The statements for the provers. A statement about a command of the command processor speaks of the moment at which
the row takes its record from the command queue (log entry 1), and a command with parameters of the reading of its body that
the row carries (log entry 2). -/

open Sys2Proof Sys2Proof.Machine

/-! ### Steps, pins and ticks -/

/-- A step runs the command at the front of the queue on the state with the queue's rest; with nothing in the queue the part
idles (log entry 8: the model's choice). -/
def Obligations.StepRunsFrontCommand : Prop :=
  (∀ (s : State) (c : Instr) (rest : List Instr), s.pending = c :: rest → step s = exec c { s with pending := rest }) ∧
  (∀ s : State, s.pending = [] → step s = .next s)

/-- HARD_RESET (R171 and the reset clause of each chapter). That the row leaves RESET asserted, and keeps the QUIET level and the
queue of events, is the model's choice (log entry 9). -/
def Obligations.HardResetEmptiesPart : Prop :=
  ∀ s : State, ∃ t, exec .hardReset s = .next t ∧
    t.resetPin = true ∧ t.quietPin = s.quietPin ∧ t.pending = s.pending ∧ t.configured = false ∧ t.tick = 0 ∧
    t.frameSeq = 0 ∧ t.slotPos = 0 ∧
    (∀ l, t.laneMap.get l = none ∧ t.laneDesc.get l = none ∧ t.patDesc.get l = none) ∧
    (∀ i, patRead t.patMem i = ⟨0, true⟩) ∧
    (∀ (i : Nat) (h : i < 64), t.sched[i]'h = none) ∧ (∀ (i : Nat) (h : i < 32), t.conf[i]'h = none) ∧
    (∀ i, t.profiles.get i = none ∧ t.memFault.get i = false) ∧ (∀ g, t.groupDesc.get g = none) ∧
    t.chan = none ∧ t.permit = [] ∧
    t.ingress = .idle ∧ t.cmdQ = [] ∧ t.waiting = false ∧ t.egress = [] ∧ t.noticesLost = false ∧ t.lastServed = 7 ∧
    t.jobs = [] ∧ t.capture = [] ∧ t.captureOver = false ∧
    t.link.up = false ∧ t.link.outbound = [] ∧ t.link.asm = [] ∧
    t.sup.ticks = 0 ∧ t.sup.armed = false ∧ t.sup.warned = false ∧ t.sup.last = none ∧
    (∀ c, (t.inj.get c).state = .idle ∧ (t.inj.get c).settings = none) ∧
    (∀ g, (t.group g).leading = none ∧ (t.group g).ring = [] ∧ (t.group g).win = none ∧ (t.group g).hist = [] ∧
      (t.group g).alarm = .clear) ∧
    (∀ l, (t.lane l).tx.state = .idle ∧ (t.lane l).tx.mode = .pattern ∧ (t.lane l).tx.buf = [] ∧
      (t.lane l).al.state = .seek ∧ (t.lane l).al.far = .unknown ∧ (t.lane l).ck.state = .off ∧
      (t.lane l).ck.run = [] ∧ (t.lane l).win.isOpen = false ∧ (t.lane l).win.nextNumber = 0 ∧ (t.lane l).hist = [] ∧
      (t.lane l).run.counts = Counts.zero ∧ (t.lane l).alarm = .clear ∧ (t.lane l).alarmKnown = false ∧
      (t.lane l).hold = .run ∧ (t.lane l).armed = false ∧ (t.lane l).rxBuf = [] ∧
      (t.lane l).remote = ⟨none, false, false⟩)

/-- The pins: RESET_RELEASE (R171) and QUIET_RELEASE (R124) change the pin alone, QUIET_ASSERTION (R124) suspends every WAITING
or ACTIVE channel, and INJECT_ARRIVAL (R114) makes every WAITING channel with source PIN ACTIVE. -/
def Obligations.PinEventsActOnChannels : Prop :=
  (∀ s : State, exec .resetRelease s = .next { s with resetPin := false } ∧
     exec .quietRelease s = .next { s with quietPin := false }) ∧
  (∀ s : State,
     (∃ inj, exec .quietAssertion s = .next { s with quietPin := true, inj := inj } ∧
       ∀ c,
         ((s.inj.get c).state = .waiting →
           inj.get c = { s.inj.get c with state := .suspended, resume := .waiting, deferred := Eight.all none }) ∧
         ((s.inj.get c).state = .active →
           inj.get c = { s.inj.get c with state := .suspended, resume := .active, deferred := Eight.all none }) ∧
         ((s.inj.get c).state = .idle ∨ (s.inj.get c).state = .suspended → inj.get c = s.inj.get c)) ∧
     (∃ inj, exec .injectArrival s = .next { s with inj := inj } ∧
       ∀ c,
         ((s.inj.get c).state = .waiting ∧ (s.inj.get c).settings.map InjSettings.source = some .pin →
           inj.get c = { s.inj.get c with state := .active }) ∧
         ((s.inj.get c).state ≠ .waiting ∨ (s.inj.get c).settings.map InjSettings.source ≠ some .pin →
           inj.get c = s.inj.get c)))

/-- R77: TICK_ARRIVAL advances the tick counter by one, wrapping, in every state of the part (that it does so while RESET stays
asserted is the model's reading, log entry 10), and changes, of the fixed fields, the injection channels, the supervisor, its
action in the channel settings and the marker channel alone; nothing but a tick arrival and a hard reset moves the counter. The
arrival raises ticks elapsed of a counting lane's open window and closes a TICKS window that it completes, at the new value
(R80 to R83, while the supervisor takes no expiry); it counts the activations of TICKS channels (R114) and the supervisor's
ticks (R162). -/
def Obligations.OnlyTicksMoveTickCounter : Prop :=
  (∀ s : State, ∃ t, exec .tickArrival s = .next t ∧ t.tick = s.tick + 1 ∧
     ({ t with tick := s.tick, inj := s.inj, chan := s.chan, link := s.link, sup := s.sup } : State).fixed = s.fixed) ∧
  (∀ (c : Instr) (s t : State), c ≠ .tickArrival → c ≠ .hardReset → exec c s = .next t → t.tick = s.tick) ∧
  (∀ (s t : State) (l : LaneNo), exec .tickArrival s = .next t → s.supDue = false →
     ((s.lane l).win.isOpen = false ∨ s.counting l = false → (t.lane l).win = (s.lane l).win) ∧
     ((s.lane l).win.isOpen = true → s.counting l = true →
       ((∀ n, (s.desc l).spec = .ticks n → (s.lane l).win.ticks + 1 < n) →
         (t.lane l).win = { (s.lane l).win with
           ticks := min ((s.lane l).win.ticks + 1) 4294967295
           counts := { (s.lane l).win.counts with
             sat := (s.lane l).win.counts.sat || decide (4294967295 ≤ (s.lane l).win.ticks + 1) } }) ∧
       (∀ n, (s.desc l).spec = .ticks n → n ≤ (s.lane l).win.ticks + 1 → n ≤ 16777215 →
         (t.lane l).win.isOpen = (s.desc l).rep ∧
         ((s.desc l).rep = true → (t.lane l).win.number = (s.lane l).win.nextNumber ∧
           (t.lane l).win.openTick = s.tick + 1 ∧ (t.lane l).win.ticks = 0 ∧ (t.lane l).win.counts = Counts.zero) ∧
         ∃ r, (t.lane l).hist.getLast? = some r ∧ r.number = (s.lane l).win.number ∧ r.reason = .length ∧
           r.openTick = (s.lane l).win.openTick ∧ r.closeTick = s.tick + 1 ∧ r.frames = (s.lane l).win.frames))) ∧
  (∀ (s t : State) (c : ChanNo), exec .tickArrival s = .next t →
     ((s.inj.get c).state = .idle ∨ (∀ n, (s.inj.get c).settings.map InjSettings.source ≠ some (.ticks n)) →
       t.inj.get c = s.inj.get c) ∧
     (∀ n, (s.inj.get c).state ≠ .idle → (s.inj.get c).settings.map InjSettings.source = some (.ticks n) →
       ((s.inj.get c).actCount + 1 < n → t.inj.get c = { s.inj.get c with actCount := (s.inj.get c).actCount + 1 }) ∧
       (n ≤ (s.inj.get c).actCount + 1 → t.inj.get c = { s.inj.get c with
         actCount := 0
         state := if (s.inj.get c).state = .waiting then .active else (s.inj.get c).state }))) ∧
  (∀ s t : State, exec .tickArrival s = .next t →
     (s.supActive = false → t.sup = s.sup) ∧
     (s.supActive = true → s.sup.ticks + 1 < s.supPeriod → t.sup = { s.sup with ticks := s.sup.ticks + 1 }) ∧
     (s.supActive = true → s.supPeriod ≤ s.sup.ticks + 1 → s.sup.armed = false →
       t.sup = { s.sup with ticks := 0, armed := true }))

/-! ### Client port -/

/-- EGRESS_READY (R170): the next block of the record at the head, and its leaving after the last; else the oldest block of
the first non-empty receive pass buffer from the lane after the last served; else nothing. Nothing while RESET is asserted
(R171). -/
def Obligations.EgressArbiterOrder : Prop :=
  ∀ s : State,
    (s.resetPin = true → exec .egressReady s = .next { s with egressOut := none }) ∧
    (s.resetPin = false →
      (∀ (r : EgRec) (rest : List EgRec) (b : Block), s.egress = r :: rest →
        (r.header :: r.body.blocks)[s.egressSent]? = some b →
        (s.egressSent < r.body.blocks.length →
          exec .egressReady s =
            .next { s with egressOut := some ⟨.control, 0, b⟩, egressSent := s.egressSent + 1 }) ∧
        (s.egressSent = r.body.blocks.length →
          exec .egressReady s = .next { s with egressOut := some ⟨.control, 0, b⟩, egress := rest, egressSent := 0 })) ∧
      (∀ (k : Fin 8) (b : Block) (bs : List Block), s.egress = [] →
        (∀ j, j < k → (s.lane (s.lastServed + 1 + j)).rxBuf = []) →
        (s.lane (s.lastServed + 1 + k)).rxBuf = b :: bs →
        exec .egressReady s =
          .next { s.putLane (s.lastServed + 1 + k) { s.lane (s.lastServed + 1 + k) with rxBuf := bs } with
            egressOut := some ⟨.data, s.lastServed + 1 + k, b⟩, lastServed := s.lastServed + 1 + k }) ∧
      (s.egress = [] → (∀ l, (s.lane l).rxBuf = []) → exec .egressReady s = .next { s with egressOut := none })) ∧
    s.softReset.lastServed = 7 ∧ ∃ t : State, exec .hardReset s = .next t ∧ t.lastServed = 7

/-- INGRESS_BLOCK: discarded, whatever its type, while RESET stays asserted (R171). Of type DATA (R31): accepted at the tail of
the buffer of a transmitter RUNNING in PASS mode that holds fewer than 32 blocks, and else counted in tx-pass-drops, whose cap
is 2^32 − 1 (R34). -/
def Obligations.DataBlockAcceptedOrDropped : Prop :=
  (∀ (s : State) (ty : BlockType) (j : LaneNo) (b : Block), s.resetPin = true →
    exec (.ingressBlock ty j b) s = .next s) ∧
  ∀ (s : State) (j : LaneNo) (b : Block), s.resetPin = false →
    ((s.lane j).tx.state = .running ∧ (s.lane j).tx.mode = .pass ∧ (s.lane j).tx.buf.length < 32 →
      exec (.ingressBlock .data j b) s =
        .next (s.putLane j { s.lane j with tx := { (s.lane j).tx with buf := (s.lane j).tx.buf ++ [b] } })) ∧
    ((s.lane j).tx.state ≠ .running ∨ (s.lane j).tx.mode ≠ .pass ∨ 32 ≤ (s.lane j).tx.buf.length →
      exec (.ingressBlock .data j b) s =
        .next (s.putLane j { s.lane j with tx := { (s.lane j).tx with
          drops := ⟨min ((s.lane j).tx.drops.n + 1) 4294967295,
            (s.lane j).tx.drops.sat || decide (4294967295 ≤ (s.lane j).tx.drops.n + 1)⟩ } }))

/-- INGRESS_BLOCK of type CONTROL (R165, R166): a header begins a record or completes it, a body block is appended until none
is due, a complete COMMAND record joins the queue or, finding 8 there, is dropped with its notice, a complete record of another
kind and a stray block change nothing but by their notices. -/
def Obligations.ControlBlocksMakeRecords : Prop :=
  ∀ (s : State) (tag : LaneNo) (b : Block), s.resetPin = false →
    (s.ingress = .idle → octetOf b 7 = 0xC3 → octetOf b 3 ≠ 0 →
      exec (.ingressBlock .control tag b) s = .next { s with ingress := .assembling b [] (octetOf b 3).toNat }) ∧
    (s.ingress = .idle → octetOf b 7 = 0xC3 → octetOf b 3 = 0 → octetOf b 0 = 1 → s.cmdQ.length < 8 →
      exec (.ingressBlock .control tag b) s =
        .next { s with cmdQ := s.cmdQ ++ [⟨.localPort, octetOf b 1, octetOf b 2, octetOf b 4, octetOf b 5, octetOf b 6, []⟩] }) ∧
    (s.ingress = .idle → octetOf b 7 = 0xC3 → octetOf b 3 = 0 → s.egress.length ≤ 11 →
      (octetOf b 0 = 1 → 8 ≤ s.cmdQ.length →
        exec (.ingressBlock .control tag b) s =
          .next { s with egress := s.egress ++ [noticeRec (.commandDropped (octetOf b 2) (octetOf b 1))] }) ∧
      (octetOf b 0 ≠ 1 →
        exec (.ingressBlock .control tag b) s =
          .next { s with egress := s.egress ++ [noticeRec (.protocolFault .kind (some (octetOf b 2)))] })) ∧
    (∀ (h : Block) (body : List Block), s.ingress = .assembling h body 1 → octetOf h 0 ≠ 1 → s.egress.length ≤ 11 →
      exec (.ingressBlock .control tag b) s =
        .next { s with
          ingress := .idle, egress := s.egress ++ [noticeRec (.protocolFault .kind (some (octetOf h 2)))] }) ∧
    (s.ingress = .idle → octetOf b 7 ≠ 0xC3 → s.egress.length ≤ 11 →
      exec (.ingressBlock .control tag b) s =
        .next { s with egress := s.egress ++ [noticeRec (.protocolFault .stray none)] }) ∧
    (∀ (h : Block) (body : List Block) (due : Nat), s.ingress = .assembling h body due → 1 < due →
      exec (.ingressBlock .control tag b) s = .next { s with ingress := .assembling h (body ++ [b]) (due - 1) }) ∧
    (∀ (h : Block) (body : List Block), s.ingress = .assembling h body 1 → octetOf h 0 = 1 →
      (s.cmdQ.length < 8 →
        exec (.ingressBlock .control tag b) s =
          .next { s with
            ingress := .idle
            cmdQ := s.cmdQ ++
              [⟨.localPort, octetOf h 1, octetOf h 2, octetOf h 4, octetOf h 5, octetOf h 6, body ++ [b]⟩] }) ∧
      (8 ≤ s.cmdQ.length → s.egress.length ≤ 11 →
        exec (.ingressBlock .control tag b) s =
          .next { s with
            ingress := .idle
            egress := s.egress ++ [noticeRec (.commandDropped (octetOf h 2) (octetOf h 1))] }))

/-- The checks of R167 in their order, for every command that names a lane and has no parameters: BAD_TARGET, UNCONFIGURED,
BAD_FIELD for a must-be-zero octet of the header (octets 5 and 6, log entry 11), BAD_LENGTH. SAVE_CONTEXT and SNAPSHOT_CONTEXT
are so judged before any wait, and of origin REMOTE they are refused BAD_LENGTH at once, whether or not the lane has a job
(R145); the refusal joins the outbound queue, or is lost with the peer-lost indication where that is full (R156, R160). STATUS
(R174) is answered OK in either part state and clears the two indications after copying them; UNKNOWN_COMMAND is answered
UNKNOWN_CODE. -/
def Obligations.CommandsJudgedInOrder : Prop :=
  (∀ p ∈ [(Instr.startTx, (0x08 : Octet)), (.stopTx, 0x09), (.startRx, 0x0B), (.stopRx, 0x0C), (.resync, 0x0D),
       (.restartLane, 0x0E), (.readLane, 0x0F), (.openWindow, 0x10), (.closeWindow, 0x11), (.readRun, 0x13),
       (.clearRun, 0x14), (.holdLane, 0x21), (.resumeLane, 0x22), (.stepFrame, 0x23), (.saveContext, 0x24),
       (.snapshotContext, 0x25)],
     ∀ (s : State) (rest : List CmdRec) (tag target z5 z6 : Octet) (body : List Block),
       s.takes ⟨.localPort, p.2, tag, target, z5, z6, body⟩ rest →
       (7 < target.toNat →
         exec p.1 s = .next (s.answered ⟨.localPort, p.2, tag, target, z5, z6, body⟩ rest .badTarget .empty)) ∧
       (target.toNat ≤ 7 → s.configured = false →
         exec p.1 s = .next (s.answered ⟨.localPort, p.2, tag, target, z5, z6, body⟩ rest .unconfigured .empty)) ∧
       (target.toNat ≤ 7 → s.configured = true → z5 ≠ 0 ∨ z6 ≠ 0 →
         exec p.1 s = .next (s.answered ⟨.localPort, p.2, tag, target, z5, z6, body⟩ rest .badField .empty)) ∧
       (target.toNat ≤ 7 → s.configured = true → z5 = 0 → z6 = 0 → body ≠ [] →
         exec p.1 s = .next (s.answered ⟨.localPort, p.2, tag, target, z5, z6, body⟩ rest .badLength .empty))) ∧
  (∀ p ∈ [(Instr.saveContext, (0x24 : Octet)), (.snapshotContext, 0x25)],
     ∀ (s : State) (rest : List CmdRec) (tag target : Octet) (body : List Block),
       s.takes ⟨.remote, p.2, tag, target, 0, 0, body⟩ rest → s.configured = true → target.toNat ≤ 7 →
       (s.link.outbound.length < 4 →
         exec p.1 s = .next (s.answeredRemotely ⟨.remote, p.2, tag, target, 0, 0, body⟩ rest .badLength)) ∧
       (4 ≤ s.link.outbound.length →
         exec p.1 s = .next { s with cmdQ := rest, link := { s.link with peerLost := true } })) ∧
  (∀ (s : State) (rest : List CmdRec) (code tag target : Octet) (body : List Block),
     (s.takes (localCmd 0x01 tag target []) rest →
       exec .status s =
         .next (State.answered { s with noticesLost := false, link := { s.link with peerLost := false } }
           (localCmd 0x01 tag target []) rest .ok (.status s.statusView))) ∧
     (s.takes (localCmd code tag target body) rest → (code.toNat = 0 ∨ 40 < code.toNat) →
       exec .unknownCommand s = .next (s.answered (localCmd code tag target body) rest .unknownCode .empty)))

/-! ### Transmit side -/

/-- TRANSMIT_SLOT: one slot on all eight lanes, its position and the frame sequence (R1, R2), nothing while RESET stays asserted
(R171); and the changes a transmitter makes at a transmit frame boundary (R3, R28 to R30): a start, a stop, a mode change, which
empties the pass buffer into the drops, and the load of the generator from the seed, or of the user phase with 0, wherever
PATTERN mode is entered (R20 to R22). A marker slot uses nothing of the transmitter. -/
def Obligations.TransmitSlotAdvances : Prop :=
  (∀ s : State,
     (s.resetPin = true → exec .transmitSlot s = .next { s with slotOut := none }) ∧
     (s.resetPin = false → ∃ (t : State) (v : Eight Block), exec .transmitSlot s = .next t ∧ t.slotOut = some v ∧
       t.slotPos = (if s.slotPos < 127 then s.slotPos + 1 else 0) ∧
       t.frameSeq = (if s.slotPos = 0 ∧ s.firstFrame = false then s.frameSeq + 1 else s.frameSeq) ∧
       t.firstFrame = (if s.slotPos = 0 then false else s.firstFrame) ∧
       ({ t with
          slotPos := s.slotPos, frameSeq := s.frameSeq, firstFrame := s.firstFrame, inj := s.inj, link := s.link,
          slotOut := s.slotOut } : State).fixed = s.fixed ∧
       t.capture = s.capture ∧ t.jobs = s.jobs ∧
       (∀ g, t.group g = s.group g) ∧
       (∀ l, (t.lane l).al = (s.lane l).al ∧ (t.lane l).ck = (s.lane l).ck ∧ (t.lane l).hist = (s.lane l).hist ∧
         (t.lane l).rxBuf = (s.lane l).rxBuf ∧ (t.lane l).remote = (s.lane l).remote))) ∧
  (∀ (s t : State) (l : LaneNo), s.resetPin = false → s.slotPos = 0 → exec .transmitSlot s = .next t →
     (t.lane l).tx.framing = (if s.rxFramed l then .framed else .raw) ∧
     (t.lane l).tx.mode = ((s.lane l).tx.pendMode.getD (s.lane l).tx.mode) ∧ (t.lane l).tx.pendMode = none ∧
     ((s.lane l).tx.pendStart = true →
       (t.lane l).tx.state = .running ∧ (t.lane l).tx.pendStart = false ∧ (t.lane l).tx.buf = []) ∧
     ((s.lane l).tx.pendStart = false → (s.lane l).tx.pendStop = true →
       (t.lane l).tx.state = .idle ∧ (t.lane l).tx.pendStop = false ∧ (t.lane l).tx.buf = [] ∧
       (t.lane l).tx.drops = (s.lane l).tx.drops.add (s.lane l).tx.buf.length) ∧
     ((s.lane l).tx.pendStart = false → (s.lane l).tx.pendStop = false → (t.lane l).tx.state = (s.lane l).tx.state)) ∧
  (∀ (s : State) (l : LaneNo) (m : TxMode) (fr : Framing) (st : Stages) (ph : Nat),
     m = (s.lane l).tx.pendMode.getD (s.lane l).tx.mode → fr = (if s.rxFramed l then .framed else .raw) →
     st = (if m = .pattern then BitVec.ofNat 31 (s.txPat l).seed else (s.lane l).tx.stages) →
     ph = (if m = .pattern then 0 else (s.lane l).tx.phase) →
     ((s.lane l).tx.pendStart = true →
       (s.frameStart.lane l).tx = { (s.lane l).tx with
         framing := fr, state := .running, mode := m, pendStart := false, pendMode := none, buf := [], stages := st,
         phase := ph }) ∧
     ((s.lane l).tx.pendStart = false → (s.lane l).tx.pendStop = true →
       (s.frameStart.lane l).tx = { (s.lane l).tx with
         framing := fr, state := .idle, mode := m, pendStop := false, pendMode := none, buf := []
         drops := (s.lane l).tx.drops.add (s.lane l).tx.buf.length }) ∧
     ((s.lane l).tx.pendStart = false → (s.lane l).tx.pendStop = false →
       ((s.lane l).tx.state = .running → m ≠ (s.lane l).tx.mode →
         (s.frameStart.lane l).tx = { (s.lane l).tx with
           framing := fr, mode := m, pendMode := none, buf := [], stages := st, phase := ph
           drops := (s.lane l).tx.drops.add (s.lane l).tx.buf.length }) ∧
       ((s.lane l).tx.state = .idle ∨ m = (s.lane l).tx.mode →
         (s.frameStart.lane l).tx = { (s.lane l).tx with framing := fr, mode := m, pendMode := none }))) ∧
  (∀ (s t : State) (l : LaneNo), s.resetPin = false → s.slotPos = 0 → s.rxFramed l = true →
     exec .transmitSlot s = .next t → (t.lane l).tx = (s.frameStart.lane l).tx)

/-- What a payload slot holds while no injection alters it (R4, R20, R22, R32): `u` is the state in which the slot's
sources stand, after the changes of a boundary in slot 0. -/
def Obligations.PayloadSlotHoldsSource : Prop :=
  ∀ (s t u : State) (v : Eight Block) (l : LaneNo),
    u = (if s.slotPos = 0 then s.frameStart else s) →
    s.resetPin = false → (∀ c, (u.inj.get c).state ≠ .active ∧ ∀ k, (u.inj.get c).deferred.get k = none) →
    (s.slotPos ≠ 0 ∨ s.rxFramed l = false) →
    exec .transmitSlot s = .next t → t.slotOut = some v →
    ((u.lane l).tx.state = .idle ∨ s.configured = false →
      v.get l = 0x5555555555555555 ∧ (t.lane l).tx = (u.lane l).tx) ∧
    ((u.lane l).tx.state = .running → s.configured = true → (u.lane l).tx.mode ≠ .pattern →
      ((u.lane l).tx.buf = [] → v.get l = 0x5555555555555555 ∧
        (t.lane l).tx = { (u.lane l).tx with underrun := (u.lane l).tx.underrun.add 1 }) ∧
      (∀ b bs, (u.lane l).tx.buf = b :: bs → v.get l = b ∧ (t.lane l).tx = { (u.lane l).tx with buf := bs })) ∧
    ((u.lane l).tx.state = .running → s.configured = true → (u.lane l).tx.mode = .pattern →
      ((s.txPat l).kind ≠ .user →
        v.get l = inverted (s.txPat l).invert (prbsBlock (s.txPat l).kind (u.lane l).tx.stages).1 ∧
        (t.lane l).tx = { (u.lane l).tx with stages := (prbsBlock (s.txPat l).kind (u.lane l).tx.stages).2 }) ∧
      ((s.txPat l).kind = .user →
        v.get l =
          inverted (s.txPat l).invert (patRead s.patMem ((s.txPat l).start + (u.lane l).tx.phase)).data ∧
        (t.lane l).tx = { (u.lane l).tx with
          phase := if (u.lane l).tx.phase + 1 < (s.txPat l).len then (u.lane l).tx.phase + 1 else 0 }))

/-- The marker of a FRAMED lane of a CONFIGURED part in slot 0 (R3, R5), while no injection alters it; and the channel fields of
the management lane's marker: zero while DOWN, the held octet with its toggle and the receiver's resume fields in HANDSHAKE mode
(R157, R158), each octet once in CONTINUOUS mode (R159). -/
def Obligations.MarkerSlotHoldsMarker : Prop :=
  ∀ (s t : State) (v : Eight Block) (l : LaneNo),
    s.resetPin = false → s.slotPos = 0 →
    (∀ c, (s.frameStart.inj.get c).state ≠ .active ∧ ∀ k, (s.frameStart.inj.get c).deferred.get k = none) →
    s.rxFramed l = true → exec .transmitSlot s = .next t → t.slotOut = some v →
    ∃ m, v.get l = buildMarker m ∧ m.id = (s.map l).txId ∧ m.lock = ((s.lane l).ck.state == .locked) ∧
      m.alarm = s.reportedAlarm l ∧ m.seq = t.frameSeq ∧
      (m.phase = if (t.lane l).tx.state = .running ∧ (t.lane l).tx.mode = .pattern ∧ (s.txPat l).kind = .user
        then (t.lane l).tx.phase else 0) ∧
      (s.isMgmt l = false ∨ s.link.up = false →
        m.word = false ∧ m.toggle = false ∧ m.octet = 0 ∧ m.recordEnd = false ∧ m.resume = false ∧
        m.resumeToggle = false) ∧
      (s.isMgmt l = true → s.link.up = true →
        (s.handshake = true → m.resume = s.link.resume ∧ m.resumeToggle = (s.link.resume && s.link.lastTaken)) ∧
        (s.handshake = false → m.resume = false ∧ m.resumeToggle = false) ∧
        (s.link.outbound = [] →
          m.word = false ∧ m.toggle = false ∧ m.octet = 0 ∧ m.recordEnd = false ∧ t.link = s.link) ∧
        (∀ r rest, s.link.outbound = r :: rest → s.link.sendIdx < r.octets.length →
          m.word = true ∧ r.octets[s.link.sendIdx]? = some m.octet ∧
          m.recordEnd = decide (s.link.sendIdx + 1 = r.octets.length) ∧
          (s.handshake = true → m.toggle = s.link.sendToggle ∧ t.link = s.link) ∧
          (s.handshake = false → m.toggle = false ∧
            (s.link.sendIdx + 1 < r.octets.length → t.link = { s.link with sendIdx := s.link.sendIdx + 1 }) ∧
            (s.link.sendIdx + 1 = r.octets.length → t.link = { s.link with outbound := rest, sendIdx := 0 }))))

/-- A built marker passes the three tests and reads back as its fields (R5, R7), and fails them once its check octet is
complemented (R113). -/
def Obligations.MarkersBuildAndRead : Prop :=
  (∀ m : Marker, m.phase < 4096 → goodMarker (buildMarker m) = true ∧ readMarker (buildMarker m) = m) ∧
  (∀ b : Block, goodMarker b = true → ∀ n p, goodMarker (b ^^^ (Injection.mask ⟨.marker, n, p⟩)) = false)

/-- R20: each bit of a block is the exclusive-or of stages k and t as they then stand, k and t by the kind: stage j holds the bit
produced j bits before, or the stage that stood j places lower in its stead. After a block the stages hold its last k bits
before inversion, and stages that are not all zero never become so (R20, R41). -/
def Obligations.PrbsStagesFollowBlock : Prop :=
  (∀ p ∈ [(PatKind.prbs7, 7, 6), (.prbs9, 9, 5), (.prbs15, 15, 14), (.prbs23, 23, 18), (.prbs31, 31, 28)],
     ∀ (st : Stages) (i : Nat), i < 64 → (prbsBlock p.1 st).1.getLsbD i =
       ((if i < p.2.1 then st.getLsbD (p.2.1 - 1 - i) else (prbsBlock p.1 st).1.getLsbD (i - p.2.1)) ^^
         (if i < p.2.2 then st.getLsbD (p.2.2 - 1 - i) else (prbsBlock p.1 st).1.getLsbD (i - p.2.2)))) ∧
  ∀ (kind : PatKind) (st : Stages), kind ≠ .user →
    (prbsBlock kind st).2 = seedStages (patOrder kind) (prbsBlock kind st).1 ∧
    (st ≠ 0 → st.toNat < 2 ^ patOrder kind → (prbsBlock kind st).2 ≠ 0 ∧ (prbsBlock kind st).2.toNat < 2 ^ patOrder kind)

/-- START_TX, STOP_TX and SET_TX_MODE of LOCAL origin (R28 to R30), with the entries of the remote action set that they
remove (R161, and `settleSup` for R162). -/
def Obligations.TransmitCommandsSetPending : Prop :=
  ∀ (s : State) (rest : List CmdRec) (tag : Octet) (l : LaneNo), s.configured = true →
    (s.takes (localCmd 0x08 tag (laneOctet l) []) rest →
      ((s.lane l).tx.state = .idle →
        exec .startTx s = .next (State.answered
          (s.putLane l { s.lane l with
            tx := { (s.lane l).tx with pendStart := true }
            remote := { (s.lane l).remote with txStarted := false } }).settleSup
          (localCmd 0x08 tag (laneOctet l) []) rest .ok .empty)) ∧
      ((s.lane l).tx.state = .running →
        exec .startTx s = .next (s.answered (localCmd 0x08 tag (laneOctet l) []) rest .busy .empty))) ∧
    (s.takes (localCmd 0x09 tag (laneOctet l) []) rest →
      exec .stopTx s = .next (State.answered
        (s.putLane l { s.lane l with
          tx := if (s.lane l).tx.state = .idle then { (s.lane l).tx with pendStart := false }
            else { (s.lane l).tx with pendStop := true }
          remote := { (s.lane l).remote with txStarted := false } }).settleSup
        (localCmd 0x09 tag (laneOctet l) []) rest .ok .empty)) ∧
    (∀ body : List Block, body ≠ [] → s.takes (localCmd 0x0A tag (laneOctet l) body) rest →
      (∀ m : TxMode, exec (.setTxMode (.params (some m))) s = .next (State.answered
        (s.putLane l { s.lane l with
          tx := { (s.lane l).tx with pendMode := some m }
          remote := { (s.lane l).remote with echoSet := none } }).settleSup
        (localCmd 0x0A tag (laneOctet l) body) rest .ok .empty)) ∧
      exec (.setTxMode (.params none)) s =
        .next (s.answered (localCmd 0x0A tag (laneOctet l) body) rest .badField .empty) ∧
      exec (.setTxMode .wrongLength) s =
        .next (s.answered (localCmd 0x0A tag (laneOctet l) body) rest .badLength .empty))

/-- What SET_TX_MODE ECHO, START_TX and START_RX of REMOTE origin add to the remote action set (R161), and the PEER_RESPONSE
each gives (R160). -/
def Obligations.RemoteCommandsRecorded : Prop :=
  ∀ (s : State) (rest : List CmdRec) (tag : Octet) (l : LaneNo), s.configured = true → s.link.outbound.length < 4 →
    (s.takes ⟨.remote, 0x08, tag, laneOctet l, 0, 0, []⟩ rest → (s.lane l).tx.state = .idle →
      exec .startTx s = .next (State.answeredRemotely
        (s.putLane l { s.lane l with
          tx := { (s.lane l).tx with pendStart := true }
          remote := { (s.lane l).remote with txStarted := true } }).settleSup
        ⟨.remote, 0x08, tag, laneOctet l, 0, 0, []⟩ rest .ok)) ∧
    (∀ body : List Block, body ≠ [] → s.takes ⟨.remote, 0x0A, tag, laneOctet l, 0, 0, body⟩ rest →
      exec (.setTxMode (.params (some .echo))) s = .next (State.answeredRemotely
        (s.putLane l { s.lane l with
          tx := { (s.lane l).tx with pendMode := some .echo }
          remote := { (s.lane l).remote with
            echoSet := some ((s.lane l).remote.echoSet.getD ((s.lane l).tx.pendMode.getD (s.lane l).tx.mode)) } }).settleSup
        ⟨.remote, 0x0A, tag, laneOctet l, 0, 0, body⟩ rest .ok)) ∧
    (s.takes ⟨.remote, 0x0B, tag, laneOctet l, 0, 0, []⟩ rest →
      s.rxMode l ≠ some .pass → s.ckOff l = true → (s.rxFramed l = true ∨ (s.rxPat l).kind ≠ .user) →
      ∃ t : State, exec .startRx s =
          .next (State.answeredRemotely t ⟨.remote, 0x0B, tag, laneOctet l, 0, 0, []⟩ rest .ok) ∧
        (t.lane l).remote = { (s.lane l).remote with rxStarted := true } ∧ (t.lane l).ck.state = .hunt ∧
        s.keeps { t with sup := s.sup } l)

/-! ### Injection -/

/-- ARM_CHANNEL (R112, R114): refused settings, a channel that is not IDLE or an asserted QUIET pin, or the channel WAITING with
its settings loaded; source CONTINUOUS makes it ACTIVE at once. And the settings it loads, with their clamps, and the values
it is refused for (the refusal of an interval above its range is the model's, log entry 27, and so is that of a period above its
range and of a source of no named kind, log entry 62). -/
def Obligations.ArmChannelLoads : Prop :=
  (∀ (s : State) (rest : List CmdRec) (tag : Octet) (c : ChanNo) (body : List Block) (a : ArmArg), s.configured = true →
     body ≠ [] → s.takes (localCmd 0x18 tag (fourOctet c) body) rest →
     (ArmArg.settings a = none →
       exec (.armChannel (.params a)) s =
         .next (s.answered (localCmd 0x18 tag (fourOctet c) body) rest .badField .empty)) ∧
     (∀ p, ArmArg.settings a = some p →
       ((s.inj.get c).state ≠ .idle ∨ s.quietPin = true →
         exec (.armChannel (.params a)) s =
           .next (s.answered (localCmd 0x18 tag (fourOctet c) body) rest .busy .empty)) ∧
       ((s.inj.get c).state = .idle → s.quietPin = false →
         exec (.armChannel (.params a)) s = .next (State.answered
           (s.putInj c
             { state := if p.source = .continuous then .active else .waiting, settings := some p, remaining := p.count,
               actCount := 0, rateLeft := p.rateK, entry := p.schedFirst, gap := (s.schedAt p.schedFirst).gap,
               blocks := (s.schedAt p.schedFirst).blocks, runOver := false, resume := .waiting,
               deferred := Eight.all none })
           (localCmd 0x18 tag (fourOctet c) body) rest .ok .empty)))) ∧
  (∀ (a : ArmArg) (p : InjSettings),
     ArmArg.settings a = some p ↔
       a.mode = some p.mode ∧ a.kind = some p.kind ∧ a.source = some p.source ∧ a.notify = some p.notify ∧
       a.targets = p.targets ∧ a.pos = p.pos ∧ a.count = p.count ∧ a.schedFirst = p.schedFirst ∧
       a.schedLast = p.schedLast ∧ p.bits = max a.bits 1 ∧ p.rateK = max a.rateK 1 ∧
       (∃ l, a.targets.get l = true) ∧ a.bits ≤ 64 ∧ a.pos ≤ 63 ∧ a.count ≤ 16777215 ∧ a.rateK ≤ 16777215 ∧
       a.schedFirst ≤ a.schedLast ∧ a.schedLast ≤ 63 ∧
       (∀ n, p.source = .ticks n → 1 ≤ n ∧ n ≤ 65535) ∧ (∀ n, p.source = .frames n → 1 ≤ n ∧ n ≤ 65535))

/-- SUSPEND_CHANNEL, QUIET_ALL (R124) and RUN_CHANNEL (R125). -/
def Obligations.SuspendedChannelsResume : Prop :=
  ∀ (s : State) (rest : List CmdRec) (tag target : Octet) (c : ChanNo), s.configured = true →
    (s.takes (localCmd 0x1A tag (fourOctet c) []) rest →
      ((s.inj.get c).state = .waiting ∨ (s.inj.get c).state = .active →
        exec .suspendChannel s = .next (State.answered
          (s.putInj c { s.inj.get c with
            state := .suspended
            resume := if (s.inj.get c).state = .active then .active else .waiting
            deferred := Eight.all none })
          (localCmd 0x1A tag (fourOctet c) []) rest .ok .empty)) ∧
      ((s.inj.get c).state = .idle ∨ (s.inj.get c).state = .suspended →
        exec .suspendChannel s = .next (s.answered (localCmd 0x1A tag (fourOctet c) []) rest .ok .empty))) ∧
    (s.takes (localCmd 0x1D tag target []) rest →
      ∃ inj, exec .quietAll s =
          .next (State.answered { s with inj := inj } (localCmd 0x1D tag target []) rest .ok .empty) ∧
        ∀ d,
          ((s.inj.get d).state = .waiting →
            inj.get d = { s.inj.get d with state := .suspended, resume := .waiting, deferred := Eight.all none }) ∧
          ((s.inj.get d).state = .active →
            inj.get d = { s.inj.get d with state := .suspended, resume := .active, deferred := Eight.all none }) ∧
          ((s.inj.get d).state = .idle ∨ (s.inj.get d).state = .suspended → inj.get d = s.inj.get d)) ∧
    (s.takes (localCmd 0x1B tag (fourOctet c) []) rest →
      (s.quietPin = true →
        exec .runChannel s = .next (s.answered (localCmd 0x1B tag (fourOctet c) []) rest .busy .empty)) ∧
      (s.quietPin = false → (s.inj.get c).state = .suspended →
        exec .runChannel s = .next (State.answered
          (s.putInj c { s.inj.get c with
            state := if (s.inj.get c).resume = .active ∨
                (s.inj.get c).settings.map InjSettings.source = some .continuous then .active
              else .waiting })
          (localCmd 0x1B tag (fourOctet c) []) rest .ok .empty)) ∧
      (s.quietPin = false → (s.inj.get c).state ≠ .suspended →
        exec .runChannel s = .next (s.answered (localCmd 0x1B tag (fourOctet c) []) rest .ok .empty)))

/-- FIRE (R115) and DISARM_CHANNEL (R126, R127). That a disarm clears the run-over flag too is the model's choice (log
entry 55). -/
def Obligations.FireAndDisarm : Prop :=
  ∀ (s : State) (rest : List CmdRec) (tag : Octet) (c : ChanNo), s.configured = true →
    (s.takes (localCmd 0x1C tag (fourOctet c) []) rest →
      ((s.inj.get c).state = .waiting → (s.inj.get c).settings.map InjSettings.source = some .command →
        exec .fire s = .next (State.answered (s.putInj c { s.inj.get c with state := .active })
          (localCmd 0x1C tag (fourOctet c) []) rest .ok .empty)) ∧
      ((s.inj.get c).state = .active ∨ (s.inj.get c).state = .suspended →
        (s.inj.get c).settings.map InjSettings.source = some .command →
        exec .fire s = .next (s.answered (localCmd 0x1C tag (fourOctet c) []) rest .busy .empty)) ∧
      ((s.inj.get c).state = .idle ∨ (s.inj.get c).settings.map InjSettings.source ≠ some .command →
        exec .fire s = .next (s.answered (localCmd 0x1C tag (fourOctet c) []) rest .badTarget .empty))) ∧
    (s.takes (localCmd 0x1C tag 4 []) rest →
      ∃ inj, exec .fire s = .next (State.answered { s with inj := inj } (localCmd 0x1C tag 4 []) rest .ok .empty) ∧
        ∀ d, inj.get d =
          if (s.inj.get d).state = .waiting ∧ (s.inj.get d).settings.map InjSettings.source = some .command then
            { s.inj.get d with state := .active }
          else s.inj.get d) ∧
    (s.takes (localCmd 0x19 tag (fourOctet c) []) rest →
      ((s.inj.get c).state = .idle →
        exec .disarmChannel s = .next (s.answered (localCmd 0x19 tag (fourOctet c) []) rest .ok .empty)) ∧
      (∀ p, (s.inj.get c).state ≠ .idle → (s.inj.get c).settings = some p →
        (p.notify = false →
          exec .disarmChannel s = .next (State.answered
            (s.putInj c { s.inj.get c with state := .idle, runOver := false, deferred := Eight.all none })
            (localCmd 0x19 tag (fourOctet c) []) rest .ok .empty)) ∧
        (p.notify = true → s.egress.length ≤ 11 →
          exec .disarmChannel s = .next (State.answered
            { s.putInj c { s.inj.get c with state := .idle, runOver := false, deferred := Eight.all none } with
              egress := s.egress ++
                [noticeRec (.injectionEnd c .aborted (if p.count = 0 then 0 else (s.inj.get c).remaining) s.tick)] }
            (localCmd 0x19 tag (fourOctet c) []) rest .ok .empty))))

/-- The expiries of a channel, each the count's last advance alone (log entry 6): the activation counts (R114), the RATE
countdown (R117) and the schedule gap (R118). An injection that falls due waits as a deferred one (log entry 7). -/
def Obligations.ChannelExpiriesAct : Prop :=
  (∀ (s : State) (c : ChanNo) (n : Nat), (s.inj.get c).state ≠ .idle →
     ((s.inj.get c).settings.map InjSettings.source = some (.ticks n) →
       (n ≤ (s.inj.get c).actCount + 1 →
         exec (.ticksActivationExpiry c) s = .next (s.putInj c { s.inj.get c with
           actCount := 0
           state := if (s.inj.get c).state = .waiting then .active else (s.inj.get c).state })) ∧
       ((s.inj.get c).actCount + 1 < n → exec (.ticksActivationExpiry c) s = .next s)) ∧
     ((s.inj.get c).settings.map InjSettings.source = some (.frames n) →
       (n ≤ (s.inj.get c).actCount + 1 →
         exec (.framesActivationExpiry c) s = .next (s.putInj c { s.inj.get c with
           actCount := 0
           state := if (s.inj.get c).state = .waiting then .active else (s.inj.get c).state })) ∧
       ((s.inj.get c).actCount + 1 < n → exec (.framesActivationExpiry c) s = .next s))) ∧
  (∀ (s : State) (c : ChanNo) (p : InjSettings), (s.inj.get c).settings = some p →
     ((s.inj.get c).state = .active → (s.inj.get c).runOver = false → p.mode = .rate → (s.inj.get c).rateLeft ≤ 1 →
       exec (.rateCountdownExpiry c) s = .next (s.putInj c { s.inj.get c with
         rateLeft := p.rateK
         remaining := if p.count = 0 then (s.inj.get c).remaining else (s.inj.get c).remaining - 1
         runOver := decide (p.count ≠ 0 ∧ (s.inj.get c).remaining ≤ 1)
         deferred := Eight.gen (fun l =>
           ((s.inj.get c).deferred.get l).or (if p.targets.get l then some ⟨p.kind, p.bits, p.pos⟩ else none)) })) ∧
     ((s.inj.get c).state ≠ .active ∨ (s.inj.get c).runOver = true ∨ p.mode ≠ .rate ∨ 1 < (s.inj.get c).rateLeft →
       exec (.rateCountdownExpiry c) s = .next s)) ∧
  (∀ (s : State) (c : ChanNo) (p : InjSettings), (s.inj.get c).settings = some p →
     ((s.inj.get c).state = .active → (s.inj.get c).runOver = false → p.mode = .schedule → (s.inj.get c).gap = 0 →
       ∃ ch, exec (.scheduleGapExpiry c) s = .next (s.putInj c ch) ∧
         ch.state = .active ∧ ch.settings = some p ∧ ch.actCount = (s.inj.get c).actCount ∧
         (∀ l, ch.deferred.get l = ((s.inj.get c).deferred.get l).or
           (if p.targets.get l then
             some ⟨p.kind, (s.schedAt (s.inj.get c).entry).bits, (s.schedAt (s.inj.get c).entry).pos⟩ else none)) ∧
         ((s.inj.get c).blocks ≠ 1 → 1 ≤ (s.inj.get c).blocks →
           ch.blocks = (s.inj.get c).blocks - 1 ∧ ch.entry = (s.inj.get c).entry ∧ ch.gap = 0 ∧ ch.runOver = false ∧
           ch.remaining = (s.inj.get c).remaining) ∧
         ((s.inj.get c).blocks = 1 → (s.inj.get c).entry < p.schedLast →
           ch.entry = (s.inj.get c).entry + 1 ∧ ch.gap = (s.schedAt ((s.inj.get c).entry + 1)).gap ∧
           ch.blocks = (s.schedAt ((s.inj.get c).entry + 1)).blocks ∧ ch.runOver = false ∧
           ch.remaining = (s.inj.get c).remaining) ∧
         ((s.inj.get c).blocks = 1 → p.schedLast ≤ (s.inj.get c).entry →
           ch.remaining = (if p.count = 0 then (s.inj.get c).remaining else (s.inj.get c).remaining - 1) ∧
           (ch.runOver = false ↔ (p.count = 0 ∨ 1 < (s.inj.get c).remaining) ∧ p.source = .continuous) ∧
           (ch.runOver = false → ch.entry = p.schedFirst ∧ ch.gap = (s.schedAt p.schedFirst).gap ∧
             ch.blocks = (s.schedAt p.schedFirst).blocks))) ∧
     ((s.inj.get c).state ≠ .active ∨ (s.inj.get c).runOver = true ∨ p.mode ≠ .schedule ∨ (s.inj.get c).gap ≠ 0 →
       exec (.scheduleGapExpiry c) s = .next s))

/-- R122: of the candidates for a lane's slot the first, in order of channel number, that R121 lets be applied alters the block by
its mask (R113), is reported to the lane's run totals and open window (R94), and waits no longer; without such a candidate block
and lanes are unchanged. A candidate that R121 discards is gone, every other one waits. A mask is the bits it is reported to
change. And the block a lane sends while a SINGLE channel's injection falls due on it (R116). The slot as each mode counts it
(R116, R117, R118): the injection that falls due, countdown, gap, blocks and entry, and the end of a run. The settling after a slot
(R120): to WAITING, with a further activation if CONTINUOUS, or to IDLE with INJECTION_END COMPLETE (R127); that a walk's progress
returns to its start at IDLE too is log entry 41. And both in TRANSMIT_SLOT, for a PAYLOAD channel of any mode in a payload slot
that no lower channel claims: its injection is applied on every RUNNING target lane, and the channel settles if its run ends. -/
def Obligations.OneInjectionPerBlock : Prop :=
  (∀ (s : State) (l : LaneNo) (markerSlot : Bool) (dues : Four (Option Injection)) (b : Block),
     (∀ c i, (s.inj.get c).candidate (dues.get c) l = some i → slotFate (s.lane l).tx markerSlot false i = .applied →
       (∀ d, d < c → ∀ j, (s.inj.get d).candidate (dues.get d) l = some j →
         slotFate (s.lane l).tx markerSlot false j ≠ .applied) →
       (arbitrate s l markerSlot dues b).1 = b ^^^ i.mask ∧
       ((arbitrate s l markerSlot dues b).2.inj.get c).deferred.get l = none ∧
       (arbitrate s l markerSlot dues b).2.lanes = (s.putLane l { s.lane l with
         run := { (s.lane l).run with counts := (s.lane l).run.counts.addInjected i.changed }
         win := if (s.lane l).win.isOpen
           then { (s.lane l).win with counts := (s.lane l).win.counts.addInjected i.changed }
           else (s.lane l).win }).lanes) ∧
     ((∀ c i, (s.inj.get c).candidate (dues.get c) l = some i →
         slotFate (s.lane l).tx markerSlot false i ≠ .applied) →
       (arbitrate s l markerSlot dues b).1 = b ∧ (arbitrate s l markerSlot dues b).2.lanes = s.lanes) ∧
     (∀ c, ((s.inj.get c).candidate (dues.get c) l = none →
         (arbitrate s l markerSlot dues b).2.inj.get c = s.inj.get c) ∧
       (∀ i, (s.inj.get c).candidate (dues.get c) l = some i →
         (slotFate (s.lane l).tx markerSlot false i = .discarded →
           (arbitrate s l markerSlot dues b).2.inj.get c = (s.inj.get c).setDeferred l none) ∧
         (slotFate (s.lane l).tx markerSlot false i = .deferred ∨
             (slotFate (s.lane l).tx markerSlot false i = .applied ∧
               ∃ d, d < c ∧ ∃ j, (s.inj.get d).candidate (dues.get d) l = some j ∧
                 slotFate (s.lane l).tx markerSlot false j = .applied) →
           (arbitrate s l markerSlot dues b).2.inj.get c = (s.inj.get c).setDeferred l (some i))))) ∧
  (∀ (t : Tx) (markerSlot taken : Bool) (i : Injection),
     (slotFate t markerSlot taken i = .discarded ↔ t.state = .idle ∨ (i.kind = .marker ∧ t.framing = .raw)) ∧
     (slotFate t markerSlot taken i = .applied ↔ t.state = .running ∧ taken = false ∧
       ((i.kind = .marker ∧ markerSlot = true ∧ t.framing = .framed) ∨ (i.kind = .payload ∧ markerSlot = false)))) ∧
  (∀ (s t : State) (v : Eight Block) (l : LaneNo) (c : ChanNo) (p : InjSettings),
     s.resetPin = false → s.configured = true → s.slotPos ≠ 0 → (s.lane l).tx.state = .running →
     (s.inj.get c).state = .active → (s.inj.get c).settings = some p → (s.inj.get c).runOver = false →
     p.mode = .single → p.kind = .payload → p.targets.get l = true → (s.inj.get c).deferred.get l = none →
     (∀ d, d < c → (s.inj.get d).state ≠ .active ∧ (s.inj.get d).deferred.get l = none) →
     exec .transmitSlot s = .next t → t.slotOut = some v →
     v.get l = (s.sourceBlock l).1 ^^^ Injection.mask ⟨.payload, p.bits, p.pos⟩ ∧
     (t.lane l).run.counts = (s.lane l).run.counts.addInjected (min p.bits (64 - p.pos))) ∧
  (∀ i : Injection, i.pos ≤ 63 →
     (∀ k, k < 64 → (i.mask.getLsbD k = true ↔
       (i.kind = .marker ∧ 56 ≤ k) ∨ (i.kind = .payload ∧ i.pos ≤ k ∧ k < i.pos + i.bits))) ∧
     countBits i.mask 64 = i.changed) ∧
  (∀ (ch : InjChan) (p : InjSettings) (sched : Nat → SchedEntry), ch.settings = some p →
     (ch.state ≠ .active ∨ ch.runOver = true → ch.slot sched = (none, ch)) ∧
     (ch.state = .active → ch.runOver = false →
       (p.mode = .single → ch.slot sched = (some ⟨p.kind, p.bits, p.pos⟩, { ch with runOver := true })) ∧
       (p.mode = .rate →
         (1 < ch.rateLeft → ch.slot sched = (none, { ch with rateLeft := ch.rateLeft - 1 })) ∧
         (ch.rateLeft ≤ 1 → ch.slot sched = (some ⟨p.kind, p.bits, p.pos⟩, { ch with
           rateLeft := p.rateK, remaining := if p.count = 0 then ch.remaining else ch.remaining - 1
           runOver := decide (p.count ≠ 0 ∧ ch.remaining ≤ 1) }))) ∧
       (p.mode = .schedule →
         (ch.gap ≠ 0 → ch.slot sched = (none, { ch with gap := ch.gap - 1 })) ∧
         (ch.gap = 0 → (ch.slot sched).1 = some ⟨p.kind, (sched ch.entry).bits, (sched ch.entry).pos⟩) ∧
         (ch.gap = 0 → 1 < ch.blocks → (ch.slot sched).2 = { ch with blocks := ch.blocks - 1 }) ∧
         (ch.gap = 0 → ch.blocks = 1 → ch.entry < p.schedLast → (ch.slot sched).2 = { ch with
           entry := ch.entry + 1, gap := (sched (ch.entry + 1)).gap, blocks := (sched (ch.entry + 1)).blocks }) ∧
         (ch.gap = 0 → ch.blocks = 1 → p.schedLast ≤ ch.entry →
           ((p.count = 0 ∨ 1 < ch.remaining) → p.source = .continuous → (ch.slot sched).2 = { ch with
             remaining := if p.count = 0 then ch.remaining else ch.remaining - 1
             entry := p.schedFirst, gap := (sched p.schedFirst).gap, blocks := (sched p.schedFirst).blocks }) ∧
           ((p.count ≠ 0 ∧ ch.remaining ≤ 1) ∨ p.source ≠ .continuous → (ch.slot sched).2 = { ch with
             remaining := if p.count = 0 then ch.remaining else ch.remaining - 1, blocks := 0, runOver := true }))))) ∧
  (∀ (s : State) (c : ChanNo) (ch : InjChan) (p : InjSettings) (rem : Nat) (done : InjChan), s.inj.get c = ch →
     ch.settings = some p → rem = (if p.mode = .single ∧ p.count ≠ 0 then ch.remaining - 1 else ch.remaining) →
     done = { ch with
       runOver := false, remaining := rem
       entry := if p.mode = .schedule then p.schedFirst else ch.entry
       gap := if p.mode = .schedule then (s.schedAt p.schedFirst).gap else ch.gap
       blocks := if p.mode = .schedule then (s.schedAt p.schedFirst).blocks else ch.blocks } →
     (ch.state ≠ .active ∨ ch.runOver = false ∨ (∃ l, ch.deferred.get l ≠ none) → s.settleChan c = s) ∧
     (ch.state = .active → ch.runOver = true → (∀ l, ch.deferred.get l = none) →
       (p.mode ≠ .rate → p.count = 0 ∨ rem ≠ 0 →
         s.settleChan c = s.putInj c { done with
           state := if p.source = .continuous then .active else .waiting }) ∧
       (p.mode = .rate ∨ (p.count ≠ 0 ∧ rem = 0) →
         (p.notify = false → s.settleChan c = s.putInj c { done with state := .idle }) ∧
         (p.notify = true → s.egress.length ≤ 11 → s.settleChan c = { s.putInj c { done with state := .idle } with
           egress := s.egress ++ [noticeRec (.injectionEnd c .complete 0 s.tick)] })))) ∧
  (∀ (s : State) (c : ChanNo) (ch : InjChan) (p : InjSettings), s.inj.get c = ch → ch.settings = some p →
     s.resetPin = false → s.slotPos ≠ 0 → ch.state = .active → p.kind = .payload →
     (∀ d, d ≤ c → ∀ k, (s.inj.get d).deferred.get k = none) → (∀ d, d < c → (s.inj.get d).state ≠ .active) →
     ∃ (t : State) (v : Eight Block), exec .transmitSlot s = .next t ∧ t.slotOut = some v ∧
       t.inj.get c = ((s.putInj c (ch.slot s.schedAt).2).settleChan c).inj.get c ∧
       (∀ (l : LaneNo) (i : Injection), (ch.slot s.schedAt).1 = some i → p.targets.get l = true →
         (s.lane l).tx.state = .running →
         v.get l = (s.sourceBlock l).1 ^^^ i.mask ∧
         (t.lane l).run.counts = (s.lane l).run.counts.addInjected i.changed))

/-! ### Receive side -/

/-- RECEIVE_BLOCK: the marker aligner of the lane after every block (R8, R10 to R13, R17; that its position is 0 in SEEK is the
model's choice, log entry 40), and the identity check of a good marker at an expected position (R61, R62). A checker that waits
for a phase takes it from a good marker (R42). A marker loss (R48) is a sync loss of a LOCKED checker, with its counts, entries
(the sequence of the marker error's entry by log entry 14) and notice, which stands before those of the marker channel (log entry
57); it sends a checker in HUNT or CONFIRM to WAIT_ALIGN (R40) and leaves one in LOST or OFF. -/
def Obligations.AlignerFollowsMarkers : Prop :=
  (∀ (s : State) (l : LaneNo) (b : Block), ∃ t : State, exec (.receiveBlock l b) s = .next t ∧
     ({ t with laneMap := s.laneMap, link := s.link, sup := s.sup, cmdQ := s.cmdQ } : State).fixed = s.fixed ∧
     (∀ m, m ≠ l → (t.lane m).al = (s.lane m).al ∧ (t.lane m).tx = (s.lane m).tx ∧ (t.lane m).ck = (s.lane m).ck ∧
       (t.lane m).run = (s.lane m).run ∧ (t.lane m).rxBuf = (s.lane m).rxBuf) ∧
     (s.rxFramed l = false → (t.lane l).al = (s.lane l).al) ∧
     (s.rxFramed l = true →
       ((s.lane l).al.state = .seek →
         (t.lane l).al = if goodMarker b then
             { (s.lane l).al with state := .trial, trial := 1, pos := 0, seq := (readMarker b).seq }
           else (s.lane l).al) ∧
       ((s.lane l).al.state = .trial →
         ((s.lane l).al.pos < 127 → (t.lane l).al = { (s.lane l).al with pos := (s.lane l).al.pos + 1 }) ∧
         (127 ≤ (s.lane l).al.pos → goodMarker b = false →
           (t.lane l).al = { (s.lane l).al with state := .seek, pos := 0, trial := 0 }) ∧
         (127 ≤ (s.lane l).al.pos → goodMarker b = true → (s.lane l).al.trial < 2 →
           (t.lane l).al = { (s.lane l).al with trial := 2, pos := 0, seq := (readMarker b).seq }) ∧
         (127 ≤ (s.lane l).al.pos → goodMarker b = true → 2 ≤ (s.lane l).al.trial →
           (t.lane l).al =
             { state := .aligned, pos := 0, trial := 0, miss := 0, seq := (readMarker b).seq, errs := (s.lane l).al.errs,
               far := .known (readMarker b).lock (readMarker b).alarm })) ∧
       ((s.lane l).al.state = .aligned →
         ((s.lane l).al.pos < 127 → (t.lane l).al = { (s.lane l).al with pos := (s.lane l).al.pos + 1 }) ∧
         (127 ≤ (s.lane l).al.pos → goodMarker b = true →
           (t.lane l).al =
             { (s.lane l).al with
               pos := 0, miss := 0, seq := (readMarker b).seq
               errs := if (readMarker b).seq = (s.lane l).al.seq + 1 then (s.lane l).al.errs
                 else (s.lane l).al.errs.add 1
               far := .known (readMarker b).lock (readMarker b).alarm }) ∧
         (127 ≤ (s.lane l).al.pos → goodMarker b = false →
           ((s.lane l).al.miss < 3 →
             (t.lane l).al =
               { (s.lane l).al with
                 pos := 0, miss := (s.lane l).al.miss + 1, seq := (s.lane l).al.seq + 1
                 errs := (s.lane l).al.errs.add 1 }) ∧
           (3 ≤ (s.lane l).al.miss →
             (t.lane l).al =
               { (s.lane l).al with
                 state := .seek, pos := 0, trial := 0, miss := 0, errs := (s.lane l).al.errs.add 1 }))))) ∧
  (∀ (s : State) (l : LaneNo) (b : Block), s.rxFramed l = true → (s.lane l).al.state = .aligned →
     127 ≤ (s.lane l).al.pos → goodMarker b = true →
     ∃ t : State, exec (.receiveBlock l b) s = .next t ∧
       ((readMarker b).id = (s.map l).rxId → t.laneMap = s.laneMap ∧ (t.lane l).idm = none) ∧
       ((readMarker b).id ≠ (s.map l).rxId → (s.map l).follow = false →
         t.laneMap = s.laneMap ∧ (t.lane l).idm = some ⟨.mismatch, (readMarker b).id⟩) ∧
       ((readMarker b).id ≠ (s.map l).rxId → (s.map l).follow = true → s.heldByOther l (readMarker b).id = true →
         t.laneMap = s.laneMap ∧ (t.lane l).idm = some ⟨.duplicate, (readMarker b).id⟩) ∧
       ((readMarker b).id ≠ (s.map l).rxId → (s.map l).follow = true → s.heldByOther l (readMarker b).id = false →
         t.laneMap = s.laneMap.set l (some { s.map l with rxId := (readMarker b).id }) ∧ (t.lane l).idm = none ∧
         ((s.lane l).ck.state = .off → (t.lane l).ck.state = .off) ∧
         ((s.lane l).ck.state ≠ .off → (t.lane l).ck.state = .hunt ∨ (t.lane l).ck.state = .confirm))) ∧
  (∀ (s : State) (l : LaneNo) (b : Block), s.takesMarker l b = true → (readMarker b).id = (s.map l).rxId →
     s.counting l = true → (s.rxPat l).kind = .user → (s.lane l).ck.state = .hunt →
     ((s.lane l).al.state = .aligned → (s.lane l).ck.reason = .waitPhase) →
     ∃ t : State, exec (.receiveBlock l b) s = .next t ∧
       ((readMarker b).phase < (s.rxPat l).len →
         (t.lane l).ck.state = .confirm ∧ (t.lane l).ck.confirmRun = 0 ∧ (t.lane l).ck.phase = (readMarker b).phase) ∧
       ((s.rxPat l).len ≤ (readMarker b).phase →
         (t.lane l).ck.state = .hunt ∧ (t.lane l).ck.reason = .waitPhase)) ∧
  (∀ (s : State) (l : LaneNo) (b : Block), s.losesMarkers l b = true → s.counting l = true →
     ∃ t : State, exec (.receiveBlock l b) s = .next t ∧
       ((s.lane l).ck.state = .locked →
         (t.lane l).ck.state = .lost ∧ (t.lane l).ck.lastLoss = .marker ∧ (t.lane l).ck.run = [] ∧
         ((s.lane l).ck.run = [] →
           (t.lane l).run.counts = (s.lane l).run.counts.addMarkerError.addSyncLoss ∧
           ((s.lane l).win.isOpen = true →
             (t.lane l).win.counts = (s.lane l).win.counts.addMarkerError.addSyncLoss)) ∧
         ((s.lane l).ck.run ≠ [] →
           (t.lane l).run.counts =
             ((s.lane l).run.counts.addMarkerError.addUnsynced (heavyCount (s.lane l).ck.run)).addSyncLoss ∧
           ((s.lane l).win.isOpen = true → (t.lane l).win.counts =
             ((s.lane l).win.counts.addMarkerError.addUnsynced (heavyCount (s.lane l).ck.run)).addSyncLoss)) ∧
         ((s.lane l).armed = false → (s.desc l).policy = .events ∨ (s.desc l).policy = .all →
           s.capture.length + (s.lane l).ck.run.length ≤ 254 →
           t.capture = s.capture ++ heldEntries (s.lane l).ck.run ++
             [⟨l, .markerError, some ((s.lane l).al.seq + 1), 0, none, s.tick⟩,
              ⟨l, .syncLoss, some (s.lane l).al.seq, 0, none, s.tick⟩]) ∧
         ((s.lane l).armed = false → s.memberOf l = none → s.egress.length ≤ 11 →
           ∃ more, t.egress = s.egress ++ noticeRec (.syncChange l .lost .lossMarker s.tick) :: more)) ∧
       ((s.lane l).ck.state = .hunt ∨ (s.lane l).ck.state = .confirm →
         (t.lane l).ck.state = .hunt ∧ (t.lane l).ck.reason = .waitAlign ∧ (t.lane l).ck.confirmRun = 0 ∧
         (t.lane l).run.counts = (s.lane l).run.counts.addMarkerError) ∧
       ((s.lane l).ck.state = .lost →
         (t.lane l).ck.state = .lost ∧ (t.lane l).run.counts = (s.lane l).run.counts.addMarkerError) ∧
       ((s.lane l).ck.state = .off → (t.lane l).ck = (s.lane l).ck ∧ (t.lane l).run.counts = (s.lane l).run.counts))

/-- A payload block goes to the receive pass buffer in PASS and MONITOR modes (R36, R169) and to the echo path (R33),
whatever the checker and the hold state. -/
def Obligations.PayloadReachesBuffers : Prop :=
  ∀ (s : State) (l : LaneNo) (b : Block), s.isPayload l b = true → ∃ t : State, exec (.receiveBlock l b) s = .next t ∧
    (s.rxMode l = some .pass ∨ s.rxMode l = some .monitor →
      ((s.lane l).rxBuf.length < 32 →
        (t.lane l).rxBuf = (s.lane l).rxBuf ++ [b] ∧ (t.lane l).rxDrops = (s.lane l).rxDrops) ∧
      (32 ≤ (s.lane l).rxBuf.length →
        (t.lane l).rxBuf = (s.lane l).rxBuf ∧ (t.lane l).rxDrops = (s.lane l).rxDrops.add 1)) ∧
    (s.rxMode l ≠ some .pass → s.rxMode l ≠ some .monitor →
      (t.lane l).rxBuf = (s.lane l).rxBuf ∧ (t.lane l).rxDrops = (s.lane l).rxDrops) ∧
    ((s.lane l).tx.state = .running → (s.lane l).tx.mode = .echo →
      ((s.lane l).tx.buf.length < 32 → (t.lane l).tx = { (s.lane l).tx with buf := (s.lane l).tx.buf ++ [b] }) ∧
      (32 ≤ (s.lane l).tx.buf.length → (t.lane l).tx = { (s.lane l).tx with drops := (s.lane l).tx.drops.add 1 })) ∧
    ((s.lane l).tx.state ≠ .running ∨ (s.lane l).tx.mode ≠ .echo → (t.lane l).tx = (s.lane l).tx)

/-- A LOCKED lane that counts (R43, R45 to R48, R51): a light block with an empty pending heavy run is counted; after a pending
run it releases the run, every heavy block of it counted in order and then itself, in run totals and open window, with the
capture entries in list order; a heavy block joins the run uncounted, or completes the loss run, and the whole run becomes
unsynced blocks of one sync loss, with the held entries, the SYNC_LOSS entry and the notice. A counted block adds its bits and
errors, and an errored frame if it has errors and its frame is not yet errored in that count: `tag` numbers the frames of a
count (log entry 21) and rises at each received frame boundary, on a RAW lane at each pseudo-frame of 128 blocks; a released block
keeps the tag of its arrival, also where a window was opened or the run totals were cleared since (log entry 67). -/
def Obligations.LockedBlocksJudged : Prop :=
  (∀ (s : State) (l : LaneNo),
     ((s.rxPat l).kind ≠ .user →
       (s.expected l).1 = inverted (s.rxPat l).invert (prbsBlock (s.rxPat l).kind (s.lane l).ck.stages).1 ∧
       (s.expected l).2 = s.putLane l { s.lane l with
         ck := { (s.lane l).ck with stages := (prbsBlock (s.rxPat l).kind (s.lane l).ck.stages).2 } }) ∧
     ((s.rxPat l).kind = .user →
       (s.expected l).1 =
         inverted (s.rxPat l).invert (patRead s.patMem ((s.rxPat l).start + (s.lane l).ck.phase)).data ∧
       ((s.expected l).2.lane l).ck = { (s.lane l).ck with
         phase := if (s.lane l).ck.phase + 1 < (s.rxPat l).len then (s.lane l).ck.phase + 1 else 0 } ∧
       ((s.expected l).2.lane l).win.banks =
         (s.lane l).win.banks.set (bankOf ((s.rxPat l).start + (s.lane l).ck.phase)) true ∧
       ((patRead s.patMem ((s.rxPat l).start + (s.lane l).ck.phase)).agrees = false →
         (s.expected l).2.memFault.get (bankOf ((s.rxPat l).start + (s.lane l).ck.phase)) = true))) ∧
  (∀ (s : State) (l : LaneNo) (b : Block), s.isPayload l b = true → (s.lane l).ck.state = .locked →
     s.counting l = true → (s.lane l).ck.run = [] → bitErrors b (s.expected l).1 < (s.desc l).heavy →
     ∃ t : State, exec (.receiveBlock l b) s = .next t ∧
       (t.lane l).ck.state = .locked ∧ (t.lane l).ck.run = [] ∧
       (t.lane l).ck.sinceLock = (s.lane l).ck.sinceLock + 1 ∧
       ∃ newFrame, (t.lane l).run.counts =
           (s.lane l).run.counts.addCounted (bitErrors b (s.expected l).1) newFrame ∧
         (newFrame = true → bitErrors b (s.expected l).1 ≠ 0)) ∧
  (∀ (s : State) (l : LaneNo) (b : Block), s.rxFramed l = true → s.isPayload l b = true →
     (s.lane l).ck.state = .locked → s.counting l = true → (s.desc l).heavy ≤ bitErrors b (s.expected l).1 →
     ∃ t : State, exec (.receiveBlock l b) s = .next t ∧
       (heavyCount (s.lane l).ck.run + 1 < (s.desc l).lossRun →
         (t.lane l).ck.state = .locked ∧ (t.lane l).run = (s.lane l).run ∧
         (t.lane l).win.counts = (s.lane l).win.counts ∧
         ∃ c, (t.lane l).ck.run = (s.lane l).ck.run ++ [.heavy c] ∧ c.errs = bitErrors b (s.expected l).1) ∧
       ((s.desc l).lossRun ≤ heavyCount (s.lane l).ck.run + 1 →
         (t.lane l).ck.state = .lost ∧ (t.lane l).ck.run = [] ∧ (t.lane l).ck.lastLoss = .block ∧
         (t.lane l).run.counts =
           ((s.lane l).run.counts.addUnsynced (heavyCount (s.lane l).ck.run + 1)).addSyncLoss)) ∧
  (∀ (r : RunTotals) (w : Win) (c : Checked),
     (r.count c).counts = r.counts.addCounted c.errs (decide (c.errs ≠ 0 ∧ r.errTag ≠ some c.runTag)) ∧
     (r.count c).errTag = (if c.errs = 0 then r.errTag else some c.runTag) ∧
     (w.isOpen = false → w.count c = w) ∧
     (w.isOpen = true → w.count c = { w with
       counts := w.counts.addCounted c.errs (decide (c.errs ≠ 0 ∧ w.errTag ≠ some c.winTag))
       errTag := if c.errs = 0 then w.errTag else some c.winTag })) ∧
  (∀ (s : State) (l : LaneNo) (b : Block), s.isPayload l b = true → (s.lane l).ck.state = .locked →
     s.counting l = true → bitErrors b (s.expected l).1 < (s.desc l).heavy →
     ∃ (t : State) (c : Checked), exec (.receiveBlock l b) s = .next t ∧
       c.errs = bitErrors b (s.expected l).1 ∧ c.tick = s.tick ∧
       (c.wants = true ↔ (s.desc l).policy = .errors ∨ (s.desc l).policy = .all) ∧
       c.winTag = (s.lane l).win.tag ∧ c.runTag = (s.lane l).run.tag ∧
       (s.rxFramed l = true → s.aligned l = true → c.seq = some (s.lane l).al.seq ∧ c.pos = (s.lane l).al.pos) ∧
       (s.rxFramed l = false → c.seq = none ∧ c.pos = (s.lane l).ck.sinceLock.toNat) ∧
       (t.lane l).ck.sinceLock = (s.lane l).ck.sinceLock + 1 ∧
       (t.lane l).ck.state = .locked ∧ (t.lane l).ck.run = [] ∧
       (t.lane l).run.counts = ((heavyBlocks (s.lane l).ck.run ++ [c]).foldl RunTotals.count (s.lane l).run).counts ∧
       (t.lane l).run.errTag = ((heavyBlocks (s.lane l).ck.run ++ [c]).foldl RunTotals.count (s.lane l).run).errTag ∧
       (s.rxFramed l = true →
         (t.lane l).win.counts = ((heavyBlocks (s.lane l).ck.run ++ [c]).foldl Win.count (s.lane l).win).counts ∧
         (t.lane l).win.errTag = ((heavyBlocks (s.lane l).ck.run ++ [c]).foldl Win.count (s.lane l).win).errTag) ∧
       (s.rxFramed l = false →
         ((s.lane l).run.pseudo < 127 →
           (t.lane l).run.pseudo = (s.lane l).run.pseudo + 1 ∧ (t.lane l).run.tag = (s.lane l).run.tag) ∧
         (127 ≤ (s.lane l).run.pseudo →
           (t.lane l).run.pseudo = 0 ∧ (t.lane l).run.tag = (s.lane l).run.tag + 1)) ∧
       ((s.lane l).armed = false → s.capture.length + (s.lane l).ck.run.length < 256 →
         t.capture = s.capture ++ releasedEntries l ((s.lane l).ck.run ++ [.heavy c]))) ∧
  (∀ (s : State) (l : LaneNo) (b : Block), s.isPayload l b = true → (s.lane l).ck.state = .locked →
     s.counting l = true → (s.desc l).heavy ≤ bitErrors b (s.expected l).1 →
     (s.rxFramed l = true ∨ (s.lane l).win.isOpen = false ∨ (s.lane l).win.pseudo < 127) →
     ∃ (t : State) (c : Checked), exec (.receiveBlock l b) s = .next t ∧
       c.errs = bitErrors b (s.expected l).1 ∧ c.tick = s.tick ∧
       (c.wants = true ↔ (s.desc l).policy = .errors ∨ (s.desc l).policy = .all) ∧
       c.winTag = (s.lane l).win.tag ∧ c.runTag = (s.lane l).run.tag ∧
       (s.rxFramed l = true → s.aligned l = true → c.seq = some (s.lane l).al.seq ∧ c.pos = (s.lane l).al.pos) ∧
       (s.rxFramed l = false → c.seq = none ∧ c.pos = (s.lane l).ck.sinceLock.toNat) ∧
       (t.lane l).ck.sinceLock = (s.lane l).ck.sinceLock + 1 ∧
       (heavyCount (s.lane l).ck.run + 1 < (s.desc l).lossRun →
         (t.lane l).ck.state = .locked ∧ (t.lane l).ck.run = (s.lane l).ck.run ++ [.heavy c] ∧
         (t.lane l).run.counts = (s.lane l).run.counts ∧ (t.lane l).win.counts = (s.lane l).win.counts ∧
         t.capture = s.capture) ∧
       ((s.desc l).lossRun ≤ heavyCount (s.lane l).ck.run + 1 →
         (t.lane l).ck.state = .lost ∧ (t.lane l).ck.run = [] ∧ (t.lane l).ck.lastLoss = .block ∧
         (t.lane l).run.counts =
           ((s.lane l).run.counts.addUnsynced (heavyCount (s.lane l).ck.run + 1)).addSyncLoss ∧
         (t.lane l).win.counts = (if (s.lane l).win.isOpen
           then ((s.lane l).win.counts.addUnsynced (heavyCount (s.lane l).ck.run + 1)).addSyncLoss
           else (s.lane l).win.counts) ∧
         ((s.lane l).armed = false → (s.desc l).policy = .events ∨ (s.desc l).policy = .all →
           s.capture.length + (s.lane l).ck.run.length < 256 →
           t.capture = s.capture ++ heldEntries (s.lane l).ck.run ++ [⟨l, .syncLoss, c.seq, c.pos, none, s.tick⟩]) ∧
         (s.memberOf l = none → s.egress.length ≤ 9 →
           noticeRec (.syncChange l .lost .lossBlock s.tick) ∈ t.egress))) ∧
  (∀ (s : State) (l : LaneNo) (b : Block), s.rxFramed l = true → (s.lane l).al.state = .aligned →
     127 ≤ (s.lane l).al.pos → (goodMarker b = true ∨ (s.lane l).al.miss < 3) → (s.lane l).ck.run = [] →
     ∃ t : State, exec (.receiveBlock l b) s = .next t ∧
       (t.lane l).run.tag = (s.lane l).run.tag + 1 ∧ (t.lane l).run.errTag = (s.lane l).run.errTag ∧
       (t.lane l).win.tag = (s.lane l).win.tag + 1)

/-- A payload block that is not counted: one of a lane that does not count is a held block and nothing else, the expected
pattern going on in CONFIRM and LOCKED (R52, R55); the seed block of a WAIT_SEED hunt (R41), a block taken in CONFIRM (R44), in a
hunt for another reason (R40, R42) and in LOST without auto-resync (R49) are unsynced. With auto-resync a LOST checker hunts, with
the reason of R40 (and confirm run 0, log entry 48), before it takes the block. -/
def Obligations.UnlockedAndHeldBlocks : Prop :=
  (∀ (s : State) (l : LaneNo) (b : Block), s.isPayload l b = true → (s.lane l).ck.state ≠ .off → s.counting l = false →
     ∃ t : State, exec (.receiveBlock l b) s = .next t ∧
       (t.lane l).run.counts = (s.lane l).run.counts.addHeld ∧ (t.lane l).ck.state = (s.lane l).ck.state ∧
       (t.lane l).ck.run = (s.lane l).ck.run ∧ (t.lane l).ck.sinceLock = (s.lane l).ck.sinceLock ∧
       (t.lane l).ck.stages =
         (if (s.lane l).ck.state = .hunt ∨ (s.lane l).ck.state = .lost ∨ (s.rxPat l).kind = .user then
           (s.lane l).ck.stages
         else (prbsBlock (s.rxPat l).kind (s.lane l).ck.stages).2)) ∧
  (∀ (s : State) (l : LaneNo) (b : Block), s.isPayload l b = true → s.counting l = true → (s.lane l).ck.run = [] →
     ((s.lane l).ck.state = .hunt → (s.lane l).ck.reason = .waitSeed → ∃ t : State, exec (.receiveBlock l b) s = .next t ∧
       (t.lane l).run.counts = (s.lane l).run.counts.addUnsynced 1 ∧
       (seedStages (patOrder (s.rxPat l).kind) (inverted (s.rxPat l).invert b) = 0 → (t.lane l).ck.state = .hunt) ∧
       (seedStages (patOrder (s.rxPat l).kind) (inverted (s.rxPat l).invert b) ≠ 0 →
         (t.lane l).ck.state = .confirm ∧ (t.lane l).ck.confirmRun = 0 ∧
         (t.lane l).ck.stages = seedStages (patOrder (s.rxPat l).kind) (inverted (s.rxPat l).invert b))) ∧
     ((s.lane l).ck.state = .confirm → ∃ t : State, exec (.receiveBlock l b) s = .next t ∧
       (t.lane l).run.counts = (s.lane l).run.counts.addUnsynced 1 ∧
       (b = (s.expected l).1 →
         (t.lane l).ck.confirmRun = (s.lane l).ck.confirmRun + 1 ∧
         (t.lane l).ck.state =
           (if (s.desc l).confirm ≤ (s.lane l).ck.confirmRun + 1 then .locked else .confirm)) ∧
       (b ≠ (s.expected l).1 → (s.rxPat l).kind = .user →
         (t.lane l).ck.state = .hunt ∧ (t.lane l).ck.reason = .waitPhase) ∧
       (b ≠ (s.expected l).1 → (s.rxPat l).kind ≠ .user →
         seedStages (patOrder (s.rxPat l).kind) (inverted (s.rxPat l).invert b) ≠ 0 →
         (t.lane l).ck.state = .confirm ∧ (t.lane l).ck.confirmRun = 0 ∧
         (t.lane l).ck.stages = seedStages (patOrder (s.rxPat l).kind) (inverted (s.rxPat l).invert b)))) ∧
  (∀ (s : State) (l : LaneNo),
     (s.rxFramed l = true → s.aligned l = false → s.huntReason l = .waitAlign) ∧
     (s.rxFramed l = true → s.aligned l = true → (s.rxPat l).kind ≠ .user → s.huntReason l = .waitSeed) ∧
     (s.rxFramed l = true → s.aligned l = true → (s.rxPat l).kind = .user → s.huntReason l = .waitPhase) ∧
     (s.rxFramed l = false → (s.rxPat l).kind ≠ .user → s.huntReason l = .waitSeed) ∧
     (s.rxFramed l = false → (s.rxPat l).kind = .user → s.huntReason l = .noPhaseSource)) ∧
  (∀ (s : State) (l : LaneNo) (b : Block), s.isPayload l b = true → s.counting l = true → (s.lane l).ck.run = [] →
     ((s.lane l).ck.state = .hunt ∧ (s.lane l).ck.reason ≠ .waitSeed) ∨
       ((s.lane l).ck.state = .lost ∧ (s.desc l).autoResync = false) →
     ∃ t : State, exec (.receiveBlock l b) s = .next t ∧
       (t.lane l).run.counts = (s.lane l).run.counts.addUnsynced 1 ∧ (t.lane l).ck = (s.lane l).ck) ∧
  (∀ (s : State) (l : LaneNo) (b : Block), s.isPayload l b = true → s.counting l = true → (s.lane l).ck.run = [] →
     (s.lane l).ck.state = .lost → (s.desc l).autoResync = true →
     ∃ t : State, exec (.receiveBlock l b) s = .next t ∧
       (t.lane l).run.counts = (s.lane l).run.counts.addUnsynced 1 ∧
       (s.huntReason l ≠ .waitSeed →
         (t.lane l).ck = { (s.lane l).ck with state := .hunt, reason := s.huntReason l, confirmRun := 0 }) ∧
       (s.huntReason l = .waitSeed →
         (seedStages (patOrder (s.rxPat l).kind) (inverted (s.rxPat l).invert b) = 0 →
           (t.lane l).ck = { (s.lane l).ck with state := .hunt, reason := .waitSeed, confirmRun := 0 }) ∧
         (seedStages (patOrder (s.rxPat l).kind) (inverted (s.rxPat l).invert b) ≠ 0 →
           (t.lane l).ck.state = .confirm ∧ (t.lane l).ck.confirmRun = 0 ∧
           (t.lane l).ck.stages = seedStages (patOrder (s.rxPat l).kind) (inverted (s.rxPat l).invert b))))

/-! ### Receive commands -/

/-- START_RX of LOCAL origin (R37): its four answers, and its whole effect where it is taken. -/
def Obligations.StartRxBegins : Prop :=
  ∀ (s : State) (rest : List CmdRec) (tag : Octet) (l : LaneNo), s.configured = true →
    s.takes (localCmd 0x0B tag (laneOctet l) []) rest →
    (s.rxMode l = some .pass →
      exec .startRx s = .next (s.answered (localCmd 0x0B tag (laneOctet l) []) rest .badTarget .empty)) ∧
    (s.rxMode l ≠ some .pass → (s.lane l).ck.state ≠ .off →
      exec .startRx s = .next (s.answered (localCmd 0x0B tag (laneOctet l) []) rest .busy .empty)) ∧
    (s.rxMode l ≠ some .pass → (s.lane l).ck.state = .off → s.rxFramed l = false → (s.rxPat l).kind = .user →
      exec .startRx s = .next (s.answered (localCmd 0x0B tag (laneOctet l) []) rest .noPhase .empty)) ∧
    (s.rxMode l ≠ some .pass → (s.lane l).ck.state = .off → (s.rxFramed l = true ∨ (s.rxPat l).kind ≠ .user) →
      exec .startRx s = .next (State.answered
        (s.putLane l { s.lane l with
          ck := { (s.lane l).ck with
            state := .hunt
            reason := if s.rxFramed l = true ∧ (s.lane l).al.state ≠ .aligned then .waitAlign
              else if (s.rxPat l).kind = .user then .waitPhase else .waitSeed
            confirmRun := 0, run := [], sinceLock := 0, lastLoss := .none }
          firstErr := false
          run :=
            { counts := Counts.zero, startTick := s.tick, pseudo := 0, errTag := none
              tag := if s.rxFramed l then (s.lane l).run.tag else (s.lane l).run.tag + 1 }
          win :=
            { isOpen := true, nextNumber := (s.lane l).win.nextNumber + 1, number := (s.lane l).win.nextNumber
              counts := Counts.zero, frames := 0, ticks := 0, pseudo := 0, openTick := s.tick
              first := if s.rxFramed l = true ∧ (s.lane l).al.state = .aligned then some (s.lane l).al.seq else none
              last := if s.rxFramed l = true ∧ (s.lane l).al.state = .aligned then some (s.lane l).al.seq else none
              suspect := false, banks := Four.all false, errTag := none
              tag := if s.rxFramed l then (s.lane l).win.tag else (s.lane l).win.tag + 1 }
          alarm := .clear, alarmKnown := false }).settleSup
        (localCmd 0x0B tag (laneOctet l) []) rest .ok .empty))

/-- STOP_RX (R38): nothing on a stopped checker; else the checker is OFF, its window closed with STOP and its pending heavy run
empty. RESYNC (R39): nothing in OFF and HUNT; else the checker hunts, and the blocks of its run are unsynced. -/
def Obligations.StopRxAndResync : Prop :=
  (∀ (s : State) (rest : List CmdRec) (tag : Octet) (l : LaneNo), s.configured = true →
     s.takes (localCmd 0x0C tag (laneOctet l) []) rest →
     ∃ t : State, exec .stopRx s = .next (t.answered (localCmd 0x0C tag (laneOctet l) []) rest .ok .empty) ∧
       (t.lane l).ck.state = .off ∧ (t.lane l).remote = { (s.lane l).remote with rxStarted := false } ∧
       ((s.lane l).ck.state = .off → s.holdsSettled = true → (t.lane l).ck = (s.lane l).ck ∧
         (t.lane l).win = (s.lane l).win ∧ (t.lane l).hist = (s.lane l).hist ∧ (t.lane l).run = (s.lane l).run) ∧
       ((s.lane l).ck.state ≠ .off →
         (t.lane l).ck.confirmRun = 0 ∧ (t.lane l).ck.sinceLock = 0 ∧ (t.lane l).ck.run = [] ∧
         (t.lane l).win.isOpen = false ∧
         ((s.lane l).win.isOpen = true → ∃ r, (t.lane l).hist.getLast? = some r ∧ r.source = .lane l ∧
           r.number = (s.lane l).win.number ∧ r.reason = .stop ∧ r.openTick = (s.lane l).win.openTick ∧
           r.closeTick = s.tick)) ∧
       (t.lane l).tx = (s.lane l).tx ∧ (t.lane l).al = (s.lane l).al ∧
       (s.holdsSettled = true → s.keeps { t with sup := s.sup } l)) ∧
  (∀ (s : State) (rest : List CmdRec) (tag : Octet) (l : LaneNo), s.configured = true →
     s.takes (localCmd 0x0D tag (laneOctet l) []) rest →
     ((s.lane l).ck.state = .off ∨ (s.lane l).ck.state = .hunt →
       exec .resync s = .next (s.answered (localCmd 0x0D tag (laneOctet l) []) rest .ok .empty)) ∧
     ((s.lane l).ck.state ≠ .off → (s.lane l).ck.state ≠ .hunt →
       ∃ t : State, exec .resync s = .next (t.answered (localCmd 0x0D tag (laneOctet l) []) rest .ok .empty) ∧
         (t.lane l).ck.state = .hunt ∧ (t.lane l).ck.confirmRun = 0 ∧ (t.lane l).ck.run = [] ∧
         ((s.lane l).ck.run ≠ [] →
           (t.lane l).run.counts = (s.lane l).run.counts.addUnsynced (heavyCount (s.lane l).ck.run)) ∧
         ((s.lane l).ck.run = [] → (t.lane l).run = (s.lane l).run ∧ (t.lane l).win = (s.lane l).win) ∧
         (t.lane l).al = (s.lane l).al ∧ (t.lane l).tx = (s.lane l).tx ∧ s.keeps t l))

/-- RESTART_LANE (R90, R57, R100, R134): everything the lane has measured is forgotten. -/
def Obligations.RestartLaneForgets : Prop :=
  ∀ (s : State) (rest : List CmdRec) (tag : Octet) (l : LaneNo), s.configured = true →
    s.takes (localCmd 0x0E tag (laneOctet l) []) rest →
    ∃ t : State, exec .restartLane s = .next (t.answered (localCmd 0x0E tag (laneOctet l) []) rest .ok .empty) ∧
      (t.lane l).al = Aligner.reset ∧ (t.lane l).hist = [] ∧ (t.lane l).idm = none ∧
      (t.lane l).run.counts = Counts.zero ∧ (t.lane l).run.startTick = s.tick ∧
      (t.lane l).alarm = .clear ∧ (t.lane l).alarmKnown = false ∧ (t.lane l).hold = (s.lane l).hold ∧
      (∀ c, c ∈ t.capture → c.lane ≠ l) ∧ (∀ c, c ∈ s.capture → c.lane ≠ l → c ∈ t.capture) ∧
      (∀ j, j ∈ t.jobs → j.source = .lane l → j.discard = true ∧ j.inputs.isSome = true) ∧
      ((s.lane l).ck.state = .off →
        (t.lane l).ck.state = .off ∧ (t.lane l).win.isOpen = false) ∧
      ((s.lane l).ck.state ≠ .off →
        (t.lane l).ck.state = .hunt ∧ (t.lane l).ck.run = [] ∧ (t.lane l).ck.sinceLock = 0 ∧
        (t.lane l).win.isOpen = true ∧ (t.lane l).win.counts = Counts.zero ∧ (t.lane l).win.openTick = s.tick) ∧
      (t.lane l).tx = (s.lane l).tx ∧ (t.lane l).rxBuf = (s.lane l).rxBuf ∧ s.keeps { t with link := s.link } l

/-- READ_LANE (R58), READ_HISTORY (R87), READ_RUN (R89) and READ_GROUP (R76; its target octets 8 and 9 by log entry 23) answer OK
with what they name, and change nothing. So do READ_ENTRY and DUMP_TABLES (R173), which either part state takes: READ_ENTRY
answers BAD_FIELD for an index past the end of its table and BAD_TARGET for no table's number; DUMP_TABLES returns as many
consecutive entries as were asked for, as the table has, and as fit (a free value, log entry 5), with OVERFLOW where the range
runs past the end. That OVERFLOW is the answer for a FIRST index past the end too is the model's choice (log entry 5). -/
def Obligations.ReadsChangeNothing : Prop :=
  (∀ (s : State) (rest : List CmdRec) (tag : Octet), s.configured = true →
    (∀ l, s.takes (localCmd 0x0F tag (laneOctet l) []) rest →
      exec .readLane s = .next (s.answered (localCmd 0x0F tag (laneOctet l) []) rest .ok (.lane (s.laneView l)))) ∧
    (∀ l, s.takes (localCmd 0x13 tag (laneOctet l) []) rest →
      exec .readRun s = .next (s.answered (localCmd 0x13 tag (laneOctet l) []) rest .ok
        (.runTotals (s.lane l).run.counts (s.lane l).run.startTick))) ∧
    (∀ g, s.takes (localCmd 0x17 tag (groupOctet g) []) rest →
      exec .readGroup s = .next (s.answered (localCmd 0x17 tag (groupOctet g) []) rest .ok (.group (s.groupView g)))) ∧
    (∀ (l : LaneNo) (k : Nat) (body : List Block), body ≠ [] → s.takes (localCmd 0x12 tag (laneOctet l) body) rest →
      exec (.readHistory (.params k)) s = .next (s.answered (localCmd 0x12 tag (laneOctet l) body) rest .ok
        (.history ((s.lane l).hist.drop ((s.lane l).hist.length - min (max k 1) 16))))) ∧
    (∀ (g : GroupId) (k : Nat) (body : List Block), body ≠ [] → s.takes (localCmd 0x12 tag (groupOctet g) body) rest →
      exec (.readHistory (.params k)) s = .next (s.answered (localCmd 0x12 tag (groupOctet g) body) rest .ok
        (.history ((s.group g).hist.drop ((s.group g).hist.length - min (max k 1) 16)))))) ∧
  (∀ (s : State) (rest : List CmdRec) (tag table : Octet) (body : List Block), body ≠ [] →
    (∀ i, s.takes (localCmd 0x06 tag table body) rest →
      (table.toNat < 10 → i < tableSize table.toNat →
        exec (.readEntry (.params i)) s = .next
          (s.answered (localCmd 0x06 tag table body) rest .ok (.entry (s.entryView table.toNat i)))) ∧
      (table.toNat < 10 → tableSize table.toNat ≤ i →
        exec (.readEntry (.params i)) s =
          .next (s.answered (localCmd 0x06 tag table body) rest .badField .empty)) ∧
      (10 ≤ table.toNat →
        exec (.readEntry (.params i)) s =
          .next (s.answered (localCmd 0x06 tag table body) rest .badTarget .empty))) ∧
    (∀ a : DumpArg, s.takes (localCmd 0x04 tag table body) rest →
      (table.toNat < 10 → ∃ es, exec (.dumpTables (.params a)) s = .next
          (s.answered (localCmd 0x04 tag table body) rest
            (if tableSize table.toNat < a.first + a.count then .overflow else .ok) (.entries es)) ∧
        es.length = min (min a.count (tableSize table.toNat - a.first)) (Config.dumpCapacity table.toNat) ∧
        ∀ k, k < es.length → es[k]? = some (s.entryView table.toNat (a.first + k))) ∧
      (10 ≤ table.toNat →
        exec (.dumpTables (.params a)) s =
          .next (s.answered (localCmd 0x04 tag table body) rest .badTarget .empty)))) ∧
  (∀ (s : State) (l : LaneNo) (i : Nat),
    ((s.laneMap.get l = none → s.entryView 0 l.val = .empty) ∧
      ∀ e, s.laneMap.get l = some e → s.entryView 0 l.val = .laneMap e) ∧
    ((s.laneDesc.get l = none → s.entryView 1 l.val = .empty) ∧
      ∀ e, s.laneDesc.get l = some e → s.entryView 1 l.val = .laneDesc e) ∧
    ((s.patDesc.get l = none → s.entryView 2 l.val = .empty) ∧
      ∀ e, s.patDesc.get l = some e → s.entryView 2 l.val = .patDesc e) ∧
    s.entryView 3 i = .patMem (patRead s.patMem i).data (!(patRead s.patMem i).agrees) ∧
    s.entryView 9 0 = .permit s.permit)

/-! ### Windows -/

/-- OPEN_WINDOW (R84), CLOSE_WINDOW (R85, R82, R83) and CLEAR_RUN (R89, R88). -/
def Obligations.WindowCommandsOpenAndClose : Prop :=
  (∀ (s : State) (rest : List CmdRec) (tag : Octet) (l : LaneNo), s.configured = true →
     (s.takes (localCmd 0x10 tag (laneOctet l) []) rest →
       ((s.lane l).ck.state = .off →
         exec .openWindow s = .next (s.answered (localCmd 0x10 tag (laneOctet l) []) rest .badTarget .empty)) ∧
       ((s.lane l).ck.state ≠ .off →
         ∃ t : State, exec .openWindow s = .next (t.answered (localCmd 0x10 tag (laneOctet l) []) rest .ok .empty) ∧
           (t.lane l).win.isOpen = true ∧ (t.lane l).win.number = (s.lane l).win.nextNumber ∧
           (t.lane l).win.nextNumber = (s.lane l).win.nextNumber + 1 ∧ (t.lane l).win.counts = Counts.zero ∧
           (t.lane l).win.frames = 0 ∧ (t.lane l).win.ticks = 0 ∧ (t.lane l).win.openTick = s.tick ∧
           (t.lane l).win.suspect = false ∧ (s.holdsSettled = true → s.keeps t l) ∧
           ((s.lane l).win.isOpen = true → ∃ r, (t.lane l).hist.getLast? = some r ∧
             r.number = (s.lane l).win.number ∧ r.reason = .command ∧ r.closeTick = s.tick) ∧
           ((s.lane l).win.isOpen = false → s.holdsSettled = true → (t.lane l).hist = (s.lane l).hist))) ∧
     (s.takes (localCmd 0x11 tag (laneOctet l) []) rest →
       ((s.lane l).win.isOpen = false → s.holdsSettled = true →
         exec .closeWindow s = .next (s.answered (localCmd 0x11 tag (laneOctet l) []) rest .ok .empty)) ∧
       ((s.lane l).win.isOpen = true →
         ∃ t : State, exec .closeWindow s = .next (t.answered (localCmd 0x11 tag (laneOctet l) []) rest .ok .empty) ∧
           (t.lane l).win.isOpen = false ∧ (t.lane l).ck.run = [] ∧ (t.lane l).ck.state = (s.lane l).ck.state ∧
           (s.holdsSettled = true → s.keeps t l) ∧
           ∃ r, (t.lane l).hist.getLast? = some r ∧ r.number = (s.lane l).win.number ∧ r.reason = .command ∧
             r.openTick = (s.lane l).win.openTick ∧ r.closeTick = s.tick ∧ r.frames = (s.lane l).win.frames ∧
             r.suspect = (s.lane l).win.suspect ∧
             ((s.lane l).ck.run = [] → r.counts = (s.lane l).win.counts)))) ∧
  (∀ (s : State) (rest : List CmdRec) (tag : Octet) (l : LaneNo), s.configured = true →
     s.takes (localCmd 0x14 tag (laneOctet l) []) rest →
     exec .clearRun s = .next (State.answered
       (s.putLane l { s.lane l with
         run :=
           { counts := Counts.zero, startTick := s.tick, pseudo := 0, errTag := none
             tag := if s.rxFramed l then (s.lane l).run.tag else (s.lane l).run.tag + 1 } })
       (localCmd 0x14 tag (laneOctet l) []) rest .ok .empty))

/-- The expiries of a lane: the pseudo-frame boundary (R80), the length close (R81, R82) and the end of a step of a RAW lane
(R141). Each row is the count's last advance alone (log entry 6). A FRAMES window closes by length where a frame boundary can stand,
and an OPEN one not at all (R81). That STEP_DONE stands before a notice of the lane's group is log
entry 58. -/
def Obligations.LaneExpiriesAct : Prop :=
  ∀ (s : State) (l : LaneNo),
    ((s.lane l).win.isOpen = true → s.counting l = true → s.rxFramed l = false → (s.lane l).win.pseudo = 127 →
      s.holdsSettled = true → (∀ n, (s.desc l).spec = .frames n → (s.lane l).win.frames + 1 < n) →
      (s.lane l).win.frames < 4294967294 →
      exec (.pseudoFrameBoundary l) s = .next (s.putLane l { s.lane l with
        win := { (s.lane l).win with
          frames := (s.lane l).win.frames + 1, pseudo := 0, tag := (s.lane l).win.tag + 1 } })) ∧
    (∀ n, (s.lane l).win.isOpen = true → s.counting l = true → s.rxFramed l = false → (s.lane l).win.pseudo = 127 →
      (s.desc l).spec = .frames n → n ≤ (s.lane l).win.frames + 1 → n ≤ 65535 →
      ∃ t : State, exec (.pseudoFrameBoundary l) s = .next t ∧ (t.lane l).win.isOpen = (s.desc l).rep ∧
        (s.holdsSettled = true → s.keeps t l) ∧
        ∃ r, (t.lane l).hist.getLast? = some r ∧ r.number = (s.lane l).win.number ∧ r.reason = .length ∧
          r.frames = min ((s.lane l).win.frames + 1) 4294967295 ∧ r.closeTick = s.tick) ∧
    ((s.lane l).win.isOpen = true → s.counting l = true →
      (∀ n, (s.desc l).spec = .frames n → n ≤ (s.lane l).win.frames + 1 →
        (s.rxFramed l = true ∧ (s.lane l).al.state = .aligned ∧ 127 ≤ (s.lane l).al.pos) ∨
          (s.rxFramed l = false ∧ (s.lane l).win.pseudo = 127) →
        ∃ t : State, exec (.laneWindowLengthClose l) s = .next t ∧ (t.lane l).win.isOpen = (s.desc l).rep ∧
        (s.holdsSettled = true → s.keeps t l) ∧
          ∃ r, (t.lane l).hist.getLast? = some r ∧ r.number = (s.lane l).win.number ∧ r.reason = .length ∧
            r.frames = min ((s.lane l).win.frames + 1) 4294967295 ∧ r.closeTick = s.tick) ∧
      (∀ n, (s.desc l).spec = .ticks n → n ≤ (s.lane l).win.ticks + 1 →
        ∃ t : State, exec (.laneWindowLengthClose l) s = .next t ∧ (t.lane l).win.isOpen = (s.desc l).rep ∧
        (s.holdsSettled = true → s.keeps t l) ∧
          ∃ r, (t.lane l).hist.getLast? = some r ∧ r.number = (s.lane l).win.number ∧ r.reason = .length ∧
            r.frames = (s.lane l).win.frames ∧ r.closeTick = s.tick)) ∧
    (∀ n, (s.desc l).spec = .frames n →
      (s.rxFramed l = true ∧ ((s.lane l).al.state ≠ .aligned ∨ (s.lane l).al.pos < 127)) ∨
        (s.rxFramed l = false ∧ (s.lane l).win.pseudo ≠ 127) →
      exec (.laneWindowLengthClose l) s = .next s) ∧
    ((s.desc l).spec = .openEnded → exec (.laneWindowLengthClose l) s = .next s) ∧
    ((s.lane l).hold = .stepping → s.rxFramed l = false → 127 ≤ (s.lane l).stepCount →
      ∃ t : State, exec (.stepCountExpiry l) s = .next t ∧ (t.lane l).hold = .held ∧ (t.lane l).stepCount = 0 ∧
        (t.lane l).ck = (s.lane l).ck ∧ (t.lane l).win = (s.lane l).win ∧ s.keeps t l ∧
        (s.egress.length ≤ 11 → ∃ more, t.egress = s.egress ++ noticeRec (.stepDone l none (s.lane l).ck.state s.tick) :: more))

/-- OPEN_GROUP_WINDOW (R71) and CLOSE_GROUP_WINDOW (R73, R74); the target octets 8 and 9 of the groups by log entry 23. That the
leading offset is 0 while S0 is undetermined is the model's choice, log entry 49. -/
def Obligations.GroupWindowCommands : Prop :=
  ∀ (s : State) (rest : List CmdRec) (tag : Octet) (g : GroupId), s.configured = true →
    (s.takes (localCmd 0x15 tag (groupOctet g) []) rest →
      ∃ (t : State) (w : GWin), exec .openGroupWindow s = .next (t.answered (localCmd 0x15 tag (groupOctet g) []) rest .ok .empty) ∧
        (t.group g).win = some w ∧ (t.group g).alarm = .clear ∧
        (t.group g).nextNumber = (s.group g).nextNumber + 1 ∧ w.number = (s.group g).nextNumber ∧
        w.counts = Counts.zero ∧ w.openTick = s.tick ∧ w.incomplete = false ∧
        t.fixed = s.fixed ∧ (∀ m, (t.lane m).still = (s.lane m).still) ∧
        (∀ d, s.groupDesc.get g = some d → w.spec = d.spec ∧ w.rep = d.rep ∧ w.notices = d.notices) ∧
        (s.alignedMembers g = [] → w.s0 = none ∧ w.offset = 0) ∧
        (∀ b, s.alignedMembers g ≠ [] → (s.group g).leading = some b → w.s0 = some (b + 1) ∧ w.offset = -1) ∧
        (∀ l, s.isMember g l = true → (t.lane l).mem.greatestLag = 0)) ∧
    (s.takes (localCmd 0x16 tag (groupOctet g) []) rest →
      ((s.group g).win = none →
        exec .closeGroupWindow s = .next (s.answered (localCmd 0x16 tag (groupOctet g) []) rest .ok .empty)) ∧
      (∀ w, (s.group g).win = some w →
        ∃ (t : State) (r : WinRecord), exec .closeGroupWindow s = .next (t.answered (localCmd 0x16 tag (groupOctet g) []) rest .ok .empty) ∧
          (t.group g).win = none ∧ (t.group g).hist.getLast? = some r ∧ r.source = .group g ∧ r.number = w.number ∧
          r.reason = .command ∧ r.openTick = w.openTick ∧ r.closeTick = s.tick ∧
          r.counts.bits = w.counts.bits ∧ r.counts.errors = w.counts.errors ∧
          t.fixed = s.fixed ∧ ∀ m, (t.lane m).still = (s.lane m).still))

/-! ### Ratio engine -/

/-- R102, whole: the exponent and its uniqueness, the rounded mantissa and its range, the mantissa of 1000, the largest
exponent, and that the verdict and the alarm state follow the exact comparison of R105 alone: two jobs of one profile, table
entry and N whose errors compare alike with that profile's five thresholds are judged alike, whatever their ratios. -/
def Obligations.RatioIsRounded : Prop :=
  (∀ e n : Nat, 64 ≤ n → n % 64 = 0 → n ≤ 72057594037927872 → e ≤ n → e ≤ 281474976710655 →
    (e = 0 → ratioOf e n = .zero) ∧
    (1 ≤ e → ∃ x, n ≤ e * 10 ^ x ∧ e * 10 ^ x < 10 * n) ∧
    (1 ≤ e → ∀ x, n ≤ e * 10 ^ x → e * 10 ^ x < 10 * n →
      (∀ y, n ≤ e * 10 ^ y → e * 10 ^ y < 10 * n → y = x) ∧ x ≤ 17 ∧
      100 * n ≤ e * 10 ^ (x + 2) ∧ e * 10 ^ (x + 2) < 1000 * n ∧
      ∃ m, 2 * n * m ≤ 2 * e * 10 ^ (x + 2) + n ∧ 2 * e * 10 ^ (x + 2) + n < 2 * n * (m + 1) ∧
        100 ≤ m ∧ m ≤ 1000 ∧
        (m ≠ 1000 → ratioOf e n = .dec ⟨m, x⟩) ∧
        (m = 1000 → 9995 * n ≤ 1000 * (e * 10 ^ x) ∧ 1 ≤ x ∧ ratioOf e n = .dec ⟨100, x - 1⟩)) ∧
    (e = n → ratioOf e n = .dec ⟨100, 0⟩)) ∧
  (∀ i j : JobInputs, i.prof = j.prof → i.u = j.u → i.bits = j.bits →
    (∀ T ∈ [i.prof.degradeSet, i.prof.degradeClear, i.prof.failSet, i.prof.failClear, i.prof.target],
      atOrAbove i.errs i.bits T = atOrAbove j.errs j.bits T) →
    verdictOf i = verdictOf j ∧ ∀ a, alarmNext a i = alarmNext a j)

/-- R104, whole: no bound, the clamped bound, the rounded one with its exponent and range, the mantissa of 1000, and that a
clamped bound takes no part in the verdict. -/
def Obligations.BoundRoundsUp : Prop :=
  (∀ (s : State) (j : Job), 31 < (s.jobInputs j).errs →
    boundOf (s.jobInputs j).bits (s.jobInputs j).u = none) ∧
  (∀ n u : Nat, 64 ≤ n → n ≤ 72057594037927872 → u ≤ 65535 →
    boundOf n (some 0) = none ∧
    (100 * n ≤ u → boundOf n (some u) = some ⟨⟨100, 0⟩, true⟩) ∧
    (1 ≤ u → u < 100 * n → ∃ x m, 100 * n ≤ u * 10 ^ x ∧ u * 10 ^ x < 1000 * n ∧
      (∀ y, 100 * n ≤ u * 10 ^ y → u * 10 ^ y < 1000 * n → y = x) ∧
      u * 10 ^ x ≤ m * n ∧ (∀ k, u * 10 ^ x ≤ k * n → m ≤ k) ∧ 100 ≤ m ∧ m ≤ 1000 ∧
      (m ≠ 1000 → boundOf n (some u) = some ⟨⟨m, x⟩, false⟩) ∧
      (m = 1000 → boundOf n (some u) = some ⟨⟨100, x - 1⟩, decide (x = 1)⟩)) ∧
    (∀ b, boundOf n (some u) = some b → b.clamped = false →
      1 ≤ b.d.x ∧ b.d.x ≤ 19 ∧ u * 10 ^ b.d.x ≤ b.d.m * n ∧ b.d.m * n - u * 10 ^ b.d.x ≤ n)) ∧
  (∀ (i : JobInputs) (b : Bound), boundOf i.bits i.u = some b → b.clamped = true → verdictOf i ≠ .proven)

/-- R105 and R106: the exact comparisons, made on whole numbers, and the verdict by its first case that holds; and the alarm state
rests on those comparisons with the profile's four alarm thresholds. -/
def Obligations.VerdictByExactComparison : Prop :=
  (∀ (e n : Nat) (T : Decimal), atOrAbove e n T = true ↔ e * 10 ^ (T.x + 2) ≥ T.m * n) ∧
  (∀ (u n : Nat) (T : Decimal), boundBelow u n T = true ↔ u * 10 ^ T.x < T.m * n) ∧
  (∀ i : JobInputs,
    (verdictOf i = .exceeded ↔ i.errs * 10 ^ (i.prof.target.x + 2) ≥ i.prof.target.m * i.bits) ∧
    (verdictOf i = .proven ↔ i.errs * 10 ^ (i.prof.target.x + 2) < i.prof.target.m * i.bits ∧
      ∃ u b, i.u = some u ∧ boundOf i.bits i.u = some b ∧ b.clamped = false ∧
        u * 10 ^ i.prof.target.x < i.prof.target.m * i.bits) ∧
    verdictOf i ≠ .unordered) ∧
  (∀ (a : Alarm) (i j : JobInputs), i.prof = j.prof →
    (∀ T ∈ [i.prof.degradeSet, i.prof.degradeClear, i.prof.failSet, i.prof.failClear],
      atOrAbove i.errs i.bits T = atOrAbove j.errs j.bits T) → alarmNext a i = alarmNext a j)

/-- RATIO_JOB_COMPLETE (R99): the job in service leaves the queue and the next one starts; a job without a discard mark judges
its record and its source's alarm state, a marked one writes nothing. And the alarm state after an evaluation, row by row
(R108). A command that waits is another statement's (`ContextCommandsAnswered`). -/
def Obligations.RatioJobCompletes : Prop :=
  (∀ s : State, s.waiting = false →
     (s.jobs = [] → exec .ratioJobComplete s = .next s) ∧
     (∀ (j : Job) (rest : List Job) (i : JobInputs), s.jobs = j :: rest → j.inputs = some i →
       ∃ t : State, exec .ratioJobComplete s = .next t ∧ t.jobs.map Job.source = rest.map Job.source ∧
         (∀ k ks, t.jobs = k :: ks → k.inputs.isSome = true) ∧
         t.fixed = s.fixed ∧ (∀ m, j.source ≠ .lane m → (t.lane m).still = (s.lane m).still) ∧
         (j.discard = true → t = { s with jobs := rest }.startHead) ∧
         (j.discard = false →
           t.alarmOf j.source = alarmNext (s.alarmOf j.source) i ∧
           (∀ l, j.source = .lane l → (t.lane l).alarmKnown = true) ∧
           t.history j.source = (s.history j.source).map (fun r =>
             if r.serial = j.serial then
               { r with
                 status := .done, ratio := some (ratioOf i.errs i.bits), bound := boundOf i.bits i.u,
                 verdict := some (verdictOf i), alarmAfter := some (alarmNext (s.alarmOf j.source) i) }
             else r) ∧
           (alarmNext (s.alarmOf j.source) i = s.alarmOf j.source → t.egress = s.egress) ∧
           (alarmNext (s.alarmOf j.source) i ≠ s.alarmOf j.source → s.egress.length ≤ 11 →
             t.egress = s.egress ++ [noticeRec (.alarmChange j.source j.number (s.alarmOf j.source)
               (alarmNext (s.alarmOf j.source) i) (ratioOf i.errs i.bits) s.tick)])))) ∧
  (∀ i : JobInputs,
     (alarmNext .clear i = if atOrAbove i.errs i.bits i.prof.failSet then .failed
       else if atOrAbove i.errs i.bits i.prof.degradeSet then .degraded else .clear) ∧
     (alarmNext .degraded i = if atOrAbove i.errs i.bits i.prof.failSet then .failed
       else if atOrAbove i.errs i.bits i.prof.degradeClear then .degraded else .clear) ∧
     (alarmNext .failed i = if !atOrAbove i.errs i.bits i.prof.degradeClear then .clear
       else if atOrAbove i.errs i.bits i.prof.failClear then .failed else .degraded) ∧
     (i.errs = 0 → 64 ≤ i.bits → 100 ≤ i.prof.degradeClear.m → 100 ≤ i.prof.degradeSet.m → 100 ≤ i.prof.failSet.m →
       ∀ a, alarmNext a i = .clear))

/-! ### Capture, triggers and holds -/

/-- READ_CAPTURE (R133), CLEAR_CAPTURE (R134) and ARM_TRIGGER (R137); a firing (R136) disarms the trigger, leaves its entry and
notice, and asks for a hold where the action is HOLD; that the notice carries the tick stamp of the entry is the model's choice,
log entry 69. And the events that fire an armed trigger (R135, R136): the first counted
errored block of a lock, a counted block of n errors, a good marker of sequence s, a loss of synchronization; a heavy block that
waits in the pending run fires nothing, nor does any event of a lane that does not count or whose checker is OFF. -/
def Obligations.CaptureAndTriggerCommands : Prop :=
  (∀ (s : State) (rest : List CmdRec) (tag target : Octet), s.configured = true →
     (∀ (k : Nat) (body : List Block), body ≠ [] → s.takes (localCmd 0x1E tag target body) rest →
       exec (.readCapture (.params k)) s = .next (State.answered
         { s with capture := s.capture.drop (min (max k 1) 16), captureOver := false }
         (localCmd 0x1E tag target body) rest .ok
         (.capture (s.capture.take (min (max k 1) 16)) s.captureOver (s.capture.length - min (max k 1) 16)))) ∧
     (s.takes (localCmd 0x1F tag target []) rest →
       exec .clearCapture s = .next (State.answered { s with capture := [], captureOver := false }
         (localCmd 0x1F tag target []) rest .ok .empty))) ∧
  (∀ (s : State) (rest : List CmdRec) (tag : Octet) (l : LaneNo) (body : List Block), s.configured = true → body ≠ [] →
     s.takes (localCmd 0x20 tag (laneOctet l) body) rest →
     exec (.armTrigger (.params (some .arm))) s = .next (State.answered
       (s.putLane l { s.lane l with armed := decide ((s.desc l).trigger ≠ .none) })
       (localCmd 0x20 tag (laneOctet l) body) rest .ok .empty) ∧
     exec (.armTrigger (.params (some .disarm))) s = .next (State.answered
       (s.putLane l { s.lane l with armed := false }) (localCmd 0x20 tag (laneOctet l) body) rest .ok .empty) ∧
     exec (.armTrigger (.params none)) s =
       .next (s.answered (localCmd 0x20 tag (laneOctet l) body) rest .badField .empty)) ∧
  (∀ (s : State) (l : LaneNo) (q : Option FrameSeq) (p : Nat) (t : Tick),
     ((s.fireTrigger l q p t).lane l).armed = false ∧
     (((s.fireTrigger l q p t).settleHolds).lane l).hold =
       (if (s.lane l).hold = .run ∧ ((s.lane l).holdReq = true ∨ (s.desc l).action = .hold) then .held
         else (s.lane l).hold) ∧
     ((s.lane l).ck.run = [] → s.capture.length < 256 →
       (s.fireTrigger l q p t).capture = s.capture ++ [⟨l, .trigger, q, p, none, t⟩]) ∧
     ((s.lane l).ck.run ≠ [] → (s.fireTrigger l q p t).capture = s.capture ∧
       ((s.fireTrigger l q p t).lane l).ck.run = (s.lane l).ck.run ++ [.entry ⟨l, .trigger, q, p, none, t⟩]) ∧
     (s.egress.length ≤ 11 → (s.fireTrigger l q p t).egress =
       s.egress ++ [noticeRec (.trigger l (s.desc l).trigger (s.desc l).action q p t)])) ∧
  (∀ (s : State) (l : LaneNo) (b : Block), s.isPayload l b = true → (s.lane l).ck.state = .locked →
     s.counting l = true → bitErrors b (s.expected l).1 < (s.desc l).heavy →
     ∃ t : State, exec (.receiveBlock l b) s = .next t ∧
       ((t.lane l).firstErr = true ↔ (s.lane l).firstErr = true ∨
         ∃ e ∈ (heavyBlocks (s.lane l).ck.run).map Checked.errs ++ [bitErrors b (s.expected l).1], e ≠ 0) ∧
       ((s.lane l).armed = false → (t.lane l).armed = false) ∧
       ((s.lane l).armed = true →
         ((t.lane l).armed = false ↔
           ∃ e ∈ (heavyBlocks (s.lane l).ck.run).map Checked.errs ++ [bitErrors b (s.expected l).1],
             ((s.desc l).trigger = .firstError ∧ (s.lane l).firstErr = false ∧ e ≠ 0) ∨
               ∃ n, (s.desc l).trigger = .blockAtLeast n ∧ n ≤ e) ∧
         ((s.lane l).holdReq = false → (s.lane l).hold = .run →
           (t.lane l).hold = (if (t.lane l).armed = false ∧ (s.desc l).action = .hold then .held else .run)) ∧
         ((t.lane l).armed = false → (s.lane l).ck.run = [] → s.egress.length ≤ 10 → s.capture.length ≤ 254 →
           ∃ q p, noticeRec (.trigger l (s.desc l).trigger (s.desc l).action q p s.tick) ∈ t.egress ∧
             (⟨l, .trigger, q, p, none, s.tick⟩ : CapEntry) ∈ t.capture ∧
             (s.rxFramed l = true → s.aligned l = true → q = some (s.lane l).al.seq ∧ p = (s.lane l).al.pos) ∧
             (s.rxFramed l = false → q = none ∧ p = (s.lane l).ck.sinceLock.toNat)))) ∧
  (∀ (s : State) (l : LaneNo) (b : Block), s.isPayload l b = true → (s.lane l).ck.state = .locked →
     s.counting l = true → (s.desc l).heavy ≤ bitErrors b (s.expected l).1 →
     (s.rxFramed l = true ∨ (s.lane l).win.isOpen = false ∨ (s.lane l).win.pseudo < 127) →
     ∃ t : State, exec (.receiveBlock l b) s = .next t ∧
       (heavyCount (s.lane l).ck.run + 1 < (s.desc l).lossRun → (t.lane l).armed = (s.lane l).armed) ∧
       ((s.desc l).lossRun ≤ heavyCount (s.lane l).ck.run + 1 → (s.lane l).armed = true →
         ((t.lane l).armed = false ↔ (s.desc l).trigger = .syncLoss))) ∧
  (∀ (s : State) (l : LaneNo) (b : Block), (s.lane l).armed = true → s.counting l = true →
     (s.losesMarkers l b = true → (s.lane l).ck.state = .locked → ∃ t : State, exec (.receiveBlock l b) s = .next t ∧
       ((t.lane l).armed = false ↔ (s.desc l).trigger = .syncLoss)) ∧
     (s.losesMarkers l b = true → (s.lane l).ck.state ≠ .locked → ∃ t : State, exec (.receiveBlock l b) s = .next t ∧
       (t.lane l).armed = true) ∧
     (s.takesMarker l b = true → (s.lane l).ck.state ≠ .off → (s.lane l).ck.run = [] →
       ∃ t : State, exec (.receiveBlock l b) s = .next t ∧
         ((t.lane l).armed = false ↔ (s.desc l).trigger = .frameSeq (readMarker b).seq.toNat))) ∧
  (∀ (s : State) (l : LaneNo) (b : Block), s.counting l = false ∨ (s.lane l).ck.state = .off →
     ∃ t : State, exec (.receiveBlock l b) s = .next t ∧ (t.lane l).armed = (s.lane l).armed)

/-- HOLD_LANE (R138), RESUME_LANE (R140) and STEP_FRAME (R141); and the check of R55 when a lane that did not count is resumed: a
LOCKED checker whose FRAMED lane has lost its marker alignment loses synchronization, and one in CONFIRM hunts. -/
def Obligations.HoldCommandsMoveLane : Prop :=
  (∀ (s : State) (rest : List CmdRec) (tag : Octet) (l : LaneNo), s.configured = true →
     (s.takes (localCmd 0x21 tag (laneOctet l) []) rest →
       ((s.lane l).hold ≠ .run →
         exec .holdLane s = .next (s.answered (localCmd 0x21 tag (laneOctet l) []) rest .ok .empty)) ∧
       ((s.lane l).hold = .run →
         ∃ t : State, exec .holdLane s = .next (t.answered (localCmd 0x21 tag (laneOctet l) []) rest .ok .empty) ∧
           (t.lane l).hold = .held ∧ (t.lane l).ck = (s.lane l).ck ∧ (t.lane l).win = (s.lane l).win ∧
           (t.lane l).run = (s.lane l).run ∧ (t.lane l).al = (s.lane l).al ∧ (t.lane l).tx = (s.lane l).tx ∧
           s.keeps t l)) ∧
     (s.takes (localCmd 0x22 tag (laneOctet l) []) rest →
       ((s.lane l).hold = .run →
         exec .resumeLane s = .next (s.answered (localCmd 0x22 tag (laneOctet l) []) rest .ok .empty)) ∧
       ((s.lane l).hold ≠ .run → s.counting l = true →
         exec .resumeLane s = .next (State.answered (s.putLane l { s.lane l with hold := .run, stepCount := 0 })
           (localCmd 0x22 tag (laneOctet l) []) rest .ok .empty)) ∧
       ((s.lane l).hold ≠ .run → s.holdsSettled = true → (s.lane l).armed = false →
         ∃ t : State, exec .resumeLane s = .next (t.answered (localCmd 0x22 tag (laneOctet l) []) rest .ok .empty) ∧
           (t.lane l).hold = .run ∧ (t.lane l).stepCount = 0 ∧ s.keeps t l)) ∧
     (s.takes (localCmd 0x23 tag (laneOctet l) []) rest →
       ((s.lane l).hold = .run →
         exec .stepFrame s = .next (s.answered (localCmd 0x23 tag (laneOctet l) []) rest .notHeld .empty)) ∧
       ((s.lane l).hold = .stepping →
         exec .stepFrame s = .next (s.answered (localCmd 0x23 tag (laneOctet l) []) rest .busy .empty)) ∧
       ((s.lane l).hold = .held → s.holdsSettled = true → (s.lane l).armed = false →
         ∃ t : State, exec .stepFrame s = .next (t.answered (localCmd 0x23 tag (laneOctet l) []) rest .ok .empty) ∧
           (t.lane l).hold = .stepping ∧ (t.lane l).stepCount = 0 ∧ (t.lane l).win.isOpen = (s.lane l).win.isOpen ∧
           s.keeps t l))) ∧
  (∀ (s : State) (rest : List CmdRec) (tag : Octet) (l : LaneNo), s.configured = true →
     s.takes (localCmd 0x22 tag (laneOctet l) []) rest → s.counting l = false → s.rxFramed l = true →
     (s.lane l).al.state ≠ .aligned →
     ∃ t : State, exec .resumeLane s = .next (t.answered (localCmd 0x22 tag (laneOctet l) []) rest .ok .empty) ∧
       (s.holdsSettled = true → s.keeps t l) ∧
       ((s.lane l).ck.state = .locked →
         (t.lane l).ck.state = .lost ∧ (t.lane l).ck.lastLoss = .marker ∧ (t.lane l).ck.run = [] ∧
         ((s.lane l).ck.run = [] → (t.lane l).run.counts = (s.lane l).run.counts.addSyncLoss)) ∧
       ((s.lane l).ck.state = .confirm → (t.lane l).ck.state = .hunt ∧ (t.lane l).ck.reason = .waitAlign) ∧
       ((s.lane l).ck.state = .hunt → (t.lane l).ck.state = .hunt ∧ (t.lane l).ck.reason = .waitAlign) ∧
       ((s.lane l).ck.state = .off ∨ (s.lane l).ck.state = .lost → (t.lane l).ck = (s.lane l).ck))

/-! ### Context records -/

/-- A context record read from its 22 blocks is the record of which they were made (R144), for counts within the caps; and a
record that the part forms of a lane passes the seven checks (R149). -/
def Obligations.ContextRecordRoundTrip : Prop :=
  (∀ (s : State) (l : LaneNo),
     (s.lane l).run.counts.goodOthers = true → (s.lane l).run.counts.bits ≤ capBits →
     (s.lane l).win.counts.goodOthers = true → (s.lane l).win.counts.bits ≤ capBits →
     (s.lane l).win.frames ≤ 4294967295 → (s.lane l).win.ticks ≤ 4294967295 →
     (s.contextOf l).blocks.length = 22 ∧ readContext (s.contextOf l).blocks = s.contextOf l) ∧
  (∀ (s : State) (l : LaneNo),
     (s.lane l).run.counts.sound = true → (s.lane l).run.counts.goodOthers = true →
     (s.lane l).win.counts.sound = true → (s.lane l).win.counts.goodOthers = true →
     (s.contextOf l).failed = none)

/-- SNAPSHOT_CONTEXT (R146) and SAVE_CONTEXT (R147) of a lane that has no job; and the wait of a lane that has one (R145, R100):
the command acts when the lane's last job has completed, and no further command is taken meanwhile. -/
def Obligations.ContextCommandsAnswered : Prop :=
  (∀ (s : State) (rest : List CmdRec) (tag : Octet) (l : LaneNo), s.configured = true → s.hasJob l = false →
     (s.takes (localCmd 0x25 tag (laneOctet l) []) rest →
       exec .snapshotContext s = .next
         (s.answered (localCmd 0x25 tag (laneOctet l) []) rest .ok (.context (s.contextOf l)))) ∧
     (s.takes (localCmd 0x24 tag (laneOctet l) []) rest →
       ∃ t : State, exec .saveContext s =
           .next (t.answered (localCmd 0x24 tag (laneOctet l) []) rest .ok (.context (s.contextOf l))) ∧
         (t.lane l).run.counts = Counts.zero ∧ (t.lane l).run.startTick = s.tick ∧
         (t.lane l).alarm = .clear ∧ (t.lane l).alarmKnown = false ∧ (t.lane l).hist = (s.lane l).hist ∧
         (t.lane l).tx = (s.lane l).tx ∧ (t.lane l).al = (s.lane l).al ∧ s.keeps t l ∧
         ((s.lane l).ck.state = .off →
           (t.lane l).ck = (s.lane l).ck ∧ (t.lane l).win.isOpen = false ∧
           (t.lane l).win.nextNumber = (s.lane l).win.nextNumber) ∧
         ((s.lane l).ck.state ≠ .off →
           (t.lane l).ck.state = .hunt ∧ (t.lane l).ck.run = [] ∧ (t.lane l).win.isOpen = true ∧
           (t.lane l).win.number = (s.lane l).win.nextNumber ∧ (t.lane l).win.counts = Counts.zero))) ∧
  ((∀ (s : State) (rest : List CmdRec) (tag : Octet) (l : LaneNo), s.configured = true → s.hasJob l = true →
     (s.takes (localCmd 0x24 tag (laneOctet l) []) rest → exec .saveContext s = .next { s with waiting := true }) ∧
     (s.takes (localCmd 0x25 tag (laneOctet l) []) rest → exec .snapshotContext s = .next { s with waiting := true })) ∧
   (∀ (s : State) (rest : List CmdRec) (tag : Octet) (l : LaneNo) (j : Job), s.waiting = true →
     s.cmdQ = localCmd 0x25 tag (laneOctet l) [] :: rest → s.jobs = [j] → j.inputs.isSome = true →
     ∃ t, s.completeJob = t ∧ t.hasJob l = false ∧
       exec .ratioJobComplete s =
         .next { t with
           waiting := false, cmdQ := rest
           egress := t.egress ++ [responseTo (localCmd 0x25 tag (laneOctet l) []) .ok (.context (t.contextOf l))] }) ∧
   (∀ s : State, s.waiting = true → exec .status s = .next s ∧ exec .startTx s = .next s ∧ exec .readLane s = .next s))

/-- RESTORE_CONTEXT of a lane that has no job (R148, R150); that check 7 of R149 judges E's own cap too is log entry 64. -/
def Obligations.RestoreLoadsRecord : Prop :=
  ∀ (s : State) (rest : List CmdRec) (tag : Octet) (l : LaneNo) (body : List Block), s.configured = true →
    s.hasJob l = false → body.length = 22 → s.takes (localCmd 0x26 tag (laneOctet l) body) rest →
    ((s.lane l).hold ≠ .held →
      exec .restoreContext s = .next (s.answered (localCmd 0x26 tag (laneOctet l) body) rest .notHeld .empty)) ∧
    ((s.lane l).hold = .held → (s.lane l).ck.state = .off →
      exec .restoreContext s = .next (s.answered (localCmd 0x26 tag (laneOctet l) body) rest .badTarget .empty)) ∧
    ((s.lane l).hold = .held → (s.lane l).ck.state ≠ .off → ∀ n, (readContext body).failed = some n →
      exec .restoreContext s =
        .next (s.answered (localCmd 0x26 tag (laneOctet l) body) rest .badField (.failedCheck n))) ∧
    ((s.lane l).hold = .held → (s.lane l).ck.state ≠ .off → (readContext body).failed = none →
      ∃ t : State, exec .restoreContext s = .next (t.answered (localCmd 0x26 tag (laneOctet l) body) rest .ok .empty) ∧
        (t.lane l).ck.state = .hunt ∧ (t.lane l).ck.run = [] ∧
        (t.lane l).run.counts.list = (readContext body).run.list ∧ (t.lane l).run.startTick = s.tick ∧
        ((readContext body).runSat = true → (t.lane l).run.counts.sat = true) ∧
        (t.lane l).win.isOpen = decide ((readContext body).winPresent ≠ 0) ∧
        ((readContext body).winPresent ≠ 0 →
          (t.lane l).win.number = (readContext body).number ∧
          (t.lane l).win.nextNumber = (readContext body).number + 1 ∧
          (t.lane l).win.counts.list = (readContext body).win.list ∧
          (t.lane l).win.frames = (readContext body).frames ∧ (t.lane l).win.ticks = (readContext body).ticks ∧
          (t.lane l).win.suspect = (readContext body).winSuspect ∧ (t.lane l).win.openTick = s.tick) ∧
        ((readContext body).winPresent = 0 → (t.lane l).win.nextNumber = (readContext body).number) ∧
        (t.lane l).alarm.code = (readContext body).alarm ∧ (t.lane l).alarmKnown = true ∧
        (t.lane l).hold = .held ∧ (t.lane l).hist = (s.lane l).hist ∧ (t.lane l).tx = (s.lane l).tx ∧
        (t.lane l).al = (s.lane l).al ∧ s.keeps t l)

/-! ### Far-end management channel -/

/-- SEND_PEER (R156) and SET_SUPERVISOR (R164). -/
def Obligations.PeerAndSupervisorCommands : Prop :=
  ∀ (s : State) (rest : List CmdRec) (tag target : Octet) (body : List Block), s.configured = true → body ≠ [] →
    (∀ a : PeerArg, s.takes (localCmd 0x27 tag target body) rest →
      (a.kind ≠ 1 → a.kind ≠ 3 → a.kind ≠ 4 →
        exec (.sendPeer (.params a)) s = .next (s.answered (localCmd 0x27 tag target body) rest .badField .empty)) ∧
      (a.kind = 1 ∨ a.kind = 3 ∨ a.kind = 4 →
        (59 < a.body.length →
          exec (.sendPeer (.params a)) s =
            .next (s.answered (localCmd 0x27 tag target body) rest .badLength .empty)) ∧
        (a.body.length ≤ 59 → 4 ≤ s.link.outbound.length →
          exec (.sendPeer (.params a)) s = .next (s.answered (localCmd 0x27 tag target body) rest .busy .empty)) ∧
        (a.body.length ≤ 59 → s.link.outbound.length < 4 →
          exec (.sendPeer (.params a)) s = .next (State.answered
            { s with link := { s.link with
              outbound := s.link.outbound ++ [⟨BitVec.ofNat 8 a.kind, a.code, a.tag, a.target, a.body⟩] } }
            (localCmd 0x27 tag target body) rest .ok .empty)))) ∧
    (∀ (a : SupervisorArg) (c : ChanSettings), s.chan = some c → s.takes (localCmd 0x28 tag target body) rest →
      (a.action = none ∨ 65535 < a.period →
        exec (.setSupervisor (.params a)) s =
          .next (s.answered (localCmd 0x28 tag target body) rest .badField .empty)) ∧
      (∀ act, a.action = some act → a.period ≤ 65535 →
        (a.period = c.period →
          exec (.setSupervisor (.params a)) s = .next (State.answered { s with chan := some { c with action := act } }
            (localCmd 0x28 tag target body) rest .ok .empty)) ∧
        (a.period ≠ c.period →
          exec (.setSupervisor (.params a)) s = .next (State.answered
            { s with chan := some { c with action := act, period := a.period }, sup := { s.sup with ticks := 0 } }.settleSup
            (localCmd 0x28 tag target body) rest .ok .empty))))

/-- SUPERVISOR_EXPIRY (R162, R163): ARMED, then WARNED with its notice and record, then the configured action, which is NONE
from then on; and an inactive supervisor is cleared. The row is the count's last advance alone, from one short of P (log
entry 6: the model's choice). -/
def Obligations.SupervisorExpiriesEscalate : Prop :=
  (∀ (s : State) (c : ChanSettings), s.chan = some c → s.supActive = true → c.period ≤ s.sup.ticks + 1 →
     s.holdsSettled = true →
     (s.sup.armed = false →
       exec .supervisorExpiry s = .next { s with sup := { s.sup with ticks := 0, armed := true } }) ∧
     (s.sup.armed = true → s.sup.warned = false → s.egress.length ≤ 11 → s.link.outbound.length < 4 →
       exec .supervisorExpiry s = .next { s with
         sup := { s.sup with ticks := 0, warned := true }
         egress := s.egress ++ [noticeRec (.supervisorWarning s.remoteEntries c.action s.tick)]
         link := { s.link with outbound := s.link.outbound ++
           [⟨3, 0x8A, 0, 0,
             [BitVec.ofNat 8 s.remoteEntries, match c.action with
               | .none => 0
               | .release => 1
               | .hold => 2,
               s.tick.extractLsb' 0 8, s.tick.extractLsb' 8 8, s.tick.extractLsb' 16 8, s.tick.extractLsb' 24 8]⟩] } }) ∧
     (s.sup.armed = true → s.sup.warned = true →
       ∃ t : State, exec .supervisorExpiry s = .next t ∧ t.chan = some { c with action := .none } ∧
         t.sup.last = some (c.action, s.tick) ∧ t.sup.ticks = 0 ∧ t.sup.armed = false ∧ t.sup.warned = false ∧
         ({ t with chan := s.chan, sup := s.sup } : State).fixed = s.fixed ∧
         (c.action = .none → ∀ l, (t.lane l).remote = (s.lane l).remote) ∧
         (c.action = .release → ∀ l,
           (t.lane l).remote = ⟨none, false, false⟩ ∧
           ((s.lane l).remote.rxStarted = true → (t.lane l).ck.state = .off) ∧
           (∀ m, (s.lane l).remote.echoSet = some m → (t.lane l).tx.pendMode = some m) ∧
           ((s.lane l).remote.txStarted = true → (s.lane l).tx.state = .running → (t.lane l).tx.pendStop = true)) ∧
         (c.action = .hold → ∀ l,
           (t.lane l).remote = (s.lane l).remote ∧
           ((s.lane l).remote.any = true → (s.lane l).hold = .run → (t.lane l).hold = .held)))) ∧
  (∀ s : State,
     (s.supActive = true → s.settleSup = s) ∧
     (s.supActive = false →
       s.settleSup = { s with sup := { s.sup with ticks := 0, armed := false, warned := false } }))

/-- The marker channel at a received block (R154, R157 to R159): it enters UP when the management lane's aligner enters ALIGNED and
leaves UP at a marker loss, with a notice for a partial record (before any of the lane's group: the model's choice, log entry 46);
a good marker taken on the management lane while UP acknowledges
the held octet, then gives its own octet (that order by log entry 25); no other block touches it. In HANDSHAKE mode an octet is
taken when its toggle differs from the last one taken, so the same marker again gives nothing. R155: the inbound assembly, octet
by octet; the octets of a record make the record. R160: a permitted PEER_COMMAND joins the command queue with origin REMOTE, or
is answered BUSY; one that is not permitted is answered DENIED; a PEER_KEEPALIVE does nothing but show that the far end is alive
(R162). -/
def Obligations.InboundOctetsAndRecords : Prop :=
  (∀ (s : State) (l : LaneNo) (b : Block), ∃ t : State, exec (.receiveBlock l b) s = .next t ∧
     (s.takesMarker l b = false → s.losesMarkers l b = false → t.link = s.link ∧ t.cmdQ = s.cmdQ ∧ t.sup = s.sup) ∧
     (s.isMgmt l = false → t.link = s.link ∧ t.cmdQ = s.cmdQ ∧ t.sup = s.sup) ∧
     (s.takesMarker l b = true → (s.lane l).al.state = .aligned → s.link.up = false → t.link = s.link) ∧
     (s.takesMarker l b = true → (s.lane l).al.state = .trial → s.link.up = false → s.remoteEnable = false →
       t.link = s.link) ∧
     (s.takesMarker l b = true → s.isMgmt l = true → s.link.up = true →
       t.link = ((s.ackOctet (readMarker b)).takeOctet (readMarker b)).link ∧
       t.cmdQ = ((s.ackOctet (readMarker b)).takeOctet (readMarker b)).cmdQ ∧
       t.sup = ((s.ackOctet (readMarker b)).takeOctet (readMarker b)).sup) ∧
     (∀ u : State, s.takesMarker l b = true → (s.lane l).al.state = .trial → s.isMgmt l = true → s.remoteEnable = true →
       s.link.up = false →
       u = { s with link := { s.link with
         up := true, sendToggle := false, sendIdx := 0, lastTaken := true, resume := false, asm := [], skipping := false } } →
       t.link = ((u.ackOctet (readMarker b)).takeOctet (readMarker b)).link ∧ t.link.up = true) ∧
     (s.losesMarkers l b = true → s.isMgmt l = true → s.link.up = true →
       t.link = { s.link with up := false, sendIdx := 0, asm := [], skipping := false } ∧
       ((s.lane l).ck.state = .off → s.link.asm ≠ [] → s.egress.length ≤ 11 →
         ∃ more, t.egress = s.egress ++ noticeRec (.protocolFault .channelDown none) :: more))) ∧
  (∀ (s : State) (m : Marker),
     (s.link.up = true → s.handshake = true → m.resume = true → m.resumeToggle = s.link.sendToggle →
       ∀ r rest, s.link.outbound = r :: rest →
         (s.link.sendIdx + 1 < r.octets.length →
           s.ackOctet m = { s with link := { s.link with
             sendIdx := s.link.sendIdx + 1, sendToggle := !s.link.sendToggle } }) ∧
         (r.octets.length ≤ s.link.sendIdx + 1 →
           s.ackOctet m = { s with link := { s.link with
             outbound := rest, sendIdx := 0, sendToggle := !s.link.sendToggle } })) ∧
     (s.handshake = false ∨ m.resume = false ∨ m.resumeToggle ≠ s.link.sendToggle ∨ s.link.outbound = [] →
       s.ackOctet m = s) ∧
     (s.handshake = true →
       (m.word = true → m.toggle ≠ s.link.lastTaken →
         s.takeOctet m = State.assemble { s with link := { s.link with lastTaken := m.toggle, resume := true } }
           m.octet m.recordEnd) ∧
       (m.word = false ∨ m.toggle = s.link.lastTaken → s.takeOctet m = s) ∧
       (s.takeOctet m).takeOctet m = s.takeOctet m) ∧
     (s.handshake = false →
       (m.word = true → s.takeOctet m = s.assemble m.octet m.recordEnd) ∧ (m.word = false → s.takeOctet m = s))) ∧
  (∀ (s : State) (o : Octet),
     (s.link.skipping = true →
       s.assemble o false = s ∧
       s.assemble o true = { s with link := { s.link with skipping := false, asm := [] } }) ∧
     (s.link.skipping = false → ∀ (a : List Octet) (n : Nat), a = s.link.asm ++ [o] → n = (a.getD 3 0).toNat →
       (5 ≤ a.length → a.length = 5 + n → n ≤ 59 →
         (1 ≤ (a.getD 0 0).toNat ∧ (a.getD 0 0).toNat ≤ 4 →
           s.assemble o true = State.inboundRecord { s with link := { s.link with asm := [] } }
             ⟨a.getD 0 0, a.getD 1 0, a.getD 2 0, a.getD 4 0, a.drop 5⟩) ∧
         ((a.getD 0 0).toNat = 0 ∨ 4 < (a.getD 0 0).toNat →
           s.assemble o true = State.notify { s with link := { s.link with asm := [] } }
             (.protocolFault .channelFormat none))) ∧
       (a.length < 5 ∨ a.length ≠ 5 + n ∨ 59 < n →
         s.assemble o true = State.notify { s with link := { s.link with asm := [] } }
           (.protocolFault .channelFormat none)) ∧
       ((5 ≤ a.length ∧ a.length = 5 + n) ∨ (a.length = 4 ∧ 59 < n) →
         s.assemble o false = State.notify { s with link := { s.link with asm := [], skipping := true } }
           (.protocolFault .channelFormat none)) ∧
       ((a.length < 5 ∨ a.length ≠ 5 + n) → (a.length ≠ 4 ∨ n ≤ 59) →
         s.assemble o false = { s with link := { s.link with asm := a } })) ∧
     (∀ r : PeerRec, s.link.skipping = false → s.link.asm = [] → r.body.length ≤ 59 →
       1 ≤ r.kind.toNat → r.kind.toNat ≤ 4 → r.octets.getLast? = some o →
       (r.octets.dropLast.foldl (fun u x => u.assemble x false) s).assemble o true = s.inboundRecord r)) ∧
  (∀ (s : State) (r : PeerRec), ∃ t, s.inboundRecord r = t ∧
     t.sup.armed = false ∧ t.sup.warned = false ∧ t.sup.ticks = s.sup.ticks ∧ t.lanes = s.lanes ∧ t.groups = s.groups ∧
     ({ t with link := s.link, sup := s.sup, cmdQ := s.cmdQ } : State).fixed = s.fixed ∧
     (r.kind = 1 → r.code ∈ s.permit → s.cmdQ.length < 8 →
       t.cmdQ = s.cmdQ ++ [⟨.remote, r.code, r.tag, r.target, 0, 0, packOctets 8 r.body⟩] ∧ t.link = s.link ∧
       t.egress = s.egress) ∧
     (r.kind = 1 → r.code ∈ s.permit → 8 ≤ s.cmdQ.length → s.link.outbound.length < 4 →
       t.cmdQ = s.cmdQ ∧ t.link.outbound = s.link.outbound ++ [⟨2, r.code, r.tag, 1, []⟩]) ∧
     (r.kind = 1 → r.code ∉ s.permit → s.link.outbound.length < 4 →
       t.cmdQ = s.cmdQ ∧ t.link.outbound = s.link.outbound ++ [⟨2, r.code, r.tag, 7, []⟩]) ∧
     (r.kind = 4 → t = { s with sup := { s.sup with armed := false, warned := false } }) ∧
     (r.kind = 2 ∨ r.kind = 3 → s.egress.length ≤ 11 →
       t.egress = s.egress ++ [noticeRec (.peerRecord r)] ∧ t.cmdQ = s.cmdQ ∧ t.link = s.link))

/-! ### Tables -/

/-- WRITE_ENTRY of a lane map entry (R60): its refusals, and the entry written with the identity condition cleared and a
checker that is not OFF forced into HUNT; and the written values that are taken: two ids of 0..7, and a follow and a group
value of their kinds (R59). -/
def Obligations.LaneMapEntryWritten : Prop :=
  (∀ (a : LaneMapArg) (e : LaneMapEntry), LaneMapArg.entry a = some e ↔
    a.txId = e.txId.val ∧ a.rxId = e.rxId.val ∧ a.follow = some e.follow ∧ a.group = some e.group) ∧
  ∀ (s : State) (rest : List CmdRec) (tag : Octet) (body : List Block) (l : LaneNo) (a : LaneMapArg),
    s.configured = true → body ≠ [] → s.takes (localCmd 0x05 tag 0 body) rest →
    (LaneMapArg.entry a = none →
      exec (.writeLaneMapEntry (.params ⟨l.val, a⟩)) s =
        .next (s.answered (localCmd 0x05 tag 0 body) rest .badField .empty)) ∧
    (∀ i, 7 < i → exec (.writeLaneMapEntry (.params ⟨i, a⟩)) s =
      .next (s.answered (localCmd 0x05 tag 0 body) rest .badField .empty)) ∧
    (∀ e, LaneMapArg.entry a = some e →
      ((s.lane l).tx.state = .running ∨ ((s.lane l).ck.state ≠ .off ∧ (s.lane l).hold ≠ .held) →
        exec (.writeLaneMapEntry (.params ⟨l.val, a⟩)) s =
          .next (s.answered (localCmd 0x05 tag 0 body) rest .notHeld .empty)) ∧
      ((s.lane l).tx.state = .idle → (s.lane l).ck.state = .off → (s.map l).group = e.group →
        exec (.writeLaneMapEntry (.params ⟨l.val, a⟩)) s = .next (State.answered
          { s.putLane l { s.lane l with idm := none } with laneMap := s.laneMap.set l (some e) }
          (localCmd 0x05 tag 0 body) rest .ok .empty)) ∧
      ((s.lane l).tx.state = .idle → (s.lane l).ck.state = .off ∨ (s.lane l).hold = .held →
        ((s.map l).group ≠ e.group → s.groupOpen (s.map l).group = true ∨ s.groupOpen e.group = true →
          exec (.writeLaneMapEntry (.params ⟨l.val, a⟩)) s =
            .next (s.answered (localCmd 0x05 tag 0 body) rest .busy .empty)) ∧
        ((s.map l).group = e.group ∨ (s.groupOpen (s.map l).group = false ∧ s.groupOpen e.group = false) →
          ∃ t : State, exec (.writeLaneMapEntry (.params ⟨l.val, a⟩)) s =
              .next (t.answered (localCmd 0x05 tag 0 body) rest .ok .empty) ∧
            t.laneMap = s.laneMap.set l (some e) ∧ s.keeps { t with laneMap := s.laneMap } l ∧ (t.lane l).idm = none ∧
            (t.lane l).tx = (s.lane l).tx ∧ (t.lane l).al = (s.lane l).al ∧
            ((s.map l).group ≠ e.group → (t.lane l).mem.contributing = false) ∧
            ((s.lane l).ck.state = .off → (t.lane l).ck = (s.lane l).ck) ∧
            ((s.lane l).ck.state ≠ .off → (t.lane l).ck.state = .hunt ∧ (t.lane l).ck.run = []))))

/-- WRITE_ENTRY of a lane descriptor (R142, R143): refused with a value out of its range or on a lane that checks unheld; else
stored, with the armed flag by its trigger; a changed framing resets the aligner, PASS stops the checker, and any other mode
puts it in HUNT; a group learns of the write of an OFF lane only where its aligner leaves ALIGNED (R66). And which written values are taken, with their clamps and ranges (the refusal of a frame sequence above its range,
and of a trigger or a window spec of no named kind, is the model's, log entry 63). -/
def Obligations.LaneDescriptorWritten : Prop :=
  (∀ (s : State) (rest : List CmdRec) (tag : Octet) (body : List Block) (l : LaneNo) (a : LaneDescArg),
     s.configured = true → body ≠ [] → s.takes (localCmd 0x05 tag 1 body) rest →
     (LaneDescArg.entry a = none →
       exec (.writeLaneDescriptor (.params ⟨l.val, a⟩)) s =
         .next (s.answered (localCmd 0x05 tag 1 body) rest .badField .empty)) ∧
     (∀ e, LaneDescArg.entry a = some e →
       ((s.lane l).ck.state ≠ .off → (s.lane l).hold ≠ .held →
         exec (.writeLaneDescriptor (.params ⟨l.val, a⟩)) s =
           .next (s.answered (localCmd 0x05 tag 1 body) rest .notHeld .empty)) ∧
       ((s.lane l).ck.state = .off ∨ (s.lane l).hold = .held →
         ∃ t : State, exec (.writeLaneDescriptor (.params ⟨l.val, a⟩)) s =
             .next (t.answered (localCmd 0x05 tag 1 body) rest .ok .empty) ∧
           t.laneDesc = s.laneDesc.set l (some e) ∧ (t.lane l).tx = (s.lane l).tx ∧
           (s.holdsSettled = true → s.keeps { t with laneDesc := s.laneDesc, link := s.link, sup := s.sup } l) ∧
           ((s.lane l).ck.state = .off →
             (t.lane l).ck.state = .off ∧ (t.lane l).armed = decide (e.trigger ≠ .none)) ∧
           ((s.laneDesc.get l).map LaneDesc.framing = some e.framing → (t.lane l).al = (s.lane l).al) ∧
           ((s.laneDesc.get l).map LaneDesc.framing ≠ some e.framing → (t.lane l).al = Aligner.reset) ∧
           (s.holdsSettled = true → (s.lane l).ck.state = .off →
             (s.laneDesc.get l).map LaneDesc.framing = some e.framing ∨ (s.lane l).al.state ≠ .aligned → t.groups = s.groups) ∧
           ((s.lane l).ck.state ≠ .off → e.rxMode = .pass →
             (t.lane l).ck.state = .off ∧ (t.lane l).win.isOpen = false ∧ (t.lane l).remote.rxStarted = false) ∧
           ((s.lane l).ck.state ≠ .off → e.rxMode ≠ .pass → (t.lane l).ck.state = .hunt ∧ (t.lane l).ck.run = [])))) ∧
  (∀ (a : LaneDescArg) (e : LaneDesc), LaneDescArg.entry a = some e ↔
     e.confirm = max a.confirm 1 ∧ a.confirm ≤ 15 ∧ e.lossRun = max a.lossRun 1 ∧ a.lossRun ≤ 15 ∧
     e.heavy = min (max a.heavy 1) 64 ∧ a.framing = some e.framing ∧ a.rxMode = some e.rxMode ∧
     a.autoResync = some e.autoResync ∧ a.countHeld = some e.countHeld ∧ a.policy = some e.policy ∧
     a.trigger = some e.trigger ∧ a.action = some e.action ∧ a.spec = some e.spec ∧ a.rep = some e.rep ∧
     a.profile = e.profile.val ∧ a.notices = some e.notices ∧
     (∀ n, e.trigger = .blockAtLeast n → 1 ≤ n ∧ n ≤ 64) ∧ (∀ n, e.trigger = .frameSeq n → n ≤ 65535) ∧
     (∀ n, e.spec = .frames n → 1 ≤ n ∧ n ≤ 65535) ∧ (∀ n, e.spec = .ticks n → 1 ≤ n ∧ n ≤ 16777215))

/-- WRITE_ENTRY of a pattern descriptor (R18, R19), and which written values are taken: every PRBS kind with any seed, and a USER
kind whose segment lies in pattern memory. -/
def Obligations.PatternDescriptorWritten : Prop :=
  ∀ (s : State) (rest : List CmdRec) (tag : Octet) (body : List Block) (d : LaneNo) (a : PatDescArg),
    s.configured = true → body ≠ [] → s.takes (localCmd 0x05 tag 2 body) rest →
    (a.kind = none →
      exec (.writePatternDescriptor (.params ⟨d.val, a⟩)) s =
        .next (s.answered (localCmd 0x05 tag 2 body) rest .badField .empty)) ∧
    (a.kind = some .user → 4095 < a.start ∨ a.len = 0 ∨ 4096 < a.len ∨ 4096 < a.start + a.len →
      exec (.writePatternDescriptor (.params ⟨d.val, a⟩)) s =
        .next (s.answered (localCmd 0x05 tag 2 body) rest .badField .empty)) ∧
    (∀ e, PatDescArg.entry a = some e →
      (∃ l, ((s.lane l).tx.state = .running ∧ (s.lane l).tx.mode = .pattern ∧ (s.map l).txId = d) ∨
          ((s.lane l).ck.state ≠ .off ∧ (s.lane l).hold ≠ .held ∧ (s.map l).rxId = d)) →
        exec (.writePatternDescriptor (.params ⟨d.val, a⟩)) s =
          .next (s.answered (localCmd 0x05 tag 2 body) rest .notHeld .empty)) ∧
    (∀ e, PatDescArg.entry a = some e →
      (∀ l, ¬((s.lane l).tx.state = .running ∧ (s.lane l).tx.mode = .pattern ∧ (s.map l).txId = d) ∧
        ((s.map l).rxId ≠ d ∨ (s.lane l).ck.state = .off ∨ (s.lane l).hold = .held)) →
      ∃ t : State, exec (.writePatternDescriptor (.params ⟨d.val, a⟩)) s =
          .next (t.answered (localCmd 0x05 tag 2 body) rest .ok .empty) ∧
        t.patDesc = s.patDesc.set d (some e) ∧ ({ t with patDesc := s.patDesc } : State).fixed = s.fixed ∧
        (∀ l, (s.lane l).ck.state = .off ∨ (s.map l).rxId ≠ d → (t.lane l).still = (s.lane l).still) ∧
        (∀ l, (s.lane l).ck.state ≠ .off → (s.map l).rxId = d → (t.lane l).ck.state = .hunt)) ∧
    (∀ e k, PatDescArg.entry a = some e → a.kind = some k → k ≠ .user →
      e.kind = k ∧ e.invert = a.invert ∧
      e.seed = if a.seed % 2 ^ patOrder k = 0 then 2 ^ patOrder k - 1 else a.seed % 2 ^ patOrder k) ∧
    (a.kind = none → PatDescArg.entry a = none) ∧
    (∀ k, a.kind = some k → k ≠ .user → ∃ e, PatDescArg.entry a = some e) ∧
    (a.kind = some .user →
      ((∃ e, PatDescArg.entry a = some e) ↔ a.start ≤ 4095 ∧ 1 ≤ a.len ∧ a.len ≤ 4096 ∧ a.start + a.len ≤ 4096) ∧
      ∀ e, PatDescArg.entry a = some e →
        e.kind = .user ∧ e.invert = a.invert ∧ e.start = a.start ∧ e.len = a.len)

/-- WRITE_ENTRY of a pattern memory entry (R23), and CLEAR_MEMORY_FAULT (R26). -/
def Obligations.PatternMemoryWritten : Prop :=
  (∀ (s : State) (rest : List CmdRec) (tag : Octet) (body : List Block) (i : Nat) (b : Block),
    s.configured = true → body ≠ [] → s.takes (localCmd 0x05 tag 3 body) rest →
    (4095 < i →
      exec (.writePatternMemory (.params ⟨i, b⟩)) s =
        .next (s.answered (localCmd 0x05 tag 3 body) rest .badField .empty)) ∧
    (i ≤ 4095 →
      ((∃ l, (s.sendsPattern l = true ∧ (s.txPat l).holds i = true) ∨
          (s.checksUnheld l = true ∧ (s.rxPat l).holds i = true)) →
        exec (.writePatternMemory (.params ⟨i, b⟩)) s =
          .next (s.answered (localCmd 0x05 tag 3 body) rest .notHeld .empty)) ∧
      ((∀ l, (s.sendsPattern l = false ∨ (s.txPat l).holds i = false) ∧
          (s.checksUnheld l = false ∨ (s.rxPat l).holds i = false)) → PatMem.wf s.patMem = true →
        ∃ m, exec (.writePatternMemory (.params ⟨i, b⟩)) s = .next (State.answered { s with patMem := m }
            (localCmd 0x05 tag 3 body) rest .ok .empty) ∧
          PatMem.wf m = true ∧ ∀ k, patRead m k = if k = i then ⟨b, true⟩ else patRead s.patMem k))) ∧
  (∀ (s : State) (rest : List CmdRec) (tag target : Octet), s.takes (localCmd 0x07 tag target []) rest →
    (∀ k : BankNo, target = fourOctet k →
      exec .clearMemoryFault s = .next (State.answered { s with memFault := s.memFault.set k false }
        (localCmd 0x07 tag target []) rest .ok .empty)) ∧
    (target = 4 →
      exec .clearMemoryFault s = .next (State.answered { s with memFault := Four.all false }
        (localCmd 0x07 tag target []) rest .ok .empty)) ∧
    (4 < target.toNat →
      exec .clearMemoryFault s = .next (s.answered (localCmd 0x07 tag target []) rest .badTarget .empty)))

/-- WRITE_ENTRY of a schedule entry (R119), of a confidence table entry (R103) and of the remote permit set (R153). -/
def Obligations.PlainTablesWritten : Prop :=
  (∀ (s : State) (rest : List CmdRec) (tag : Octet) (body : List Block), s.configured = true → body ≠ [] →
     (∀ (i : Nat) (e : SchedArg), s.takes (localCmd 0x05 tag 4 body) rest →
       (63 < i ∨ 65535 < e.gap ∨ e.blocks = 0 ∨ 255 < e.blocks ∨ e.bits = 0 ∨ 64 < e.bits ∨ 63 < e.pos →
         exec (.writeScheduleEntry (.params ⟨i, e⟩)) s =
           .next (s.answered (localCmd 0x05 tag 4 body) rest .badField .empty)) ∧
       (∀ h : i < 64, e.gap ≤ 65535 → 1 ≤ e.blocks → e.blocks ≤ 255 → 1 ≤ e.bits → e.bits ≤ 64 → e.pos ≤ 63 →
         ((∃ c p, (s.inj.get c).state ≠ .idle ∧ (s.inj.get c).settings = some p ∧ p.schedFirst ≤ i ∧ i ≤ p.schedLast) →
           exec (.writeScheduleEntry (.params ⟨i, e⟩)) s =
             .next (s.answered (localCmd 0x05 tag 4 body) rest .busy .empty)) ∧
         ((∀ c p, (s.inj.get c).settings = some p →
             (s.inj.get c).state = .idle ∨ i < p.schedFirst ∨ p.schedLast < i) →
           exec (.writeScheduleEntry (.params ⟨i, e⟩)) s = .next (State.answered
             { s with sched := s.sched.set i (some e) h } (localCmd 0x05 tag 4 body) rest .ok .empty)))) ∧
     (∀ (i u : Nat), s.takes (localCmd 0x05 tag 5 body) rest →
       (31 < i ∨ 65535 < u →
         exec (.writeConfidenceEntry (.params ⟨i, u⟩)) s =
           .next (s.answered (localCmd 0x05 tag 5 body) rest .badField .empty)) ∧
       (∀ h : i < 32, u ≤ 65535 →
         exec (.writeConfidenceEntry (.params ⟨i, u⟩)) s = .next (State.answered
           { s with conf := s.conf.set i (some u) h } (localCmd 0x05 tag 5 body) rest .ok .empty)))) ∧
  (∀ (s : State) (rest : List CmdRec) (tag : Octet) (body : List Block) (cs : List Octet), s.configured = true →
     body ≠ [] → s.takes (localCmd 0x05 tag 9 body) rest →
     ((∃ c ∈ cs, c = 0 ∨ 0x28 < c.toNat ∨ c ∈ [(0x02 : Octet), 0x03, 0x05, 0x26, 0x27, 0x28]) ∨
         16 < cs.toFinset.card →
       exec (.writePermitSet (.params ⟨0, cs⟩)) s =
         .next (s.answered (localCmd 0x05 tag 9 body) rest .badField .empty)) ∧
     ((∀ c ∈ cs, c ≠ 0 ∧ c.toNat ≤ 0x28 ∧ c ∉ [(0x02 : Octet), 0x03, 0x05, 0x26, 0x27, 0x28]) →
       cs.toFinset.card ≤ 16 →
       ∃ e : List Octet, exec (.writePermitSet (.params ⟨0, cs⟩)) s = .next (State.answered { s with permit := e }
           (localCmd 0x05 tag 9 body) rest .ok .empty) ∧
         e.Nodup ∧ e.length ≤ 16 ∧ ∀ c, c ∈ e ↔ c ∈ cs))

/-- WRITE_ENTRY of an alarm profile (R107) and of a group descriptor (R70); the index of a group's entry is the model's
reading (log entry 23). -/
def Obligations.ProfileAndGroupDescriptorWritten : Prop :=
  ∀ (s : State) (rest : List CmdRec) (tag : Octet) (body : List Block), s.configured = true → body ≠ [] →
    (∀ (i : Fin 4) (a : ProfileArg), s.takes (localCmd 0x05 tag 6 body) rest →
      ((∀ d ∈ [a.degradeSet, a.degradeClear, a.failSet, a.failClear, a.target],
          100 ≤ d.m ∧ d.m ≤ 999 ∧ d.x ≤ 19) →
        a.degradeClear.m * 10 ^ a.degradeSet.x ≤ a.degradeSet.m * 10 ^ a.degradeClear.x →
        a.degradeSet.m * 10 ^ a.failSet.x ≤ a.failSet.m * 10 ^ a.degradeSet.x →
        a.degradeClear.m * 10 ^ a.failClear.x ≤ a.failClear.m * 10 ^ a.degradeClear.x →
        a.failClear.m * 10 ^ a.failSet.x ≤ a.failSet.m * 10 ^ a.failClear.x →
        exec (.writeAlarmProfile (.params ⟨i.val, a⟩)) s = .next (State.answered
          { s with profiles := s.profiles.set i (some a) } (localCmd 0x05 tag 6 body) rest .ok .empty)) ∧
      ((∃ d ∈ [a.degradeSet, a.degradeClear, a.failSet, a.failClear, a.target],
          d.m < 100 ∨ 999 < d.m ∨ 19 < d.x) ∨
        a.degradeSet.m * 10 ^ a.degradeClear.x < a.degradeClear.m * 10 ^ a.degradeSet.x ∨
        a.failSet.m * 10 ^ a.degradeSet.x < a.degradeSet.m * 10 ^ a.failSet.x ∨
        a.failClear.m * 10 ^ a.degradeClear.x < a.degradeClear.m * 10 ^ a.failClear.x ∨
        a.failSet.m * 10 ^ a.failClear.x < a.failClear.m * 10 ^ a.failSet.x →
        exec (.writeAlarmProfile (.params ⟨i.val, a⟩)) s =
          .next (s.answered (localCmd 0x05 tag 6 body) rest .badField .empty))) ∧
    (∀ (i : Nat) (g : GroupId) (a : GroupDescArg) (sp : WinSpec) (rp nt : Bool) (pr : Fin 4),
      s.takes (localCmd 0x05 tag 7 body) rest → (i = 0 ∧ g = .a) ∨ (i = 1 ∧ g = .b) →
      a.spec = some sp → a.rep = some rp → a.notices = some nt → a.profile = pr.val →
      ((∃ n, sp = .ticks n) ∨ sp = .frames 0 ∨ (∃ n, sp = .frames n ∧ 65535 < n) →
        exec (.writeGroupDescriptor (.params ⟨i, a⟩)) s =
          .next (s.answered (localCmd 0x05 tag 7 body) rest .badField .empty)) ∧
      (sp = .openEnded ∨ (∃ n, sp = .frames n ∧ 1 ≤ n ∧ n ≤ 65535) →
        ((s.group g).win.isSome = true →
          exec (.writeGroupDescriptor (.params ⟨i, a⟩)) s =
            .next (s.answered (localCmd 0x05 tag 7 body) rest .busy .empty)) ∧
        ((s.group g).win = none →
          exec (.writeGroupDescriptor (.params ⟨i, a⟩)) s = .next (State.answered
            { s with groupDesc := s.groupDesc.set g (some ⟨sp, rp, pr, nt⟩) }
            (localCmd 0x05 tag 7 body) rest .ok .empty))))

/-- WRITE_ENTRY of the channel settings (R152, R154, R164); that an out of range value is answered before a full outbound queue is
looked at is the model's choice, log entry 66. -/
def Obligations.ChannelSettingsWritten : Prop :=
  ∀ (s : State) (rest : List CmdRec) (tag : Octet) (body : List Block) (a : ChanArg) (e : ChanSettings),
    s.configured = true → body ≠ [] → s.takes (localCmd 0x05 tag 8 body) rest →
    a.lane = e.lane.val → a.mode = some e.mode → a.enable = some e.enable → a.period = e.period →
    a.action = some e.action →
    (65535 < e.period →
      exec (.writeChannelSettings (.params ⟨0, a⟩)) s =
        .next (s.answered (localCmd 0x05 tag 8 body) rest .badField .empty)) ∧
    (∀ c, s.chan = some c → e.period ≤ 65535 → c.lane ≠ e.lane ∨ c.mode ≠ e.mode → s.link.outbound ≠ [] →
      exec (.writeChannelSettings (.params ⟨0, a⟩)) s =
        .next (s.answered (localCmd 0x05 tag 8 body) rest .busy .empty)) ∧
    (∀ c, s.chan = some c → e.period ≤ 65535 → (c.lane = e.lane ∧ c.mode = e.mode) ∨ s.link.outbound = [] →
      ∃ t : State, exec (.writeChannelSettings (.params ⟨0, a⟩)) s =
          .next (t.answered (localCmd 0x05 tag 8 body) rest .ok .empty) ∧
        t.chan = some e ∧ t.lanes = s.lanes ∧
        ({ t with chan := s.chan, link := s.link, sup := s.sup } : State).fixed = s.fixed ∧
        t.link.outbound = s.link.outbound ∧
        (t.link.up = true ↔ e.enable = true ∧
          ((s.link.up = true ∧ c.lane = e.lane ∧ c.mode = e.mode) ∨ (s.lane e.lane).al.state = .aligned)) ∧
        (c.period ≠ e.period → t.sup.ticks = 0) ∧ (c.period = e.period → t.sup = s.sup))

/-- The group aligner. R66: the leading sequence of a group, and what its move does to ring and window. R65, R67, R68: at a frame
boundary of a member every ALIGNED member's lag and SKEW_EXCESS follow the new leading sequence, with the notice, and the
contributing flags their conditions. R72: a counted block of a contributing member, and the sequences of a span (R71). R69: what
retires, and that an errored block whose entry is not in the ring marks the window incomplete (whatever its frame, log entry 19). R73: when a window closes with
LENGTH, the record, and the repeat opening; no LENGTH close is left due (log entry 18). That a first leading sequence makes three
ring entries is log entry 20. -/
def Obligations.GroupAlignerFollowsMembers : Prop :=
  (∀ (s : State) (g : GroupId),
     (∀ l, l ∈ s.alignedMembers g ↔ s.isMember g l = true ∧ s.aligned l = true) ∧
     (s.alignedMembers g = [] → s.leadingOf g = none) ∧
     (∀ v, (∃ i ∈ s.alignedMembers g, (s.lane i).al.seq = v ∧
           ∀ j ∈ s.alignedMembers g, ahead (s.lane j).al.seq v = false) →
       (∀ i ∈ s.alignedMembers g, (∀ j ∈ s.alignedMembers g, ahead (s.lane j).al.seq (s.lane i).al.seq = false) →
         (s.lane i).al.seq = v) →
       s.leadingOf g = some v) ∧
     (∀ l, l ∈ s.alignedMembers g → (∀ k ∈ s.alignedMembers g, l ≤ k) →
       ((∀ i ∈ s.alignedMembers g, ∃ j ∈ s.alignedMembers g, ahead (s.lane j).al.seq (s.lane i).al.seq = true) ∨
         (∃ i ∈ s.alignedMembers g, ∃ k ∈ s.alignedMembers g, (s.lane i).al.seq ≠ (s.lane k).al.seq ∧
           ∀ j ∈ s.alignedMembers g,
             ahead (s.lane j).al.seq (s.lane i).al.seq = false ∧ ahead (s.lane j).al.seq (s.lane k).al.seq = false)) →
       s.leadingOf g = some (s.lane l).al.seq) ∧
     (∀ v, s.leadingOf g = some v → (s.recompute g).group g = (s.group g).setLeading v) ∧
     (s.leadingOf g = none → (s.recompute g).group g = s.group g)) ∧
  (∀ (gr : Group) (b : FrameSeq),
     (gr.setLeading b).leading = some b ∧
     (gr.leading = some b → (gr.setLeading b).ring = gr.ring) ∧
     (∀ a, gr.leading = some a → ahead b a = true →
       (gr.setLeading b).ring = gr.ring.filter (fun e => decide ((b - e.seq).toNat ≤ 2)) ++
         ([b - 2, b - 1, b].filter (fun q => decide ((b - q).toNat < (b - a).toNat))).map
           (fun q => ⟨q, false, Eight.all false⟩)) ∧
     (gr.leading = none ∨ (∃ a, gr.leading = some a ∧ a ≠ b ∧ ahead b a = false) →
       (gr.setLeading b).ring =
         [⟨b - 2, false, Eight.all false⟩, ⟨b - 1, false, Eight.all false⟩, ⟨b, false, Eight.all false⟩]) ∧
     (gr.win = none → (gr.setLeading b).win = none) ∧
     (∀ w, gr.win = some w → w.s0 = none → (gr.setLeading b).win = some { w with s0 := some b, offset := 0 }) ∧
     (∀ w z a, gr.win = some w → w.s0 = some z → gr.leading = some a →
       ∃ v, (gr.setLeading b).win = some v ∧ v.s0 = some z ∧ v.number = w.number ∧
         v.counts.bits = w.counts.bits ∧ v.counts.errors = w.counts.errors ∧
         (a = b → v = w) ∧
         (ahead b a = true → v.offset = w.offset + (b - a).toNat ∧ v.incomplete = w.incomplete) ∧
         (a ≠ b → ahead b a = false → v.offset = w.offset ∧ v.incomplete = true))) ∧
  (∀ (s u : State) (l : LaneNo) (b : Block) (g : GroupId) (v : FrameSeq), s.memberOf l = some g → s.rxFramed l = true →
     (s.lane l).al.state = .aligned → 127 ≤ (s.lane l).al.pos → goodMarker b = true →
     (readMarker b).id = (s.map l).rxId → (s.lane l).ck.run = [] → (s.lane l).armed = false →
     (s.lane l).hold ≠ .stepping → s.holdsSettled = true →
     u = s.putLane l { s.lane l with al := { (s.lane l).al with seq := (readMarker b).seq } } → u.leadingOf g = some v →
     ∃ t : State, exec (.receiveBlock l b) s = .next t ∧ (t.group g).leading = some v ∧
       (∀ k, s.isMember g k = true → s.aligned k = true →
         (t.lane k).mem.lag = some (v - (u.lane k).al.seq).toNat ∧
         (t.lane k).mem.skew = decide (3 ≤ (v - (u.lane k).al.seq).toNat) ∧
         ((s.group g).win = none →
           (t.lane k).mem.greatestLag = max (s.lane k).mem.greatestLag (v - (u.lane k).al.seq).toNat) ∧
         (3 ≤ (v - (u.lane k).al.seq).toNat → (s.lane k).mem.skew = false → s.egress.length ≤ 3 →
           noticeRec (.skewExcess g k (v - (u.lane k).al.seq).toNat v s.tick) ∈ t.egress) ∧
         ((t.lane k).mem.contributing = true ↔ (k = l ∨ (s.lane k).mem.contributing = true) ∧
           (s.lane k).ck.state = .locked ∧ s.counting k = true ∧ (v - (u.lane k).al.seq).toNat ≤ 2)) ∧
       (∀ k, s.isMember g k = true → s.aligned k = false →
         (t.lane k).mem.lag = none ∧ (t.lane k).mem.skew = false ∧ (t.lane k).mem.contributing = false)) ∧
  (∀ (s : State) (l : LaneNo) (b : Block) (g : GroupId), s.memberOf l = some g → s.rxFramed l = true →
     (s.lane l).al.state = .aligned → (s.lane l).al.pos < 127 → (s.lane l).ck.state = .locked → s.counting l = true →
     (s.lane l).ck.run = [] → (s.lane l).armed = false → s.holdsSettled = true →
     bitErrors b (s.expected l).1 < (s.desc l).heavy →
     ∃ t : State, exec (.receiveBlock l b) s = .next t ∧
       ((s.lane l).mem.contributing = false → t.group g = s.group g) ∧
       ((s.lane l).mem.contributing = true →
         (t.group g).ring = (s.group g).ring.map (fun x =>
           if bitErrors b (s.expected l).1 ≠ 0 ∧ x.seq = (s.lane l).al.seq then { x with errored := true } else x) ∧
         ((s.group g).win = none → (t.group g).win = none) ∧
         (∀ w, (s.group g).win = some w →
           (t.group g).win = some { w with
             counts := if w.inSpan (s.lane l).al.seq then w.counts.addCounted (bitErrors b (s.expected l).1) false else w.counts
             incomplete := w.incomplete ||
               decide (bitErrors b (s.expected l).1 ≠ 0 ∧ ∀ x ∈ (s.group g).ring, x.seq ≠ (s.lane l).al.seq) }))) ∧
  (∀ (w : GWin) (q : FrameSeq),
     (w.s0 = none → w.inSpan q = false) ∧
     (∀ z n, w.s0 = some z → w.spec = .frames n → (w.inSpan q = true ↔ (q - z).toNat < n)) ∧
     (∀ z, w.s0 = some z → w.spec = .openEnded → (w.inSpan q = true ↔ ((q - z).toNat : Int) ≤ w.offset))) ∧
  (∀ (s : State) (g : GroupId),
     ((∃ l, s.isMember g l = true ∧ (s.lane l).mem.contributing = true) →
       ((s.retirePassed g).group g).ring = (s.group g).ring.filter (fun e => decide (∃ l, s.isMember g l = true ∧
         (s.lane l).mem.contributing = true ∧ (e.reported.get l = false ∨ (s.lane l).runHolds e.seq = true)))) ∧
     ((∀ l, s.isMember g l = true → (s.lane l).mem.contributing = false) → s.retirePassed g = s) ∧
     (∀ (w : GWin) (gone : RingEntry → Bool), w.counts.erroredFrames ≤ capFrames →
       ∃ v, (Group.retire { s.group g with win := some w } gone).win = some v ∧
         v.counts.erroredFrames = min capFrames (w.counts.erroredFrames +
           ((s.group g).ring.filter (fun e => gone e && e.errored && w.inSpan e.seq)).length) ∧
         v = { w with counts := { w.counts with erroredFrames := v.counts.erroredFrames, sat := v.counts.sat } })) ∧
  (∀ (s : State) (g : GroupId) (w : GWin), (s.group g).win = some w →
     (s.lengthDue g = true ↔ ∃ z n, w.s0 = some z ∧ w.spec = .frames n ∧ (n : Int) ≤ w.offset ∧
       ∀ l, s.isMember g l = true → (s.lane l).mem.contributing = true →
         w.past.get l = true ∧ (s.lane l).runHolds (z + BitVec.ofNat 16 n - 1) = false) ∧
     (w.spec ≠ .frames 0 → (s.settleGroup g).lengthDue g = false) ∧
     (∀ z n, w.s0 = some z → w.spec = .frames n → 1 ≤ n →
       (∃ r, ((s.closeGroup g .length).group g).hist.getLast? = some r ∧ r.number = w.number ∧ r.reason = .length ∧
         r.frames = n ∧ r.first = some z ∧ r.last = some (z + BitVec.ofNat 16 n - 1) ∧
         r.counts.bits = w.counts.bits ∧ r.counts.errors = w.counts.errors ∧
         r.counts.erroredBlocks = w.counts.erroredBlocks ∧
         (r.incomplete = true ↔ w.incomplete = true ∨ ∃ l, s.isMember g l = true ∧ (s.lane l).mem.whole = false)) ∧
       (w.rep = false → ((s.closeGroup g .length).group g).win = none) ∧
       (w.rep = true → ∃ x, ((s.closeGroup g .length).group g).win = some x ∧
         x.number = (s.group g).nextNumber ∧ x.s0 = some (z + BitVec.ofNat 16 n) ∧ x.offset = w.offset - n ∧
         x.counts = Counts.zero ∧ x.incomplete = false ∧ x.spec = w.spec ∧ x.rep = true ∧ x.openTick = s.tick)))

/-- LOAD_IMAGE (R172): no load while the CONFIGURED part is at work, no load of an unknown table, and the passages that the target
asks for; and the entries of a section written one by one from its first index, as WRITE_ENTRY would: a whole confidence
table, loaded into an UNCONFIGURED part. -/
def Obligations.LoadImagePassages : Prop :=
  (∀ (s : State) (rest : List CmdRec) (tag : Octet) (body : List Block) (xs : List ImageSection), body ≠ [] →
     (∀ n : Fin 3, s.takes (localCmd 0x03 tag (BitVec.ofNat 8 n.val) body) rest →
       (s.configured = true → s.atWork = true →
         exec (.loadImage (.params xs)) s =
           .next (s.answered (localCmd 0x03 tag (BitVec.ofNat 8 n.val) body) rest .busy .empty)) ∧
       (s.configured = false ∨ s.atWork = false →
         (xs.all ImageSection.known = false →
           exec (.loadImage (.params xs)) s =
             .next (s.answered (localCmd 0x03 tag (BitVec.ofNat 8 n.val) body) rest .badLength .empty)) ∧
         (xs.all ImageSection.known = true →
           ∃ (t : State) (st : Status) (b : Body), exec (.loadImage (.params xs)) s =
               .next (t.answered (localCmd 0x03 tag (BitVec.ofNat 8 n.val) body) rest st b) ∧
             (n = 0 → t.configured = s.configured) ∧
             (n = 1 → t.configured = decide (t.firstEmpty = none) ∧
               (∀ p, t.firstEmpty = some p → st = .badField ∧ b = .tableIndex p.1 p.2)) ∧
             (n = 2 → t.configured = false) ∧ t.cmdQ = s.cmdQ))) ∧
     (∀ target : Octet, 2 < target.toNat → s.takes (localCmd 0x03 tag target body) rest →
       exec (.loadImage (.params xs)) s = .next (s.answered (localCmd 0x03 tag target body) rest .badTarget .empty))) ∧
  (∀ (s : State) (rest : List CmdRec) (tag : Octet) (body : List Block) (us : List Nat), body ≠ [] →
     s.configured = false → us.length = 32 → (∀ u ∈ us, u ≤ 65535) → s.takes (localCmd 0x03 tag 0 body) rest →
     ∃ v : Vector (Option Nat) 32,
       exec (.loadImage (.params [.conf 0 us])) s =
         .next (State.answered { s with conf := v } (localCmd 0x03 tag 0 body) rest .ok .empty) ∧
       ∀ (i : Nat) (h : i < 32), v[i]'h = us[i]?)

/-- DEVICE_RESET (R175): the soft reset, then the response OK. -/
def Obligations.DeviceResetResetsPart : Prop :=
  ∀ (s : State) (rest : List CmdRec) (tag target : Octet), s.takes (localCmd 0x02 tag target []) rest →
    ∃ t : State, exec .deviceReset s = .next (t.answered (localCmd 0x02 tag target []) rest .ok .empty) ∧
      t.slotPos = 0 ∧ t.frameSeq = 0 ∧ t.firstFrame = true ∧ t.tick = s.tick ∧ t.configured = s.configured ∧
      t.laneMap = s.laneMap ∧ t.laneDesc = s.laneDesc ∧ t.patDesc = s.patDesc ∧ t.patMem = s.patMem ∧
      t.sched = s.sched ∧ t.conf = s.conf ∧ t.profiles = s.profiles ∧ t.groupDesc = s.groupDesc ∧
      t.permit = s.permit ∧ t.memFault = s.memFault ∧ t.ingress = s.ingress ∧ t.cmdQ = s.cmdQ ∧
      t.egress = s.egress ∧ t.lastServed = 7 ∧ t.capture = [] ∧ t.captureOver = false ∧
      t.link.up = false ∧ t.link.outbound = [] ∧ t.link.asm = [] ∧ t.sup.ticks = 0 ∧ t.sup.armed = false ∧
      t.sup.warned = false ∧ t.sup.last = s.sup.last ∧
      t.chan = s.chan.map (fun c => { c with action := .none }) ∧
      (∀ j, j ∈ t.jobs → j.discard = true ∧ j.inputs.isSome = true) ∧
      (∀ c, (t.inj.get c).state = .idle ∧ (t.inj.get c).settings = (s.inj.get c).settings ∧
        (t.inj.get c).remaining = 0 ∧ (t.inj.get c).deferred = Eight.all none) ∧
      (∀ g, (t.group g).leading = none ∧ (t.group g).ring = [] ∧ (t.group g).win = none ∧ (t.group g).hist = [] ∧
        (t.group g).alarm = .clear) ∧
      (∀ l, (t.lane l).tx.state = .idle ∧ (t.lane l).tx.mode = .pattern ∧ (t.lane l).tx.buf = [] ∧
        (t.lane l).tx.pendStart = false ∧ (t.lane l).tx.drops = Capped.zero ∧ (t.lane l).al = Aligner.reset ∧
        (t.lane l).ck.state = .off ∧ (t.lane l).ck.run = [] ∧ (t.lane l).win.isOpen = false ∧
        (t.lane l).win.nextNumber = 0 ∧ (t.lane l).hist = [] ∧ (t.lane l).run.counts = Counts.zero ∧
        (t.lane l).run.startTick = s.tick ∧ (t.lane l).alarm = .clear ∧ (t.lane l).alarmKnown = false ∧
        (t.lane l).hold = .run ∧ (t.lane l).armed = false ∧ (t.lane l).rxBuf = [] ∧
        (t.lane l).remote = ⟨none, false, false⟩)

/-! ### Invariants -/

/-- Pattern memory stays in its canonical form: every step keeps it. -/
def Obligations.PatternMemoryCanonical : Prop :=
  ∀ s t : State, PatMem.wf s.patMem = true → step s = .next t → PatMem.wf t.patMem = true

/-- No FIFO passes its size (R27, R86, R132, R156, R166, R168, R169), and a waiting command keeps a place for its
response. -/
def Obligations.QueuesStayBounded : Prop :=
  ∀ s t : State, s.queuesBounded = true → step s = .next t → t.queuesBounded = true

/-- The ratio job queue (R96 to R98): its head alone is in service, there is at most one waiting job for each source, and
so at most 11 jobs. -/
def Obligations.RatioJobsStayOrdered : Prop :=
  ∀ s t : State, jobsOrdered s.jobs = true → step s = .next t → jobsOrdered t.jobs = true ∧ t.jobs.length ≤ 11

/-- In every set of counts of the part N stays a multiple of 64 within its cap and E within N (R53). -/
def Obligations.CountsStaySound : Prop :=
  ∀ s t : State, s.countsSound = true → step s = .next t → t.countsSound = true

/-- Between steps no hold request of a trigger is left over (R136), and an inactive supervisor is cleared (R162). -/
def Obligations.NothingLeftUnsettled : Prop :=
  ∀ s t : State, s.holdsSettled = true → s.supCleared = true → step s = .next t →
    t.holdsSettled = true ∧ t.supCleared = true

/-- A CONFIGURED part keeps every entry of its tables loaded (R172). -/
def Obligations.ConfiguredTablesStayLoaded : Prop :=
  ∀ s t : State, s.tablesLoaded = true → step s = .next t → t.tablesLoaded = true

/-- The part after a hard reset meets every invariant. -/
def Obligations.ResetMeetsInvariants : Prop :=
  PatMem.wf State.reset.patMem = true ∧ State.reset.queuesBounded = true ∧ jobsOrdered State.reset.jobs = true ∧
    State.reset.countsSound = true ∧ State.reset.holdsSettled = true ∧ State.reset.supCleared = true ∧
    State.reset.tablesLoaded = true ∧ State.reset.pending = []
end

