-- ==== Sys2Proof/Laws/State.lean ====
section
/-! SUPPORT. One lemma per field for each update of the state, and reads after writes of the small families. -/

namespace Sys2Proof

/-! ### The small families -/

@[simp] theorem Eight.get_set {α : Type} (v : Eight α) (i j : Fin 8) (x : α) :
    (v.set i x).get j = if j = i then x else v.get j := by
  fin_cases i <;> fin_cases j <;> rfl

@[simp] theorem Eight.get_all {α : Type} (x : α) (i : Fin 8) : (Eight.all x).get i = x := by
  fin_cases i <;> rfl

@[simp] theorem Eight.get_map {α β : Type} (f : α → β) (v : Eight α) (i : Fin 8) : (v.map f).get i = f (v.get i) := by
  fin_cases i <;> rfl

@[simp] theorem Eight.get_gen {α : Type} (f : Fin 8 → α) (i : Fin 8) : (Eight.gen f).get i = f i := by
  fin_cases i <;> rfl

/-- A family is the values it gives. -/
theorem Eight.ext_get {α : Type} {v w : Eight α} (h : ∀ i, v.get i = w.get i) : v = w := by
  cases v; cases w
  have h0 := h 0; have h1 := h 1; have h2 := h 2; have h3 := h 3
  have h4 := h 4; have h5 := h 5; have h6 := h 6; have h7 := h 7
  simp only [Eight.get] at h0 h1 h2 h3 h4 h5 h6 h7
  subst h0 h1 h2 h3 h4 h5 h6 h7
  rfl

@[simp] theorem Eight.set_get {α : Type} (v : Eight α) (i : Fin 8) : v.set i (v.get i) = v := by
  fin_cases i <;> rfl

@[simp] theorem Four.get_set {α : Type} (v : Four α) (i j : Fin 4) (x : α) :
    (v.set i x).get j = if j = i then x else v.get j := by
  fin_cases i <;> fin_cases j <;> rfl

@[simp] theorem Four.get_all {α : Type} (x : α) (i : Fin 4) : (Four.all x).get i = x := by
  fin_cases i <;> rfl

@[simp] theorem Four.get_map {α β : Type} (f : α → β) (v : Four α) (i : Fin 4) : (v.map f).get i = f (v.get i) := by
  fin_cases i <;> rfl

@[simp] theorem GPair.get_set {α : Type} (v : GPair α) (i j : GroupId) (x : α) :
    (v.set i x).get j = if j = i then x else v.get j := by
  cases i <;> cases j <;> rfl

@[simp] theorem Four.set_get {α : Type} (v : Four α) (i : Fin 4) : v.set i (v.get i) = v := by
  fin_cases i <;> rfl

@[simp] theorem GPair.set_get {α : Type} (v : GPair α) (i : GroupId) : v.set i (v.get i) = v := by
  cases i <;> rfl

@[simp] theorem Eight.set_set {α : Type} (v : Eight α) (i : Fin 8) (x y : α) : (v.set i x).set i y = v.set i y := by
  fin_cases i <;> rfl

@[simp] theorem Four.set_set {α : Type} (v : Four α) (i : Fin 4) (x y : α) : (v.set i x).set i y = v.set i y := by
  fin_cases i <;> rfl

@[simp] theorem GPair.set_set {α : Type} (v : GPair α) (i : GroupId) (x y : α) : (v.set i x).set i y = v.set i y := by
  cases i <;> rfl

theorem lanesAll_all (p : LaneNo → Bool) : lanesAll.all p = true ↔ ∀ l, p l = true := by
  simp only [lanesAll, List.all_cons, List.all_nil, Bool.and_eq_true, Bool.and_true]
  constructor
  · rintro ⟨h0, h1, h2, h3, h4, h5, h6, h7⟩ l
    fin_cases l <;> assumption
  · intro h; exact ⟨h 0, h 1, h 2, h 3, h 4, h 5, h 6, h 7⟩

theorem lanesAll_any (p : LaneNo → Bool) : lanesAll.any p = true ↔ ∃ l, p l = true := by
  constructor
  · intro h
    obtain ⟨l, -, hl⟩ := List.any_eq_true.mp h
    exact ⟨l, hl⟩
  · rintro ⟨l, hl⟩
    refine List.any_eq_true.mpr ⟨l, ?_, hl⟩
    fin_cases l <;> simp [lanesAll]

end Sys2Proof

namespace Sys2Proof.Machine

/-! ### A read of a lane, group or channel after an update -/

@[simp] theorem State.lane_modLane (s : State) (l m : LaneNo) (f : Lane → Lane) :
    (s.modLane l f).lane m = if m = l then f (s.lane l) else s.lane m := by
  simp [State.modLane, State.lane]

@[simp] theorem State.group_modGroup (s : State) (g k : GroupId) (f : Group → Group) :
    (s.modGroup g f).group k = if k = g then f (s.group g) else s.group k := by
  simp [State.modGroup, State.group]

@[simp] theorem State.inj_modInj (s : State) (c d : ChanNo) (f : InjChan → InjChan) :
    (s.modInj c f).inj.get d = if d = c then f (s.inj.get c) else s.inj.get d := by
  simp [State.modInj]

/-! ### Fields after `modLane` -/

@[simp] theorem State.modLane_resetPin (s : State) (l : LaneNo) (f : Lane → Lane) : (s.modLane l f).resetPin = s.resetPin := rfl
@[simp] theorem State.modLane_quietPin (s : State) (l : LaneNo) (f : Lane → Lane) : (s.modLane l f).quietPin = s.quietPin := rfl
@[simp] theorem State.modLane_configured (s : State) (l : LaneNo) (f : Lane → Lane) : (s.modLane l f).configured = s.configured := rfl
@[simp] theorem State.modLane_tick (s : State) (l : LaneNo) (f : Lane → Lane) : (s.modLane l f).tick = s.tick := rfl
@[simp] theorem State.modLane_laneMap (s : State) (l : LaneNo) (f : Lane → Lane) : (s.modLane l f).laneMap = s.laneMap := rfl
@[simp] theorem State.modLane_laneDesc (s : State) (l : LaneNo) (f : Lane → Lane) : (s.modLane l f).laneDesc = s.laneDesc := rfl
@[simp] theorem State.modLane_patDesc (s : State) (l : LaneNo) (f : Lane → Lane) : (s.modLane l f).patDesc = s.patDesc := rfl
@[simp] theorem State.modLane_patMem (s : State) (l : LaneNo) (f : Lane → Lane) : (s.modLane l f).patMem = s.patMem := rfl
@[simp] theorem State.modLane_sched (s : State) (l : LaneNo) (f : Lane → Lane) : (s.modLane l f).sched = s.sched := rfl
@[simp] theorem State.modLane_conf (s : State) (l : LaneNo) (f : Lane → Lane) : (s.modLane l f).conf = s.conf := rfl
@[simp] theorem State.modLane_profiles (s : State) (l : LaneNo) (f : Lane → Lane) : (s.modLane l f).profiles = s.profiles := rfl
@[simp] theorem State.modLane_groupDesc (s : State) (l : LaneNo) (f : Lane → Lane) : (s.modLane l f).groupDesc = s.groupDesc := rfl
@[simp] theorem State.modLane_chan (s : State) (l : LaneNo) (f : Lane → Lane) : (s.modLane l f).chan = s.chan := rfl
@[simp] theorem State.modLane_permit (s : State) (l : LaneNo) (f : Lane → Lane) : (s.modLane l f).permit = s.permit := rfl
@[simp] theorem State.modLane_memFault (s : State) (l : LaneNo) (f : Lane → Lane) : (s.modLane l f).memFault = s.memFault := rfl
@[simp] theorem State.modLane_slotPos (s : State) (l : LaneNo) (f : Lane → Lane) : (s.modLane l f).slotPos = s.slotPos := rfl
@[simp] theorem State.modLane_frameSeq (s : State) (l : LaneNo) (f : Lane → Lane) : (s.modLane l f).frameSeq = s.frameSeq := rfl
@[simp] theorem State.modLane_firstFrame (s : State) (l : LaneNo) (f : Lane → Lane) : (s.modLane l f).firstFrame = s.firstFrame := rfl
@[simp] theorem State.modLane_groups (s : State) (l : LaneNo) (f : Lane → Lane) : (s.modLane l f).groups = s.groups := rfl
@[simp] theorem State.modLane_inj (s : State) (l : LaneNo) (f : Lane → Lane) : (s.modLane l f).inj = s.inj := rfl
@[simp] theorem State.modLane_jobs (s : State) (l : LaneNo) (f : Lane → Lane) : (s.modLane l f).jobs = s.jobs := rfl
@[simp] theorem State.modLane_serial (s : State) (l : LaneNo) (f : Lane → Lane) : (s.modLane l f).serial = s.serial := rfl
@[simp] theorem State.modLane_capture (s : State) (l : LaneNo) (f : Lane → Lane) : (s.modLane l f).capture = s.capture := rfl
@[simp] theorem State.modLane_captureOver (s : State) (l : LaneNo) (f : Lane → Lane) : (s.modLane l f).captureOver = s.captureOver := rfl
@[simp] theorem State.modLane_link (s : State) (l : LaneNo) (f : Lane → Lane) : (s.modLane l f).link = s.link := rfl
@[simp] theorem State.modLane_sup (s : State) (l : LaneNo) (f : Lane → Lane) : (s.modLane l f).sup = s.sup := rfl
@[simp] theorem State.modLane_ingress (s : State) (l : LaneNo) (f : Lane → Lane) : (s.modLane l f).ingress = s.ingress := rfl
@[simp] theorem State.modLane_cmdQ (s : State) (l : LaneNo) (f : Lane → Lane) : (s.modLane l f).cmdQ = s.cmdQ := rfl
@[simp] theorem State.modLane_waiting (s : State) (l : LaneNo) (f : Lane → Lane) : (s.modLane l f).waiting = s.waiting := rfl
@[simp] theorem State.modLane_egress (s : State) (l : LaneNo) (f : Lane → Lane) : (s.modLane l f).egress = s.egress := rfl
@[simp] theorem State.modLane_egressSent (s : State) (l : LaneNo) (f : Lane → Lane) : (s.modLane l f).egressSent = s.egressSent := rfl
@[simp] theorem State.modLane_lastServed (s : State) (l : LaneNo) (f : Lane → Lane) : (s.modLane l f).lastServed = s.lastServed := rfl
@[simp] theorem State.modLane_noticesLost (s : State) (l : LaneNo) (f : Lane → Lane) : (s.modLane l f).noticesLost = s.noticesLost := rfl
@[simp] theorem State.modLane_slotOut (s : State) (l : LaneNo) (f : Lane → Lane) : (s.modLane l f).slotOut = s.slotOut := rfl
@[simp] theorem State.modLane_egressOut (s : State) (l : LaneNo) (f : Lane → Lane) : (s.modLane l f).egressOut = s.egressOut := rfl
@[simp] theorem State.modLane_pending (s : State) (l : LaneNo) (f : Lane → Lane) : (s.modLane l f).pending = s.pending := rfl

/-! ### Fields after `modTx` -/

@[simp] theorem State.modTx_resetPin (s : State) (l : LaneNo) (f : Tx → Tx) : (s.modTx l f).resetPin = s.resetPin := rfl
@[simp] theorem State.modTx_quietPin (s : State) (l : LaneNo) (f : Tx → Tx) : (s.modTx l f).quietPin = s.quietPin := rfl
@[simp] theorem State.modTx_configured (s : State) (l : LaneNo) (f : Tx → Tx) : (s.modTx l f).configured = s.configured := rfl
@[simp] theorem State.modTx_tick (s : State) (l : LaneNo) (f : Tx → Tx) : (s.modTx l f).tick = s.tick := rfl
@[simp] theorem State.modTx_laneMap (s : State) (l : LaneNo) (f : Tx → Tx) : (s.modTx l f).laneMap = s.laneMap := rfl
@[simp] theorem State.modTx_laneDesc (s : State) (l : LaneNo) (f : Tx → Tx) : (s.modTx l f).laneDesc = s.laneDesc := rfl
@[simp] theorem State.modTx_patDesc (s : State) (l : LaneNo) (f : Tx → Tx) : (s.modTx l f).patDesc = s.patDesc := rfl
@[simp] theorem State.modTx_patMem (s : State) (l : LaneNo) (f : Tx → Tx) : (s.modTx l f).patMem = s.patMem := rfl
@[simp] theorem State.modTx_sched (s : State) (l : LaneNo) (f : Tx → Tx) : (s.modTx l f).sched = s.sched := rfl
@[simp] theorem State.modTx_conf (s : State) (l : LaneNo) (f : Tx → Tx) : (s.modTx l f).conf = s.conf := rfl
@[simp] theorem State.modTx_profiles (s : State) (l : LaneNo) (f : Tx → Tx) : (s.modTx l f).profiles = s.profiles := rfl
@[simp] theorem State.modTx_groupDesc (s : State) (l : LaneNo) (f : Tx → Tx) : (s.modTx l f).groupDesc = s.groupDesc := rfl
@[simp] theorem State.modTx_chan (s : State) (l : LaneNo) (f : Tx → Tx) : (s.modTx l f).chan = s.chan := rfl
@[simp] theorem State.modTx_permit (s : State) (l : LaneNo) (f : Tx → Tx) : (s.modTx l f).permit = s.permit := rfl
@[simp] theorem State.modTx_memFault (s : State) (l : LaneNo) (f : Tx → Tx) : (s.modTx l f).memFault = s.memFault := rfl
@[simp] theorem State.modTx_slotPos (s : State) (l : LaneNo) (f : Tx → Tx) : (s.modTx l f).slotPos = s.slotPos := rfl
@[simp] theorem State.modTx_frameSeq (s : State) (l : LaneNo) (f : Tx → Tx) : (s.modTx l f).frameSeq = s.frameSeq := rfl
@[simp] theorem State.modTx_firstFrame (s : State) (l : LaneNo) (f : Tx → Tx) : (s.modTx l f).firstFrame = s.firstFrame := rfl
@[simp] theorem State.modTx_groups (s : State) (l : LaneNo) (f : Tx → Tx) : (s.modTx l f).groups = s.groups := rfl
@[simp] theorem State.modTx_inj (s : State) (l : LaneNo) (f : Tx → Tx) : (s.modTx l f).inj = s.inj := rfl
@[simp] theorem State.modTx_jobs (s : State) (l : LaneNo) (f : Tx → Tx) : (s.modTx l f).jobs = s.jobs := rfl
@[simp] theorem State.modTx_serial (s : State) (l : LaneNo) (f : Tx → Tx) : (s.modTx l f).serial = s.serial := rfl
@[simp] theorem State.modTx_capture (s : State) (l : LaneNo) (f : Tx → Tx) : (s.modTx l f).capture = s.capture := rfl
@[simp] theorem State.modTx_captureOver (s : State) (l : LaneNo) (f : Tx → Tx) : (s.modTx l f).captureOver = s.captureOver := rfl
@[simp] theorem State.modTx_link (s : State) (l : LaneNo) (f : Tx → Tx) : (s.modTx l f).link = s.link := rfl
@[simp] theorem State.modTx_sup (s : State) (l : LaneNo) (f : Tx → Tx) : (s.modTx l f).sup = s.sup := rfl
@[simp] theorem State.modTx_ingress (s : State) (l : LaneNo) (f : Tx → Tx) : (s.modTx l f).ingress = s.ingress := rfl
@[simp] theorem State.modTx_cmdQ (s : State) (l : LaneNo) (f : Tx → Tx) : (s.modTx l f).cmdQ = s.cmdQ := rfl
@[simp] theorem State.modTx_waiting (s : State) (l : LaneNo) (f : Tx → Tx) : (s.modTx l f).waiting = s.waiting := rfl
@[simp] theorem State.modTx_egress (s : State) (l : LaneNo) (f : Tx → Tx) : (s.modTx l f).egress = s.egress := rfl
@[simp] theorem State.modTx_egressSent (s : State) (l : LaneNo) (f : Tx → Tx) : (s.modTx l f).egressSent = s.egressSent := rfl
@[simp] theorem State.modTx_lastServed (s : State) (l : LaneNo) (f : Tx → Tx) : (s.modTx l f).lastServed = s.lastServed := rfl
@[simp] theorem State.modTx_noticesLost (s : State) (l : LaneNo) (f : Tx → Tx) : (s.modTx l f).noticesLost = s.noticesLost := rfl
@[simp] theorem State.modTx_slotOut (s : State) (l : LaneNo) (f : Tx → Tx) : (s.modTx l f).slotOut = s.slotOut := rfl
@[simp] theorem State.modTx_egressOut (s : State) (l : LaneNo) (f : Tx → Tx) : (s.modTx l f).egressOut = s.egressOut := rfl
@[simp] theorem State.modTx_pending (s : State) (l : LaneNo) (f : Tx → Tx) : (s.modTx l f).pending = s.pending := rfl

/-! ### Fields after `modAl` -/

@[simp] theorem State.modAl_resetPin (s : State) (l : LaneNo) (f : Aligner → Aligner) : (s.modAl l f).resetPin = s.resetPin := rfl
@[simp] theorem State.modAl_quietPin (s : State) (l : LaneNo) (f : Aligner → Aligner) : (s.modAl l f).quietPin = s.quietPin := rfl
@[simp] theorem State.modAl_configured (s : State) (l : LaneNo) (f : Aligner → Aligner) : (s.modAl l f).configured = s.configured := rfl
@[simp] theorem State.modAl_tick (s : State) (l : LaneNo) (f : Aligner → Aligner) : (s.modAl l f).tick = s.tick := rfl
@[simp] theorem State.modAl_laneMap (s : State) (l : LaneNo) (f : Aligner → Aligner) : (s.modAl l f).laneMap = s.laneMap := rfl
@[simp] theorem State.modAl_laneDesc (s : State) (l : LaneNo) (f : Aligner → Aligner) : (s.modAl l f).laneDesc = s.laneDesc := rfl
@[simp] theorem State.modAl_patDesc (s : State) (l : LaneNo) (f : Aligner → Aligner) : (s.modAl l f).patDesc = s.patDesc := rfl
@[simp] theorem State.modAl_patMem (s : State) (l : LaneNo) (f : Aligner → Aligner) : (s.modAl l f).patMem = s.patMem := rfl
@[simp] theorem State.modAl_sched (s : State) (l : LaneNo) (f : Aligner → Aligner) : (s.modAl l f).sched = s.sched := rfl
@[simp] theorem State.modAl_conf (s : State) (l : LaneNo) (f : Aligner → Aligner) : (s.modAl l f).conf = s.conf := rfl
@[simp] theorem State.modAl_profiles (s : State) (l : LaneNo) (f : Aligner → Aligner) : (s.modAl l f).profiles = s.profiles := rfl
@[simp] theorem State.modAl_groupDesc (s : State) (l : LaneNo) (f : Aligner → Aligner) : (s.modAl l f).groupDesc = s.groupDesc := rfl
@[simp] theorem State.modAl_chan (s : State) (l : LaneNo) (f : Aligner → Aligner) : (s.modAl l f).chan = s.chan := rfl
@[simp] theorem State.modAl_permit (s : State) (l : LaneNo) (f : Aligner → Aligner) : (s.modAl l f).permit = s.permit := rfl
@[simp] theorem State.modAl_memFault (s : State) (l : LaneNo) (f : Aligner → Aligner) : (s.modAl l f).memFault = s.memFault := rfl
@[simp] theorem State.modAl_slotPos (s : State) (l : LaneNo) (f : Aligner → Aligner) : (s.modAl l f).slotPos = s.slotPos := rfl
@[simp] theorem State.modAl_frameSeq (s : State) (l : LaneNo) (f : Aligner → Aligner) : (s.modAl l f).frameSeq = s.frameSeq := rfl
@[simp] theorem State.modAl_firstFrame (s : State) (l : LaneNo) (f : Aligner → Aligner) : (s.modAl l f).firstFrame = s.firstFrame := rfl
@[simp] theorem State.modAl_groups (s : State) (l : LaneNo) (f : Aligner → Aligner) : (s.modAl l f).groups = s.groups := rfl
@[simp] theorem State.modAl_inj (s : State) (l : LaneNo) (f : Aligner → Aligner) : (s.modAl l f).inj = s.inj := rfl
@[simp] theorem State.modAl_jobs (s : State) (l : LaneNo) (f : Aligner → Aligner) : (s.modAl l f).jobs = s.jobs := rfl
@[simp] theorem State.modAl_serial (s : State) (l : LaneNo) (f : Aligner → Aligner) : (s.modAl l f).serial = s.serial := rfl
@[simp] theorem State.modAl_capture (s : State) (l : LaneNo) (f : Aligner → Aligner) : (s.modAl l f).capture = s.capture := rfl
@[simp] theorem State.modAl_captureOver (s : State) (l : LaneNo) (f : Aligner → Aligner) : (s.modAl l f).captureOver = s.captureOver := rfl
@[simp] theorem State.modAl_link (s : State) (l : LaneNo) (f : Aligner → Aligner) : (s.modAl l f).link = s.link := rfl
@[simp] theorem State.modAl_sup (s : State) (l : LaneNo) (f : Aligner → Aligner) : (s.modAl l f).sup = s.sup := rfl
@[simp] theorem State.modAl_ingress (s : State) (l : LaneNo) (f : Aligner → Aligner) : (s.modAl l f).ingress = s.ingress := rfl
@[simp] theorem State.modAl_cmdQ (s : State) (l : LaneNo) (f : Aligner → Aligner) : (s.modAl l f).cmdQ = s.cmdQ := rfl
@[simp] theorem State.modAl_waiting (s : State) (l : LaneNo) (f : Aligner → Aligner) : (s.modAl l f).waiting = s.waiting := rfl
@[simp] theorem State.modAl_egress (s : State) (l : LaneNo) (f : Aligner → Aligner) : (s.modAl l f).egress = s.egress := rfl
@[simp] theorem State.modAl_egressSent (s : State) (l : LaneNo) (f : Aligner → Aligner) : (s.modAl l f).egressSent = s.egressSent := rfl
@[simp] theorem State.modAl_lastServed (s : State) (l : LaneNo) (f : Aligner → Aligner) : (s.modAl l f).lastServed = s.lastServed := rfl
@[simp] theorem State.modAl_noticesLost (s : State) (l : LaneNo) (f : Aligner → Aligner) : (s.modAl l f).noticesLost = s.noticesLost := rfl
@[simp] theorem State.modAl_slotOut (s : State) (l : LaneNo) (f : Aligner → Aligner) : (s.modAl l f).slotOut = s.slotOut := rfl
@[simp] theorem State.modAl_egressOut (s : State) (l : LaneNo) (f : Aligner → Aligner) : (s.modAl l f).egressOut = s.egressOut := rfl
@[simp] theorem State.modAl_pending (s : State) (l : LaneNo) (f : Aligner → Aligner) : (s.modAl l f).pending = s.pending := rfl

/-! ### Fields after `modCk` -/

@[simp] theorem State.modCk_resetPin (s : State) (l : LaneNo) (f : Checker → Checker) : (s.modCk l f).resetPin = s.resetPin := rfl
@[simp] theorem State.modCk_quietPin (s : State) (l : LaneNo) (f : Checker → Checker) : (s.modCk l f).quietPin = s.quietPin := rfl
@[simp] theorem State.modCk_configured (s : State) (l : LaneNo) (f : Checker → Checker) : (s.modCk l f).configured = s.configured := rfl
@[simp] theorem State.modCk_tick (s : State) (l : LaneNo) (f : Checker → Checker) : (s.modCk l f).tick = s.tick := rfl
@[simp] theorem State.modCk_laneMap (s : State) (l : LaneNo) (f : Checker → Checker) : (s.modCk l f).laneMap = s.laneMap := rfl
@[simp] theorem State.modCk_laneDesc (s : State) (l : LaneNo) (f : Checker → Checker) : (s.modCk l f).laneDesc = s.laneDesc := rfl
@[simp] theorem State.modCk_patDesc (s : State) (l : LaneNo) (f : Checker → Checker) : (s.modCk l f).patDesc = s.patDesc := rfl
@[simp] theorem State.modCk_patMem (s : State) (l : LaneNo) (f : Checker → Checker) : (s.modCk l f).patMem = s.patMem := rfl
@[simp] theorem State.modCk_sched (s : State) (l : LaneNo) (f : Checker → Checker) : (s.modCk l f).sched = s.sched := rfl
@[simp] theorem State.modCk_conf (s : State) (l : LaneNo) (f : Checker → Checker) : (s.modCk l f).conf = s.conf := rfl
@[simp] theorem State.modCk_profiles (s : State) (l : LaneNo) (f : Checker → Checker) : (s.modCk l f).profiles = s.profiles := rfl
@[simp] theorem State.modCk_groupDesc (s : State) (l : LaneNo) (f : Checker → Checker) : (s.modCk l f).groupDesc = s.groupDesc := rfl
@[simp] theorem State.modCk_chan (s : State) (l : LaneNo) (f : Checker → Checker) : (s.modCk l f).chan = s.chan := rfl
@[simp] theorem State.modCk_permit (s : State) (l : LaneNo) (f : Checker → Checker) : (s.modCk l f).permit = s.permit := rfl
@[simp] theorem State.modCk_memFault (s : State) (l : LaneNo) (f : Checker → Checker) : (s.modCk l f).memFault = s.memFault := rfl
@[simp] theorem State.modCk_slotPos (s : State) (l : LaneNo) (f : Checker → Checker) : (s.modCk l f).slotPos = s.slotPos := rfl
@[simp] theorem State.modCk_frameSeq (s : State) (l : LaneNo) (f : Checker → Checker) : (s.modCk l f).frameSeq = s.frameSeq := rfl
@[simp] theorem State.modCk_firstFrame (s : State) (l : LaneNo) (f : Checker → Checker) : (s.modCk l f).firstFrame = s.firstFrame := rfl
@[simp] theorem State.modCk_groups (s : State) (l : LaneNo) (f : Checker → Checker) : (s.modCk l f).groups = s.groups := rfl
@[simp] theorem State.modCk_inj (s : State) (l : LaneNo) (f : Checker → Checker) : (s.modCk l f).inj = s.inj := rfl
@[simp] theorem State.modCk_jobs (s : State) (l : LaneNo) (f : Checker → Checker) : (s.modCk l f).jobs = s.jobs := rfl
@[simp] theorem State.modCk_serial (s : State) (l : LaneNo) (f : Checker → Checker) : (s.modCk l f).serial = s.serial := rfl
@[simp] theorem State.modCk_capture (s : State) (l : LaneNo) (f : Checker → Checker) : (s.modCk l f).capture = s.capture := rfl
@[simp] theorem State.modCk_captureOver (s : State) (l : LaneNo) (f : Checker → Checker) : (s.modCk l f).captureOver = s.captureOver := rfl
@[simp] theorem State.modCk_link (s : State) (l : LaneNo) (f : Checker → Checker) : (s.modCk l f).link = s.link := rfl
@[simp] theorem State.modCk_sup (s : State) (l : LaneNo) (f : Checker → Checker) : (s.modCk l f).sup = s.sup := rfl
@[simp] theorem State.modCk_ingress (s : State) (l : LaneNo) (f : Checker → Checker) : (s.modCk l f).ingress = s.ingress := rfl
@[simp] theorem State.modCk_cmdQ (s : State) (l : LaneNo) (f : Checker → Checker) : (s.modCk l f).cmdQ = s.cmdQ := rfl
@[simp] theorem State.modCk_waiting (s : State) (l : LaneNo) (f : Checker → Checker) : (s.modCk l f).waiting = s.waiting := rfl
@[simp] theorem State.modCk_egress (s : State) (l : LaneNo) (f : Checker → Checker) : (s.modCk l f).egress = s.egress := rfl
@[simp] theorem State.modCk_egressSent (s : State) (l : LaneNo) (f : Checker → Checker) : (s.modCk l f).egressSent = s.egressSent := rfl
@[simp] theorem State.modCk_lastServed (s : State) (l : LaneNo) (f : Checker → Checker) : (s.modCk l f).lastServed = s.lastServed := rfl
@[simp] theorem State.modCk_noticesLost (s : State) (l : LaneNo) (f : Checker → Checker) : (s.modCk l f).noticesLost = s.noticesLost := rfl
@[simp] theorem State.modCk_slotOut (s : State) (l : LaneNo) (f : Checker → Checker) : (s.modCk l f).slotOut = s.slotOut := rfl
@[simp] theorem State.modCk_egressOut (s : State) (l : LaneNo) (f : Checker → Checker) : (s.modCk l f).egressOut = s.egressOut := rfl
@[simp] theorem State.modCk_pending (s : State) (l : LaneNo) (f : Checker → Checker) : (s.modCk l f).pending = s.pending := rfl

/-! ### Fields after `modWin` -/

@[simp] theorem State.modWin_resetPin (s : State) (l : LaneNo) (f : Win → Win) : (s.modWin l f).resetPin = s.resetPin := rfl
@[simp] theorem State.modWin_quietPin (s : State) (l : LaneNo) (f : Win → Win) : (s.modWin l f).quietPin = s.quietPin := rfl
@[simp] theorem State.modWin_configured (s : State) (l : LaneNo) (f : Win → Win) : (s.modWin l f).configured = s.configured := rfl
@[simp] theorem State.modWin_tick (s : State) (l : LaneNo) (f : Win → Win) : (s.modWin l f).tick = s.tick := rfl
@[simp] theorem State.modWin_laneMap (s : State) (l : LaneNo) (f : Win → Win) : (s.modWin l f).laneMap = s.laneMap := rfl
@[simp] theorem State.modWin_laneDesc (s : State) (l : LaneNo) (f : Win → Win) : (s.modWin l f).laneDesc = s.laneDesc := rfl
@[simp] theorem State.modWin_patDesc (s : State) (l : LaneNo) (f : Win → Win) : (s.modWin l f).patDesc = s.patDesc := rfl
@[simp] theorem State.modWin_patMem (s : State) (l : LaneNo) (f : Win → Win) : (s.modWin l f).patMem = s.patMem := rfl
@[simp] theorem State.modWin_sched (s : State) (l : LaneNo) (f : Win → Win) : (s.modWin l f).sched = s.sched := rfl
@[simp] theorem State.modWin_conf (s : State) (l : LaneNo) (f : Win → Win) : (s.modWin l f).conf = s.conf := rfl
@[simp] theorem State.modWin_profiles (s : State) (l : LaneNo) (f : Win → Win) : (s.modWin l f).profiles = s.profiles := rfl
@[simp] theorem State.modWin_groupDesc (s : State) (l : LaneNo) (f : Win → Win) : (s.modWin l f).groupDesc = s.groupDesc := rfl
@[simp] theorem State.modWin_chan (s : State) (l : LaneNo) (f : Win → Win) : (s.modWin l f).chan = s.chan := rfl
@[simp] theorem State.modWin_permit (s : State) (l : LaneNo) (f : Win → Win) : (s.modWin l f).permit = s.permit := rfl
@[simp] theorem State.modWin_memFault (s : State) (l : LaneNo) (f : Win → Win) : (s.modWin l f).memFault = s.memFault := rfl
@[simp] theorem State.modWin_slotPos (s : State) (l : LaneNo) (f : Win → Win) : (s.modWin l f).slotPos = s.slotPos := rfl
@[simp] theorem State.modWin_frameSeq (s : State) (l : LaneNo) (f : Win → Win) : (s.modWin l f).frameSeq = s.frameSeq := rfl
@[simp] theorem State.modWin_firstFrame (s : State) (l : LaneNo) (f : Win → Win) : (s.modWin l f).firstFrame = s.firstFrame := rfl
@[simp] theorem State.modWin_groups (s : State) (l : LaneNo) (f : Win → Win) : (s.modWin l f).groups = s.groups := rfl
@[simp] theorem State.modWin_inj (s : State) (l : LaneNo) (f : Win → Win) : (s.modWin l f).inj = s.inj := rfl
@[simp] theorem State.modWin_jobs (s : State) (l : LaneNo) (f : Win → Win) : (s.modWin l f).jobs = s.jobs := rfl
@[simp] theorem State.modWin_serial (s : State) (l : LaneNo) (f : Win → Win) : (s.modWin l f).serial = s.serial := rfl
@[simp] theorem State.modWin_capture (s : State) (l : LaneNo) (f : Win → Win) : (s.modWin l f).capture = s.capture := rfl
@[simp] theorem State.modWin_captureOver (s : State) (l : LaneNo) (f : Win → Win) : (s.modWin l f).captureOver = s.captureOver := rfl
@[simp] theorem State.modWin_link (s : State) (l : LaneNo) (f : Win → Win) : (s.modWin l f).link = s.link := rfl
@[simp] theorem State.modWin_sup (s : State) (l : LaneNo) (f : Win → Win) : (s.modWin l f).sup = s.sup := rfl
@[simp] theorem State.modWin_ingress (s : State) (l : LaneNo) (f : Win → Win) : (s.modWin l f).ingress = s.ingress := rfl
@[simp] theorem State.modWin_cmdQ (s : State) (l : LaneNo) (f : Win → Win) : (s.modWin l f).cmdQ = s.cmdQ := rfl
@[simp] theorem State.modWin_waiting (s : State) (l : LaneNo) (f : Win → Win) : (s.modWin l f).waiting = s.waiting := rfl
@[simp] theorem State.modWin_egress (s : State) (l : LaneNo) (f : Win → Win) : (s.modWin l f).egress = s.egress := rfl
@[simp] theorem State.modWin_egressSent (s : State) (l : LaneNo) (f : Win → Win) : (s.modWin l f).egressSent = s.egressSent := rfl
@[simp] theorem State.modWin_lastServed (s : State) (l : LaneNo) (f : Win → Win) : (s.modWin l f).lastServed = s.lastServed := rfl
@[simp] theorem State.modWin_noticesLost (s : State) (l : LaneNo) (f : Win → Win) : (s.modWin l f).noticesLost = s.noticesLost := rfl
@[simp] theorem State.modWin_slotOut (s : State) (l : LaneNo) (f : Win → Win) : (s.modWin l f).slotOut = s.slotOut := rfl
@[simp] theorem State.modWin_egressOut (s : State) (l : LaneNo) (f : Win → Win) : (s.modWin l f).egressOut = s.egressOut := rfl
@[simp] theorem State.modWin_pending (s : State) (l : LaneNo) (f : Win → Win) : (s.modWin l f).pending = s.pending := rfl

/-! ### Fields after `modMem` -/

@[simp] theorem State.modMem_resetPin (s : State) (l : LaneNo) (f : Member → Member) : (s.modMem l f).resetPin = s.resetPin := rfl
@[simp] theorem State.modMem_quietPin (s : State) (l : LaneNo) (f : Member → Member) : (s.modMem l f).quietPin = s.quietPin := rfl
@[simp] theorem State.modMem_configured (s : State) (l : LaneNo) (f : Member → Member) : (s.modMem l f).configured = s.configured := rfl
@[simp] theorem State.modMem_tick (s : State) (l : LaneNo) (f : Member → Member) : (s.modMem l f).tick = s.tick := rfl
@[simp] theorem State.modMem_laneMap (s : State) (l : LaneNo) (f : Member → Member) : (s.modMem l f).laneMap = s.laneMap := rfl
@[simp] theorem State.modMem_laneDesc (s : State) (l : LaneNo) (f : Member → Member) : (s.modMem l f).laneDesc = s.laneDesc := rfl
@[simp] theorem State.modMem_patDesc (s : State) (l : LaneNo) (f : Member → Member) : (s.modMem l f).patDesc = s.patDesc := rfl
@[simp] theorem State.modMem_patMem (s : State) (l : LaneNo) (f : Member → Member) : (s.modMem l f).patMem = s.patMem := rfl
@[simp] theorem State.modMem_sched (s : State) (l : LaneNo) (f : Member → Member) : (s.modMem l f).sched = s.sched := rfl
@[simp] theorem State.modMem_conf (s : State) (l : LaneNo) (f : Member → Member) : (s.modMem l f).conf = s.conf := rfl
@[simp] theorem State.modMem_profiles (s : State) (l : LaneNo) (f : Member → Member) : (s.modMem l f).profiles = s.profiles := rfl
@[simp] theorem State.modMem_groupDesc (s : State) (l : LaneNo) (f : Member → Member) : (s.modMem l f).groupDesc = s.groupDesc := rfl
@[simp] theorem State.modMem_chan (s : State) (l : LaneNo) (f : Member → Member) : (s.modMem l f).chan = s.chan := rfl
@[simp] theorem State.modMem_permit (s : State) (l : LaneNo) (f : Member → Member) : (s.modMem l f).permit = s.permit := rfl
@[simp] theorem State.modMem_memFault (s : State) (l : LaneNo) (f : Member → Member) : (s.modMem l f).memFault = s.memFault := rfl
@[simp] theorem State.modMem_slotPos (s : State) (l : LaneNo) (f : Member → Member) : (s.modMem l f).slotPos = s.slotPos := rfl
@[simp] theorem State.modMem_frameSeq (s : State) (l : LaneNo) (f : Member → Member) : (s.modMem l f).frameSeq = s.frameSeq := rfl
@[simp] theorem State.modMem_firstFrame (s : State) (l : LaneNo) (f : Member → Member) : (s.modMem l f).firstFrame = s.firstFrame := rfl
@[simp] theorem State.modMem_groups (s : State) (l : LaneNo) (f : Member → Member) : (s.modMem l f).groups = s.groups := rfl
@[simp] theorem State.modMem_inj (s : State) (l : LaneNo) (f : Member → Member) : (s.modMem l f).inj = s.inj := rfl
@[simp] theorem State.modMem_jobs (s : State) (l : LaneNo) (f : Member → Member) : (s.modMem l f).jobs = s.jobs := rfl
@[simp] theorem State.modMem_serial (s : State) (l : LaneNo) (f : Member → Member) : (s.modMem l f).serial = s.serial := rfl
@[simp] theorem State.modMem_capture (s : State) (l : LaneNo) (f : Member → Member) : (s.modMem l f).capture = s.capture := rfl
@[simp] theorem State.modMem_captureOver (s : State) (l : LaneNo) (f : Member → Member) : (s.modMem l f).captureOver = s.captureOver := rfl
@[simp] theorem State.modMem_link (s : State) (l : LaneNo) (f : Member → Member) : (s.modMem l f).link = s.link := rfl
@[simp] theorem State.modMem_sup (s : State) (l : LaneNo) (f : Member → Member) : (s.modMem l f).sup = s.sup := rfl
@[simp] theorem State.modMem_ingress (s : State) (l : LaneNo) (f : Member → Member) : (s.modMem l f).ingress = s.ingress := rfl
@[simp] theorem State.modMem_cmdQ (s : State) (l : LaneNo) (f : Member → Member) : (s.modMem l f).cmdQ = s.cmdQ := rfl
@[simp] theorem State.modMem_waiting (s : State) (l : LaneNo) (f : Member → Member) : (s.modMem l f).waiting = s.waiting := rfl
@[simp] theorem State.modMem_egress (s : State) (l : LaneNo) (f : Member → Member) : (s.modMem l f).egress = s.egress := rfl
@[simp] theorem State.modMem_egressSent (s : State) (l : LaneNo) (f : Member → Member) : (s.modMem l f).egressSent = s.egressSent := rfl
@[simp] theorem State.modMem_lastServed (s : State) (l : LaneNo) (f : Member → Member) : (s.modMem l f).lastServed = s.lastServed := rfl
@[simp] theorem State.modMem_noticesLost (s : State) (l : LaneNo) (f : Member → Member) : (s.modMem l f).noticesLost = s.noticesLost := rfl
@[simp] theorem State.modMem_slotOut (s : State) (l : LaneNo) (f : Member → Member) : (s.modMem l f).slotOut = s.slotOut := rfl
@[simp] theorem State.modMem_egressOut (s : State) (l : LaneNo) (f : Member → Member) : (s.modMem l f).egressOut = s.egressOut := rfl
@[simp] theorem State.modMem_pending (s : State) (l : LaneNo) (f : Member → Member) : (s.modMem l f).pending = s.pending := rfl

/-! ### Fields after `modGroup` -/

@[simp] theorem State.modGroup_resetPin (s : State) (g : GroupId) (f : Group → Group) : (s.modGroup g f).resetPin = s.resetPin := rfl
@[simp] theorem State.modGroup_quietPin (s : State) (g : GroupId) (f : Group → Group) : (s.modGroup g f).quietPin = s.quietPin := rfl
@[simp] theorem State.modGroup_configured (s : State) (g : GroupId) (f : Group → Group) : (s.modGroup g f).configured = s.configured := rfl
@[simp] theorem State.modGroup_tick (s : State) (g : GroupId) (f : Group → Group) : (s.modGroup g f).tick = s.tick := rfl
@[simp] theorem State.modGroup_laneMap (s : State) (g : GroupId) (f : Group → Group) : (s.modGroup g f).laneMap = s.laneMap := rfl
@[simp] theorem State.modGroup_laneDesc (s : State) (g : GroupId) (f : Group → Group) : (s.modGroup g f).laneDesc = s.laneDesc := rfl
@[simp] theorem State.modGroup_patDesc (s : State) (g : GroupId) (f : Group → Group) : (s.modGroup g f).patDesc = s.patDesc := rfl
@[simp] theorem State.modGroup_patMem (s : State) (g : GroupId) (f : Group → Group) : (s.modGroup g f).patMem = s.patMem := rfl
@[simp] theorem State.modGroup_sched (s : State) (g : GroupId) (f : Group → Group) : (s.modGroup g f).sched = s.sched := rfl
@[simp] theorem State.modGroup_conf (s : State) (g : GroupId) (f : Group → Group) : (s.modGroup g f).conf = s.conf := rfl
@[simp] theorem State.modGroup_profiles (s : State) (g : GroupId) (f : Group → Group) : (s.modGroup g f).profiles = s.profiles := rfl
@[simp] theorem State.modGroup_groupDesc (s : State) (g : GroupId) (f : Group → Group) : (s.modGroup g f).groupDesc = s.groupDesc := rfl
@[simp] theorem State.modGroup_chan (s : State) (g : GroupId) (f : Group → Group) : (s.modGroup g f).chan = s.chan := rfl
@[simp] theorem State.modGroup_permit (s : State) (g : GroupId) (f : Group → Group) : (s.modGroup g f).permit = s.permit := rfl
@[simp] theorem State.modGroup_memFault (s : State) (g : GroupId) (f : Group → Group) : (s.modGroup g f).memFault = s.memFault := rfl
@[simp] theorem State.modGroup_slotPos (s : State) (g : GroupId) (f : Group → Group) : (s.modGroup g f).slotPos = s.slotPos := rfl
@[simp] theorem State.modGroup_frameSeq (s : State) (g : GroupId) (f : Group → Group) : (s.modGroup g f).frameSeq = s.frameSeq := rfl
@[simp] theorem State.modGroup_firstFrame (s : State) (g : GroupId) (f : Group → Group) : (s.modGroup g f).firstFrame = s.firstFrame := rfl
@[simp] theorem State.modGroup_lanes (s : State) (g : GroupId) (f : Group → Group) : (s.modGroup g f).lanes = s.lanes := rfl
@[simp] theorem State.modGroup_inj (s : State) (g : GroupId) (f : Group → Group) : (s.modGroup g f).inj = s.inj := rfl
@[simp] theorem State.modGroup_jobs (s : State) (g : GroupId) (f : Group → Group) : (s.modGroup g f).jobs = s.jobs := rfl
@[simp] theorem State.modGroup_serial (s : State) (g : GroupId) (f : Group → Group) : (s.modGroup g f).serial = s.serial := rfl
@[simp] theorem State.modGroup_capture (s : State) (g : GroupId) (f : Group → Group) : (s.modGroup g f).capture = s.capture := rfl
@[simp] theorem State.modGroup_captureOver (s : State) (g : GroupId) (f : Group → Group) : (s.modGroup g f).captureOver = s.captureOver := rfl
@[simp] theorem State.modGroup_link (s : State) (g : GroupId) (f : Group → Group) : (s.modGroup g f).link = s.link := rfl
@[simp] theorem State.modGroup_sup (s : State) (g : GroupId) (f : Group → Group) : (s.modGroup g f).sup = s.sup := rfl
@[simp] theorem State.modGroup_ingress (s : State) (g : GroupId) (f : Group → Group) : (s.modGroup g f).ingress = s.ingress := rfl
@[simp] theorem State.modGroup_cmdQ (s : State) (g : GroupId) (f : Group → Group) : (s.modGroup g f).cmdQ = s.cmdQ := rfl
@[simp] theorem State.modGroup_waiting (s : State) (g : GroupId) (f : Group → Group) : (s.modGroup g f).waiting = s.waiting := rfl
@[simp] theorem State.modGroup_egress (s : State) (g : GroupId) (f : Group → Group) : (s.modGroup g f).egress = s.egress := rfl
@[simp] theorem State.modGroup_egressSent (s : State) (g : GroupId) (f : Group → Group) : (s.modGroup g f).egressSent = s.egressSent := rfl
@[simp] theorem State.modGroup_lastServed (s : State) (g : GroupId) (f : Group → Group) : (s.modGroup g f).lastServed = s.lastServed := rfl
@[simp] theorem State.modGroup_noticesLost (s : State) (g : GroupId) (f : Group → Group) : (s.modGroup g f).noticesLost = s.noticesLost := rfl
@[simp] theorem State.modGroup_slotOut (s : State) (g : GroupId) (f : Group → Group) : (s.modGroup g f).slotOut = s.slotOut := rfl
@[simp] theorem State.modGroup_egressOut (s : State) (g : GroupId) (f : Group → Group) : (s.modGroup g f).egressOut = s.egressOut := rfl
@[simp] theorem State.modGroup_pending (s : State) (g : GroupId) (f : Group → Group) : (s.modGroup g f).pending = s.pending := rfl

/-! ### Fields after `modInj` -/

@[simp] theorem State.modInj_resetPin (s : State) (c : ChanNo) (f : InjChan → InjChan) : (s.modInj c f).resetPin = s.resetPin := rfl
@[simp] theorem State.modInj_quietPin (s : State) (c : ChanNo) (f : InjChan → InjChan) : (s.modInj c f).quietPin = s.quietPin := rfl
@[simp] theorem State.modInj_configured (s : State) (c : ChanNo) (f : InjChan → InjChan) : (s.modInj c f).configured = s.configured := rfl
@[simp] theorem State.modInj_tick (s : State) (c : ChanNo) (f : InjChan → InjChan) : (s.modInj c f).tick = s.tick := rfl
@[simp] theorem State.modInj_laneMap (s : State) (c : ChanNo) (f : InjChan → InjChan) : (s.modInj c f).laneMap = s.laneMap := rfl
@[simp] theorem State.modInj_laneDesc (s : State) (c : ChanNo) (f : InjChan → InjChan) : (s.modInj c f).laneDesc = s.laneDesc := rfl
@[simp] theorem State.modInj_patDesc (s : State) (c : ChanNo) (f : InjChan → InjChan) : (s.modInj c f).patDesc = s.patDesc := rfl
@[simp] theorem State.modInj_patMem (s : State) (c : ChanNo) (f : InjChan → InjChan) : (s.modInj c f).patMem = s.patMem := rfl
@[simp] theorem State.modInj_sched (s : State) (c : ChanNo) (f : InjChan → InjChan) : (s.modInj c f).sched = s.sched := rfl
@[simp] theorem State.modInj_conf (s : State) (c : ChanNo) (f : InjChan → InjChan) : (s.modInj c f).conf = s.conf := rfl
@[simp] theorem State.modInj_profiles (s : State) (c : ChanNo) (f : InjChan → InjChan) : (s.modInj c f).profiles = s.profiles := rfl
@[simp] theorem State.modInj_groupDesc (s : State) (c : ChanNo) (f : InjChan → InjChan) : (s.modInj c f).groupDesc = s.groupDesc := rfl
@[simp] theorem State.modInj_chan (s : State) (c : ChanNo) (f : InjChan → InjChan) : (s.modInj c f).chan = s.chan := rfl
@[simp] theorem State.modInj_permit (s : State) (c : ChanNo) (f : InjChan → InjChan) : (s.modInj c f).permit = s.permit := rfl
@[simp] theorem State.modInj_memFault (s : State) (c : ChanNo) (f : InjChan → InjChan) : (s.modInj c f).memFault = s.memFault := rfl
@[simp] theorem State.modInj_slotPos (s : State) (c : ChanNo) (f : InjChan → InjChan) : (s.modInj c f).slotPos = s.slotPos := rfl
@[simp] theorem State.modInj_frameSeq (s : State) (c : ChanNo) (f : InjChan → InjChan) : (s.modInj c f).frameSeq = s.frameSeq := rfl
@[simp] theorem State.modInj_firstFrame (s : State) (c : ChanNo) (f : InjChan → InjChan) : (s.modInj c f).firstFrame = s.firstFrame := rfl
@[simp] theorem State.modInj_lanes (s : State) (c : ChanNo) (f : InjChan → InjChan) : (s.modInj c f).lanes = s.lanes := rfl
@[simp] theorem State.modInj_groups (s : State) (c : ChanNo) (f : InjChan → InjChan) : (s.modInj c f).groups = s.groups := rfl
@[simp] theorem State.modInj_jobs (s : State) (c : ChanNo) (f : InjChan → InjChan) : (s.modInj c f).jobs = s.jobs := rfl
@[simp] theorem State.modInj_serial (s : State) (c : ChanNo) (f : InjChan → InjChan) : (s.modInj c f).serial = s.serial := rfl
@[simp] theorem State.modInj_capture (s : State) (c : ChanNo) (f : InjChan → InjChan) : (s.modInj c f).capture = s.capture := rfl
@[simp] theorem State.modInj_captureOver (s : State) (c : ChanNo) (f : InjChan → InjChan) : (s.modInj c f).captureOver = s.captureOver := rfl
@[simp] theorem State.modInj_link (s : State) (c : ChanNo) (f : InjChan → InjChan) : (s.modInj c f).link = s.link := rfl
@[simp] theorem State.modInj_sup (s : State) (c : ChanNo) (f : InjChan → InjChan) : (s.modInj c f).sup = s.sup := rfl
@[simp] theorem State.modInj_ingress (s : State) (c : ChanNo) (f : InjChan → InjChan) : (s.modInj c f).ingress = s.ingress := rfl
@[simp] theorem State.modInj_cmdQ (s : State) (c : ChanNo) (f : InjChan → InjChan) : (s.modInj c f).cmdQ = s.cmdQ := rfl
@[simp] theorem State.modInj_waiting (s : State) (c : ChanNo) (f : InjChan → InjChan) : (s.modInj c f).waiting = s.waiting := rfl
@[simp] theorem State.modInj_egress (s : State) (c : ChanNo) (f : InjChan → InjChan) : (s.modInj c f).egress = s.egress := rfl
@[simp] theorem State.modInj_egressSent (s : State) (c : ChanNo) (f : InjChan → InjChan) : (s.modInj c f).egressSent = s.egressSent := rfl
@[simp] theorem State.modInj_lastServed (s : State) (c : ChanNo) (f : InjChan → InjChan) : (s.modInj c f).lastServed = s.lastServed := rfl
@[simp] theorem State.modInj_noticesLost (s : State) (c : ChanNo) (f : InjChan → InjChan) : (s.modInj c f).noticesLost = s.noticesLost := rfl
@[simp] theorem State.modInj_slotOut (s : State) (c : ChanNo) (f : InjChan → InjChan) : (s.modInj c f).slotOut = s.slotOut := rfl
@[simp] theorem State.modInj_egressOut (s : State) (c : ChanNo) (f : InjChan → InjChan) : (s.modInj c f).egressOut = s.egressOut := rfl
@[simp] theorem State.modInj_pending (s : State) (c : ChanNo) (f : InjChan → InjChan) : (s.modInj c f).pending = s.pending := rfl

/-! ### Fields after `modLink` -/

@[simp] theorem State.modLink_resetPin (s : State) (f : Link → Link) : (s.modLink f).resetPin = s.resetPin := rfl
@[simp] theorem State.modLink_quietPin (s : State) (f : Link → Link) : (s.modLink f).quietPin = s.quietPin := rfl
@[simp] theorem State.modLink_configured (s : State) (f : Link → Link) : (s.modLink f).configured = s.configured := rfl
@[simp] theorem State.modLink_tick (s : State) (f : Link → Link) : (s.modLink f).tick = s.tick := rfl
@[simp] theorem State.modLink_laneMap (s : State) (f : Link → Link) : (s.modLink f).laneMap = s.laneMap := rfl
@[simp] theorem State.modLink_laneDesc (s : State) (f : Link → Link) : (s.modLink f).laneDesc = s.laneDesc := rfl
@[simp] theorem State.modLink_patDesc (s : State) (f : Link → Link) : (s.modLink f).patDesc = s.patDesc := rfl
@[simp] theorem State.modLink_patMem (s : State) (f : Link → Link) : (s.modLink f).patMem = s.patMem := rfl
@[simp] theorem State.modLink_sched (s : State) (f : Link → Link) : (s.modLink f).sched = s.sched := rfl
@[simp] theorem State.modLink_conf (s : State) (f : Link → Link) : (s.modLink f).conf = s.conf := rfl
@[simp] theorem State.modLink_profiles (s : State) (f : Link → Link) : (s.modLink f).profiles = s.profiles := rfl
@[simp] theorem State.modLink_groupDesc (s : State) (f : Link → Link) : (s.modLink f).groupDesc = s.groupDesc := rfl
@[simp] theorem State.modLink_chan (s : State) (f : Link → Link) : (s.modLink f).chan = s.chan := rfl
@[simp] theorem State.modLink_permit (s : State) (f : Link → Link) : (s.modLink f).permit = s.permit := rfl
@[simp] theorem State.modLink_memFault (s : State) (f : Link → Link) : (s.modLink f).memFault = s.memFault := rfl
@[simp] theorem State.modLink_slotPos (s : State) (f : Link → Link) : (s.modLink f).slotPos = s.slotPos := rfl
@[simp] theorem State.modLink_frameSeq (s : State) (f : Link → Link) : (s.modLink f).frameSeq = s.frameSeq := rfl
@[simp] theorem State.modLink_firstFrame (s : State) (f : Link → Link) : (s.modLink f).firstFrame = s.firstFrame := rfl
@[simp] theorem State.modLink_lanes (s : State) (f : Link → Link) : (s.modLink f).lanes = s.lanes := rfl
@[simp] theorem State.modLink_groups (s : State) (f : Link → Link) : (s.modLink f).groups = s.groups := rfl
@[simp] theorem State.modLink_inj (s : State) (f : Link → Link) : (s.modLink f).inj = s.inj := rfl
@[simp] theorem State.modLink_jobs (s : State) (f : Link → Link) : (s.modLink f).jobs = s.jobs := rfl
@[simp] theorem State.modLink_serial (s : State) (f : Link → Link) : (s.modLink f).serial = s.serial := rfl
@[simp] theorem State.modLink_capture (s : State) (f : Link → Link) : (s.modLink f).capture = s.capture := rfl
@[simp] theorem State.modLink_captureOver (s : State) (f : Link → Link) : (s.modLink f).captureOver = s.captureOver := rfl
@[simp] theorem State.modLink_sup (s : State) (f : Link → Link) : (s.modLink f).sup = s.sup := rfl
@[simp] theorem State.modLink_ingress (s : State) (f : Link → Link) : (s.modLink f).ingress = s.ingress := rfl
@[simp] theorem State.modLink_cmdQ (s : State) (f : Link → Link) : (s.modLink f).cmdQ = s.cmdQ := rfl
@[simp] theorem State.modLink_waiting (s : State) (f : Link → Link) : (s.modLink f).waiting = s.waiting := rfl
@[simp] theorem State.modLink_egress (s : State) (f : Link → Link) : (s.modLink f).egress = s.egress := rfl
@[simp] theorem State.modLink_egressSent (s : State) (f : Link → Link) : (s.modLink f).egressSent = s.egressSent := rfl
@[simp] theorem State.modLink_lastServed (s : State) (f : Link → Link) : (s.modLink f).lastServed = s.lastServed := rfl
@[simp] theorem State.modLink_noticesLost (s : State) (f : Link → Link) : (s.modLink f).noticesLost = s.noticesLost := rfl
@[simp] theorem State.modLink_slotOut (s : State) (f : Link → Link) : (s.modLink f).slotOut = s.slotOut := rfl
@[simp] theorem State.modLink_egressOut (s : State) (f : Link → Link) : (s.modLink f).egressOut = s.egressOut := rfl
@[simp] theorem State.modLink_pending (s : State) (f : Link → Link) : (s.modLink f).pending = s.pending := rfl

end Sys2Proof.Machine
end

