-- ==== Sys2Proof/Laws/Ops.lean ====
section
/-! SUPPORT. What each shared operation does, once: notices, queues, histories, pattern memory, and the command processor. -/

namespace Sys2Proof.Machine

/-! ### Queues -/

/-- A notice joins the egress record queue where 5 places are free, and is lost otherwise (R168). -/
theorem State.notify_cases (s : State) (n : Notice) :
    (s.egress.length ≤ 11 ∧ s.notify n = { s with egress := s.egress ++ [noticeRec n] }) ∨
    (11 < s.egress.length ∧ s.notify n = { s with noticesLost := true }) := by
  unfold State.notify
  split
  · exact .inl ⟨by omega, rfl⟩
  · exact .inr ⟨by omega, rfl⟩

/-- A capture entry joins the queue where it holds fewer than 256, and sets the overflow flag otherwise (R132). -/
theorem State.placeCapture_cases (s : State) (c : CapEntry) :
    (s.capture.length < 256 ∧ s.placeCapture c = { s with capture := s.capture ++ [c] }) ∨
    (256 ≤ s.capture.length ∧ s.placeCapture c = { s with captureOver := true }) := by
  unfold State.placeCapture
  split
  · exact .inl ⟨by assumption, rfl⟩
  · exact .inr ⟨by omega, rfl⟩

/-- A record joins the outbound queue where it holds fewer than 4, and is lost otherwise (R156). -/
theorem State.joinOutbound_cases (s : State) (r : PeerRec) :
    (s.link.outbound.length < 4 ∧
      s.joinOutbound r = { s with link := { s.link with outbound := s.link.outbound ++ [r] } }) ∨
    (4 ≤ s.link.outbound.length ∧ s.joinOutbound r = { s with link := { s.link with peerLost := true } }) := by
  unfold State.joinOutbound
  split
  · exact .inl ⟨by assumption, rfl⟩
  · exact .inr ⟨by omega, rfl⟩

/-- A history never grows past 16 records (R86). -/
theorem appendHistory_length (h : List WinRecord) (r : WinRecord) (hh : h.length ≤ 16) :
    (appendHistory h r).length ≤ 16 := by
  unfold appendHistory
  split <;> simp <;> omega

/-- The record appended is the newest (R86). -/
theorem appendHistory_last (h : List WinRecord) (r : WinRecord) : (appendHistory h r).getLast? = some r := by
  unfold appendHistory
  split <;> simp

/-! ### Pattern memory -/

theorem patOrdered_mono {lo lo' : Nat} (h : lo' ≤ lo) : ∀ m : PatMem, patOrdered lo m = true → patOrdered lo' m = true
  | [], _ => rfl
  | (j, w) :: rest, hm => by
    simp only [patOrdered, Bool.and_eq_true, decide_eq_true_eq] at hm ⊢
    exact ⟨⟨⟨by omega, hm.1.1.2⟩, hm.1.2⟩, hm.2⟩

theorem patCons_ordered {lo i : Nat} (w : PatWord) (rest : PatMem) (hlo : lo ≤ i) (hi : i < 4096)
    (hr : patOrdered (i + 1) rest = true) : patOrdered lo (patCons i w rest) = true := by
  unfold patCons
  split
  · exact patOrdered_mono (by omega) rest hr
  · simp only [patOrdered, Bool.and_eq_true, decide_eq_true_eq]
    exact ⟨⟨⟨hlo, hi⟩, by assumption⟩, hr⟩

theorem patWrite_ordered {lo i : Nat} (w : PatWord) (hlo : lo ≤ i) (hi : i < 4096) :
    ∀ m : PatMem, patOrdered lo m = true → patOrdered lo (patWrite m i w) = true
  | [], _ => patCons_ordered w [] hlo hi rfl
  | (j, v) :: rest, hm => by
    have hm' := hm
    simp only [patOrdered, Bool.and_eq_true, decide_eq_true_eq] at hm
    obtain ⟨⟨⟨hlj, hj⟩, hv⟩, hrest⟩ := hm
    unfold patWrite
    split
    · rename_i hij
      refine patCons_ordered w _ hlo hi ?_
      simp only [patOrdered, Bool.and_eq_true, decide_eq_true_eq]
      exact ⟨⟨⟨by omega, hj⟩, hv⟩, hrest⟩
    · split
      · rename_i hij
        subst hij
        exact patCons_ordered w _ hlo hi hrest
      · simp only [patOrdered, Bool.and_eq_true, decide_eq_true_eq]
        exact ⟨⟨⟨hlj, hj⟩, hv⟩, patWrite_ordered w (by omega) hi rest hrest⟩

/-- A write of an entry below 4,096 keeps pattern memory in its canonical form. -/
theorem patWrite_wf (m : PatMem) (i : Nat) (w : PatWord) (hi : i < 4096) (hm : PatMem.wf m = true) :
    PatMem.wf (patWrite m i w) = true := patWrite_ordered w (Nat.zero_le i) hi m hm

theorem reset_patMem_wf : PatMem.wf State.reset.patMem = true := rfl

/-- An index below every listed one reads as unlisted. -/
theorem patRead_below : ∀ (m : PatMem) {lo i : Nat}, patOrdered lo m = true → i < lo → patRead m i = PatWord.zero
  | [], _, _, _, _ => rfl
  | (j, v) :: rest, lo, i, hm, hi => by
    simp only [patOrdered, Bool.and_eq_true, decide_eq_true_eq] at hm
    obtain ⟨⟨⟨hlj, hj⟩, hv⟩, hrest⟩ := hm
    unfold patRead
    rw [if_neg (by omega)]
    exact patRead_below rest hrest (by omega)

theorem patRead_patCons (i : Nat) (w : PatWord) (rest : PatMem) (h : patRead rest i = PatWord.zero) (k : Nat) :
    patRead (patCons i w rest) k = if k = i then w else patRead rest k := by
  unfold patCons
  split
  · rename_i hw
    split
    · rename_i hk; subst hk; rw [h, hw]
    · rfl
  · rfl

/-- A read after a write: the entry written holds what was written, and every other entry what it held. -/
theorem patRead_patWrite (i : Nat) (w : PatWord) (k : Nat) :
    ∀ (m : PatMem) {lo : Nat}, patOrdered lo m = true → patRead (patWrite m i w) k = if k = i then w else patRead m k
  | [], _, _ => patRead_patCons i w [] rfl k
  | (j, v) :: rest, lo, hm => by
    have hm' := hm
    simp only [patOrdered, Bool.and_eq_true, decide_eq_true_eq] at hm
    obtain ⟨⟨⟨hlj, hj⟩, hv⟩, hrest⟩ := hm
    unfold patWrite
    split
    · rename_i hij
      refine patRead_patCons i w _ ?_ k
      unfold patRead
      rw [if_neg (by omega)]
      exact patRead_below rest hrest (by omega)
    · split
      · rename_i hij
        subst hij
        rw [patRead_patCons i w rest (patRead_below rest hrest (by omega)) k]
        conv_rhs => unfold patRead
        split <;> rfl
      · rename_i h1 h2
        unfold patRead
        rw [patRead_patWrite i w k rest hrest]
        by_cases hkj : k = j
        · subst hkj
          rw [if_pos rfl, if_neg (fun e => h2 e.symm), if_pos rfl]
        · rw [if_neg hkj, if_neg hkj]

/-! ### The command processor -/

/-- The oldest command that the processor can take. -/
theorem State.nextCommand_of_takes {s : State} {r : CmdRec} {rest : List CmdRec} (h : s.takes r rest) :
    s.nextCommand = some r := by
  obtain ⟨hw, he, hq⟩ := h
  simp [State.nextCommand, hw, hq, he]

theorem State.takeCommand_of_takes {s : State} {r : CmdRec} {rest : List CmdRec} (h : s.takes r rest) :
    s.takeCommand r.code = some r := by
  simp [State.takeCommand, State.nextCommand_of_takes h]

/-- A row whose command is the oldest judges and answers it. -/
theorem State.command_of_takes {τ β : Type} {s : State} {r : CmdRec} {rest : List CmdRec} (h : s.takes r rest)
    (free : Bool) (target : Nat → Option τ) (body : CmdRec → Option β) (own : CmdRec → τ → β → Reply) :
    s.command r.code free target body own = (s.judgeCommand r free target body own).give r := by
  simp [State.command, State.takeCommand_of_takes h]

/-- A row whose command is not the oldest, or cannot be taken, changes nothing. -/
theorem State.command_not_taken {τ β : Type} {s : State} {code : Octet} (h : s.takeCommand code = none)
    (free : Bool) (target : Nat → Option τ) (body : CmdRec → Option β) (own : CmdRec → τ → β → Reply) :
    s.command code free target body own = s := by
  simp [State.command, h]

/-- The checks of R167, each with the first answer that applies. -/
theorem State.judgeCommand_cases {τ β : Type} (s : State) (r : CmdRec) (free : Bool) (target : Nat → Option τ)
    (body : CmdRec → Option β) (own : CmdRec → τ → β → Reply) :
    (target r.target.toNat = none ∧ s.judgeCommand r free target body own = Reply.of s .badTarget) ∨
    (∃ t, target r.target.toNat = some t ∧
      ((s.configured = false ∧ free = false ∧ s.judgeCommand r free target body own = Reply.of s .unconfigured) ∨
       ((s.configured = true ∨ free = true) ∧ (r.mbz5 ≠ 0 ∨ r.mbz6 ≠ 0) ∧
          s.judgeCommand r free target body own = Reply.of s .badField) ∨
       ((s.configured = true ∨ free = true) ∧ r.mbz5 = 0 ∧ r.mbz6 = 0 ∧ body r = none ∧
          s.judgeCommand r free target body own = Reply.of s .badLength) ∨
       ((s.configured = true ∨ free = true) ∧ r.mbz5 = 0 ∧ r.mbz6 = 0 ∧
          ∃ b, body r = some b ∧ s.judgeCommand r free target body own = own r t b))) := by
  cases ht : target r.target.toNat with
  | none => exact .inl ⟨rfl, by simp [State.judgeCommand, ht]⟩
  | some t =>
    refine .inr ⟨t, rfl, ?_⟩
    by_cases hc : s.configured = true ∨ free = true
    · by_cases hm : r.mbz5 ≠ 0 ∨ r.mbz6 ≠ 0
      · refine .inr (.inl ⟨hc, hm, ?_⟩)
        have : ¬ (s.configured = false ∧ free = false) := by
          rintro ⟨h1, h2⟩; rcases hc with h | h <;> simp_all
        simp only [State.judgeCommand, ht]
        rw [if_neg (by simpa using this), if_pos hm]
      · have hm' : r.mbz5 = 0 ∧ r.mbz6 = 0 := by
          constructor <;> (by_contra h; exact hm (by tauto))
        have : ¬ (s.configured = false ∧ free = false) := by
          rintro ⟨h1, h2⟩; rcases hc with h | h <;> simp_all
        cases hb : body r with
        | none =>
          refine .inr (.inr (.inl ⟨hc, hm'.1, hm'.2, rfl, ?_⟩))
          simp only [State.judgeCommand, ht, hb]
          rw [if_neg (by simpa using this), if_neg hm]
        | some b =>
          refine .inr (.inr (.inr ⟨hc, hm'.1, hm'.2, b, rfl, ?_⟩))
          simp only [State.judgeCommand, ht, hb]
          rw [if_neg (by simpa using this), if_neg hm]
    · refine .inl ⟨?_, ?_, ?_⟩
      · cases h : s.configured <;> simp_all
      · cases h : free <;> simp_all
      · simp only [State.judgeCommand, ht]
        rw [if_pos]
        cases h1 : s.configured <;> cases h2 : free <;> simp_all

/-- A LOCAL command's reply: it leaves the command queue and its response joins the egress record queue. -/
theorem Reply.give_local (a : Reply) (r : CmdRec) (h : r.origin = .localPort) :
    a.give r = { a.s with
      cmdQ := a.s.cmdQ.drop 1, waiting := false, egress := a.s.egress ++ [responseTo r a.status a.body] } := by
  simp [Reply.give, State.answer, h, responseTo]

/-- A REMOTE command's reply: it leaves the command queue and its response goes to the outbound queue. -/
theorem Reply.give_remote (a : Reply) (r : CmdRec) (h : r.origin = .remote) :
    a.give r = State.joinOutbound { a.s with cmdQ := a.s.cmdQ.drop 1, waiting := false }
      (responseRec r a.status a.body) := by
  simp [Reply.give, State.answer, h]

end Sys2Proof.Machine
end

