-- ==== Sys2Proof/Laws/Commands.lean ====
section
/-! SUPPORT. A LOCAL command taken in a CONFIGURED part: what its row answers, for each shape of command. -/

namespace Sys2Proof.Machine

@[simp] theorem laneOctet_toNat (l : LaneNo) : (laneOctet l).toNat = l.val := by
  simp only [laneOctet, BitVec.toNat_ofNat]; omega

@[simp] theorem fourOctet_toNat (c : Fin 4) : (fourOctet c).toNat = c.val := by
  simp only [fourOctet, BitVec.toNat_ofNat]; omega

@[simp] theorem laneOf_val (l : LaneNo) : laneOf l.val = some l := by simp [laneOf]

@[simp] theorem fourOf_val (c : Fin 4) : fourOf c.val = some c := by simp [fourOf]

@[simp] theorem groupOf_groupOctet (g : GroupId) : groupOf (groupOctet g).toNat = some g := by cases g <;> rfl

/-- A reply that keeps the command queue and leaves the processor free answers its LOCAL command (R167). -/
theorem Reply.give_answered {a : Reply} {r : CmdRec} {rest : List CmdRec} (hr : r.origin = .localPort)
    (hq : a.s.cmdQ = r :: rest) (hw : a.s.waiting = false) : a.give r = a.s.answered r rest a.status a.body := by
  rw [Reply.give_local a r hr, hq, ← hw]
  rfl

/-- A command that passes the checks of R167 is answered by its own rule. -/
theorem State.command_own {τ β : Type} {s : State} {code tag target : Octet} {body : List Block} {rest : List CmdRec}
    (h : s.takes (localCmd code tag target body) rest) {free : Bool} (hc : s.configured = true ∨ free = true)
    {tgt : Nat → Option τ} {t : τ} (ht : tgt target.toNat = some t) {read : CmdRec → Option β} {b : β}
    (hb : read (localCmd code tag target body) = some b) (own : CmdRec → τ → β → Reply) :
    s.command code free tgt read own = (own (localCmd code tag target body) t b).give (localCmd code tag target body) := by
  have e := State.command_of_takes h free tgt read own
  have hc' : ¬((!s.configured && !free) = true) := by rcases hc with h | h <;> simp [h]
  have hz : ¬((localCmd code tag target body).mbz5 ≠ 0 ∨ (localCmd code tag target body).mbz6 ≠ 0) := by simp [localCmd]
  have ht' : tgt (localCmd code tag target body).target.toNat = some t := ht
  refine e.trans ?_
  simp only [State.judgeCommand, ht', if_neg hc', if_neg hz, hb]

/-- A lane command without parameters. -/
theorem State.laneCommand_own {s : State} {code tag : Octet} {l : LaneNo} {rest : List CmdRec}
    (hc : s.configured = true) (h : s.takes (localCmd code tag (laneOctet l) []) rest) (own : CmdRec → LaneNo → Reply) :
    s.laneCommand code own =
      (own (localCmd code tag (laneOctet l) []) l).give (localCmd code tag (laneOctet l) []) :=
  State.command_own h (.inl hc) (t := l) (by simp) (b := ()) rfl _

/-- A group command without parameters. -/
theorem State.groupCommand_own {s : State} {code tag : Octet} {g : GroupId} {rest : List CmdRec}
    (hc : s.configured = true) (h : s.takes (localCmd code tag (groupOctet g) []) rest) (own : GroupId → Reply) :
    s.groupCommand code own = (own g).give (localCmd code tag (groupOctet g) []) :=
  State.command_own h (.inl hc) (t := g) (by simp) (b := ()) rfl _

/-- A channel command without parameters. -/
theorem State.chanCommand_own {s : State} {code tag : Octet} {c : ChanNo} {rest : List CmdRec}
    (hc : s.configured = true) (h : s.takes (localCmd code tag (fourOctet c) []) rest) (own : ChanNo → Reply) :
    s.chanCommand code own = (own c).give (localCmd code tag (fourOctet c) []) :=
  State.command_own h (.inl hc) (t := c) (by simp) (b := ()) rfl _

/-- The parameters of a command with a body of at least one block. -/
theorem bodyOf_params {α : Type} (a : α) {code tag target : Octet} {body : List Block} (hb : body ≠ []) :
    bodyOf (.params a) (localCmd code tag target body) = some a := by
  cases body with
  | nil => exact absurd rfl hb
  | cons => rfl

/-- A WRITE_ENTRY of the row's own table. -/
theorem State.writeCommand_own {α : Type} {s : State} {tag target : Octet} {body : List Block} {rest : List CmdRec}
    (hc : s.configured = true) (hb : body ≠ []) {table : Nat} (ht : target.toNat = table) (hn : table < 10)
    (h : s.takes (localCmd 0x05 tag target body) rest) (a : WriteArg α) (write : Nat → α → Status × State) :
    s.writeCommand table (.params a) write =
      (Reply.of (write a.index a.entry).2 (write a.index a.entry).1).give (localCmd 0x05 tag target body) := by
  have e := State.command_own h (free := false) (.inl hc) (tgt := tableOf) (t := table) (by simp [tableOf, ht, hn])
    (bodyOf_params a hb) (fun _ _ a => Reply.of (write a.index a.entry).2 (write a.index a.entry).1)
  have hx : (localCmd 0x05 tag target body).target.toNat = table := ht
  rw [State.writeCommand, State.nextCommand_of_takes h]
  simp only [hx, ne_eq, not_true_eq_false, false_and, if_false]
  exact e

end Sys2Proof.Machine
end

