-- ==== Sys2Proof/Laws/Frame.lean ====
section
/-! SUPPORT. What the measuring blocks of the part leave alone: the fields of `Fixed` are unchanged by every operation of the
notices, the window unit, the group aligner, the ratio engine, the capture unit, the checker and the hold control. -/

namespace Sys2Proof.Machine

@[simp] theorem State.modLane_fixed (s : State) (l : LaneNo) (f : Lane → Lane) : (s.modLane l f).fixed = s.fixed := rfl
@[simp] theorem State.modTx_fixed (s : State) (l : LaneNo) (f : Tx → Tx) : (s.modTx l f).fixed = s.fixed := rfl
@[simp] theorem State.modAl_fixed (s : State) (l : LaneNo) (f : Aligner → Aligner) : (s.modAl l f).fixed = s.fixed := rfl
@[simp] theorem State.modCk_fixed (s : State) (l : LaneNo) (f : Checker → Checker) : (s.modCk l f).fixed = s.fixed := rfl
@[simp] theorem State.modWin_fixed (s : State) (l : LaneNo) (f : Win → Win) : (s.modWin l f).fixed = s.fixed := rfl
@[simp] theorem State.modMem_fixed (s : State) (l : LaneNo) (f : Member → Member) : (s.modMem l f).fixed = s.fixed := rfl
@[simp] theorem State.modGroup_fixed (s : State) (g : GroupId) (f : Group → Group) : (s.modGroup g f).fixed = s.fixed := rfl

/-- A fold keeps the fixed fields if each of its turns does. -/
theorem foldl_fixed {α : Type} (f : State → α → State) (h : ∀ s a, (f s a).fixed = s.fixed) (xs : List α) (s : State) :
    (xs.foldl f s).fixed = s.fixed := by
  induction xs generalizing s with
  | nil => rfl
  | cons x xs ih => rw [List.foldl_cons, ih, h]

theorem State.forLanes_fixed (f : LaneNo → State → State) (h : ∀ l s, (f l s).fixed = s.fixed) (s : State) :
    (s.forLanes f).fixed = s.fixed := foldl_fixed _ (fun s l => h l s) _ s

@[simp] theorem State.notify_fixed (s : State) (n : Notice) :
    (s.notify n).fixed = s.fixed := by
  unfold State.notify; split <;> rfl

@[simp] theorem State.report_fixed (s : State) (l : LaneNo) (f : Counts → Counts) :
    (s.report l f).fixed = s.fixed := by
  rfl

@[simp] theorem State.forgetAlarm_fixed (s : State) (l : LaneNo) :
    (s.forgetAlarm l).fixed = s.fixed := by
  rfl

@[simp] theorem State.clearRun_fixed (s : State) (l : LaneNo) :
    (s.clearRun l).fixed = s.fixed := by
  rfl

@[simp] theorem State.placeCapture_fixed (s : State) (c : CapEntry) :
    (s.placeCapture c).fixed = s.fixed := by
  unfold State.placeCapture; split <;> rfl

@[simp] theorem State.giveEntry_fixed (s : State) (l : LaneNo) (c : CapEntry) :
    (s.giveEntry l c).fixed = s.fixed := by
  unfold State.giveEntry; split <;> simp

@[simp] theorem State.offerEvent_fixed (s : State) (l : LaneNo) (k : CapKind) (q : Option FrameSeq) (p : Nat) :
    (s.offerEvent l k q p).fixed = s.fixed := by
  unfold State.offerEvent; split <;> simp

@[simp] theorem State.fireTrigger_fixed (s : State) (l : LaneNo) (q : Option FrameSeq) (p : Nat) (t : Tick) :
    (s.fireTrigger l q p t).fixed = s.fixed := by
  simp [State.fireTrigger]

@[simp] theorem State.markSuspects_fixed (s : State) (b : BankNo) :
    (s.markSuspects b).fixed = s.fixed := by
  rfl

@[simp] theorem State.readPattern_fixed (s : State) (l : LaneNo) (i : Nat) (c : Bool) :
    (s.readPattern l i c).2.fixed = s.fixed := by
  simp only [State.readPattern, State.markSuspects_fixed]
  split
  · rfl
  · simp only [State.notify_fixed]; rfl

@[simp] theorem State.modHistory_fixed (s : State) (src : Source) (f : List WinRecord → List WinRecord) :
    (s.modHistory src f).fixed = s.fixed := by
  cases src <;> rfl

@[simp] theorem State.modRecord_fixed (s : State) (src : Source) (n : Nat) (f : WinRecord → WinRecord) :
    (s.modRecord src n f).fixed = s.fixed := by
  simp [State.modRecord]

@[simp] theorem State.startHead_fixed (s : State) :
    (s.startHead).fixed = s.fixed := by
  unfold State.startHead; split <;> [rfl; (split <;> rfl)]

@[simp] theorem State.skipWaiting_fixed (s : State) (src : Source) :
    (s.skipWaiting src).fixed = s.fixed := by
  unfold State.skipWaiting; split <;> [rfl; (simp only [State.modRecord_fixed]; rfl)]

@[simp] theorem State.postJob_fixed (s : State) (src : Source) (q : FrameSeq) (n e b : Nat) :
    (s.postJob src q n e b).fixed = s.fixed := by
  unfold State.postJob
  simp only [State.startHead_fixed]
  split
  · exact State.skipWaiting_fixed s src
  · split
    · split
      · exact State.skipWaiting_fixed s _
      · rfl
    · rfl

@[simp] theorem State.dropLaneJobs_fixed (s : State) (l : LaneNo) :
    (s.dropLaneJobs l).fixed = s.fixed := by
  rfl

@[simp] theorem State.fileRecord_fixed (s : State) (r : WinRecord) (p n : Bool) :
    (s.fileRecord r p n).fixed = s.fixed := by
  unfold State.fileRecord
  dsimp only
  split <;> split <;> simp

@[simp] theorem State.setAlarm_fixed (s : State) (src : Source) (a : Alarm) :
    (s.setAlarm src a).fixed = s.fixed := by
  cases src <;> rfl

@[simp] theorem State.judge_fixed (s : State) (j : Job) (i : JobInputs) : (s.judge j i).fixed = s.fixed := by
  unfold State.judge
  dsimp only
  split <;> simp

@[simp] theorem State.completeJob_fixed (s : State) : s.completeJob.fixed = s.fixed := by
  unfold State.completeJob
  split
  · rfl
  · split
    · rfl
    · dsimp only
      rw [State.startHead_fixed]
      split
      · rfl
      · exact State.judge_fixed s _ _

@[simp] theorem State.refreshLag_fixed (s : State) (g : GroupId) (l : LaneNo) : (s.refreshLag g l).fixed = s.fixed := by
  unfold State.refreshLag
  split
  · rfl
  · split
    · rfl
    · split
      · rfl
      · dsimp only; split <;> simp

@[simp] theorem State.recompute_fixed (s : State) (g : GroupId) : (s.recompute g).fixed = s.fixed := by
  unfold State.recompute
  rw [State.forLanes_fixed _ (fun l s => State.refreshLag_fixed s g l)]
  split <;> simp

@[simp] theorem State.dropMember_fixed (s : State) (g : GroupId) (l : LaneNo) :
    (s.dropMember g l).fixed = s.fixed := by
  unfold State.dropMember; split <;> simp

@[simp] theorem State.dropContrib_fixed (s : State) (g : GroupId) :
    (s.dropContrib g).fixed = s.fixed := by
  exact State.forLanes_fixed _ (fun l s => State.dropMember_fixed s g l) s

@[simp] theorem State.clearWholes_fixed (s : State) (g : GroupId) :
    (s.clearWholes g).fixed = s.fixed := by
  exact State.forLanes_fixed _ (fun l s => by split <;> simp) s

@[simp] theorem State.openGroup_fixed (s : State) (g : GroupId) (w : WinSpec) (r n : Bool) (z : Option FrameSeq) (o : Int) :
    (s.openGroup g w r n z o).fixed = s.fixed := by
  unfold State.openGroup
  dsimp only
  split
  · rw [State.clearWholes_fixed, State.forLanes_fixed _ (fun l s => by split <;> simp)]; rfl
  · rw [State.forLanes_fixed _ (fun l s => by split <;> simp)]; rfl

@[simp] theorem State.closeGroup_fixed (s : State) (g : GroupId) (r : CloseReason) : (s.closeGroup g r).fixed = s.fixed := by
  unfold State.closeGroup
  split
  · rfl
  · dsimp only
    split
    · rfl
    · split
      · rw [State.openGroup_fixed, State.fileRecord_fixed]; rfl
      · rw [State.fileRecord_fixed]; rfl

@[simp] theorem State.closeDue_fixed (s : State) (g : GroupId) (n : Nat) : (s.closeDue g n).fixed = s.fixed := by
  induction n generalizing s with
  | zero => rfl
  | succ n ih => unfold State.closeDue; split <;> simp [ih]

@[simp] theorem State.retirePassed_fixed (s : State) (g : GroupId) :
    (s.retirePassed g).fixed = s.fixed := by
  unfold State.retirePassed; dsimp only; split <;> simp

@[simp] theorem State.settleGroup_fixed (s : State) (g : GroupId) :
    (s.settleGroup g).fixed = s.fixed := by
  simp [State.settleGroup]

@[simp] theorem State.markReported_fixed (s : State) (g : GroupId) (l : LaneNo) (q : FrameSeq) :
    (s.markReported g l q).fixed = s.fixed := by
  rfl

@[simp] theorem State.startContrib_fixed (s : State) (l : LaneNo) :
    (s.startContrib l).fixed = s.fixed := by
  unfold State.startContrib; split <;> simp

@[simp] theorem State.groupEvent_fixed (s : State) (g : GroupId) (b : Option (LaneNo × FrameSeq)) :
    (s.groupEvent g b).fixed = s.fixed := by
  unfold State.groupEvent
  dsimp only
  simp only [State.settleGroup_fixed, apply_ite State.fixed, State.clearWholes_fixed, State.dropContrib_fixed, ite_self]
  split <;> simp

@[simp] theorem State.groupRefresh_fixed (s : State) (l : LaneNo) :
    (s.groupRefresh l).fixed = s.fixed := by
  unfold State.groupRefresh; split <;> simp

@[simp] theorem State.groupLeft_fixed (s : State) (l : LaneNo) :
    (s.groupLeft l).fixed = s.fixed := by
  unfold State.groupLeft; split <;> simp

@[simp] theorem State.groupBoundary_fixed (s : State) (l : LaneNo) (q : FrameSeq) :
    (s.groupBoundary l q).fixed = s.fixed := by
  unfold State.groupBoundary; split <;> simp

@[simp] theorem State.groupCount_fixed (s : State) (l : LaneNo) (c : Checked) :
    (s.groupCount l c).fixed = s.fixed := by
  unfold State.groupCount; split <;> [(split <;> simp); rfl]

@[simp] theorem State.countBlock_fixed (s : State) (l : LaneNo) (c : Checked) : (s.countBlock l c).fixed = s.fixed := by
  unfold State.countBlock
  dsimp only
  split <;> split <;> simp

@[simp] theorem State.releaseItem_fixed (l : LaneNo) (s : State) (it : RunItem) :
    (State.releaseItem l s it).fixed = s.fixed := by
  cases it <;> simp [State.releaseItem]

@[simp] theorem State.releaseRun_fixed (s : State) (l : LaneNo) : (s.releaseRun l).fixed = s.fixed := by
  unfold State.releaseRun
  dsimp only
  split
  · rfl
  · rw [State.groupRefresh_fixed, foldl_fixed _ (State.releaseItem_fixed l)]; rfl

@[simp] theorem State.discardItem_fixed (s : State) (it : RunItem) : (s.discardItem it).fixed = s.fixed := by
  cases it <;> simp [State.discardItem]

@[simp] theorem State.discardRun_fixed (s : State) (l : LaneNo) (c g : Bool) : (s.discardRun l c g).fixed = s.fixed := by
  unfold State.discardRun
  dsimp only
  split
  · rfl
  · rw [State.groupRefresh_fixed]
    split
    · rw [foldl_fixed _ State.discardItem_fixed]; split <;> simp
    · split <;> simp

@[simp] theorem State.openWindow_fixed (s : State) (l : LaneNo) :
    (s.openWindow l).fixed = s.fixed := by
  rfl

@[simp] theorem State.closeWindow_fixed (s : State) (l : LaneNo) (r : CloseReason) : (s.closeWindow l r).fixed = s.fixed := by
  unfold State.closeWindow
  split
  · rfl
  · dsimp only
    have h : ∀ t : State, (({ t with serial := t.serial + 1 } : State)).fixed = t.fixed := fun _ => rfl
    simp only [apply_ite State.fixed, State.openWindow_fixed, State.modWin_fixed, State.fileRecord_fixed, h,
      State.releaseRun_fixed, ite_self]

@[simp] theorem State.discardWindow_fixed (s : State) (l : LaneNo) :
    (s.discardWindow l).fixed = s.fixed := by
  rfl

@[simp] theorem State.nextFrameTags_fixed (s : State) (l : LaneNo) :
    (s.nextFrameTags l).fixed = s.fixed := by
  rfl

@[simp] theorem State.windowBoundary_fixed (s : State) (l : LaneNo) (q : FrameSeq) :
    (s.windowBoundary l q).fixed = s.fixed := by
  unfold State.windowBoundary
  dsimp only
  split
  · simp
  · split
    · simp
    · split <;> simp

@[simp] theorem State.windowTick_fixed (s : State) (l : LaneNo) : (s.windowTick l).fixed = s.fixed := by
  unfold State.windowTick
  dsimp only
  split
  · split <;> simp
  · rfl

@[simp] theorem State.pseudoBoundary_fixed (s : State) (l : LaneNo) :
    (s.pseudoBoundary l).fixed = s.fixed := by
  unfold State.pseudoBoundary; dsimp only; split <;> simp

@[simp] theorem State.rawAdvance_fixed (s : State) (l : LaneNo) : (s.rawAdvance l).fixed = s.fixed := by
  unfold State.rawAdvance
  dsimp only
  split
  · simp
  · split <;> simp

@[simp] theorem State.enterHunt_fixed (s : State) (l : LaneNo) :
    (s.enterHunt l).fixed = s.fixed := by
  rfl

@[simp] theorem State.forceHunt_fixed (s : State) (l : LaneNo) (c : SyncCause) (k g : Bool) :
    (s.forceHunt l c k g).fixed = s.fixed := by
  unfold State.forceHunt
  split
  · rfl
  · dsimp only; split <;> simp

@[simp] theorem State.stopChecker_fixed (s : State) (l : LaneNo) : (s.stopChecker l).fixed = s.fixed := by
  unfold State.stopChecker
  split
  · rfl
  · dsimp only; split <;> simp

@[simp] theorem State.expected_fixed (s : State) (l : LaneNo) : (s.expected l).2.fixed = s.fixed := by
  unfold State.expected
  dsimp only
  split <;> simp

@[simp] theorem State.advanceHeld_fixed (s : State) (l : LaneNo) :
    (s.advanceHeld l).fixed = s.fixed := by
  rfl

@[simp] theorem State.seedBlock_fixed (s : State) (l : LaneNo) (b : Block) :
    (s.seedBlock l b).fixed = s.fixed := by
  rfl

@[simp] theorem State.takePhase_fixed (s : State) (l : LaneNo) (q : Nat) :
    (s.takePhase l q).fixed = s.fixed := by
  unfold State.takePhase; dsimp only; split <;> simp

@[simp] theorem State.enterLocked_fixed (s : State) (l : LaneNo) :
    (s.enterLocked l).fixed = s.fixed := by
  simp [State.enterLocked]

@[simp] theorem State.confirmBlock_fixed (s : State) (l : LaneNo) (b : Block) : (s.confirmBlock l b).fixed = s.fixed := by
  unfold State.confirmBlock
  dsimp only
  split
  · split <;> simp
  · split <;> simp

@[simp] theorem State.countLoss_fixed (s : State) (l : LaneNo) (k : LossKind) (q : Option FrameSeq) (p : Nat) :
    (s.countLoss l k q p).fixed = s.fixed := by
  unfold State.countLoss
  dsimp only
  split <;> simp

@[simp] theorem State.lockedBlock_fixed (s : State) (l : LaneNo) (b : Block) (fp : Option (FrameSeq × Nat)) :
    (s.lockedBlock l b fp).fixed = s.fixed := by
  unfold State.lockedBlock
  dsimp only
  split
  · simp
  · split <;> simp

@[simp] theorem State.checkBlock_fixed (s : State) (l : LaneNo) (b : Block) (fp : Option (FrameSeq × Nat)) :
    (s.checkBlock l b fp).fixed = s.fixed := by
  unfold State.checkBlock
  dsimp only
  have h : ∀ p : Prop, [Decidable p] → (if p then s.enterHunt l else s).fixed = s.fixed := by
    intro p _; split <;> simp
  split
  · exact h _
  · simp [h]
  · simp [apply_ite State.fixed]
  · simp [h]
  · simp [h]

@[simp] theorem State.checkerTake_fixed (s : State) (l : LaneNo) (b : Block) (fp : Option (FrameSeq × Nat)) :
    (s.checkerTake l b fp).fixed = s.fixed := by
  unfold State.checkerTake
  split
  · rfl
  · split
    · dsimp only; split <;> simp
    · dsimp only; split <;> simp

@[simp] theorem State.noteAligned_fixed (s : State) (l : LaneNo) :
    (s.noteAligned l).fixed = s.fixed := by
  unfold State.noteAligned; split <;> simp

@[simp] theorem State.holdEndCheck_fixed (s : State) (l : LaneNo) : (s.holdEndCheck l).fixed = s.fixed := by
  unfold State.holdEndCheck
  split
  · rfl
  · split
    · split <;> simp
    · split <;> simp
    · split
      · simp
      · split <;> simp
    · rfl

@[simp] theorem State.requestHold_fixed (s : State) (l : LaneNo) :
    (s.requestHold l).fixed = s.fixed := by
  unfold State.requestHold; split <;> simp

@[simp] theorem State.settleHold_fixed (s : State) (l : LaneNo) :
    (s.settleHold l).fixed = s.fixed := by
  unfold State.settleHold; split <;> simp

@[simp] theorem State.settleHolds_fixed (s : State) :
    (s.settleHolds).fixed = s.fixed := by
  exact State.forLanes_fixed _ (fun l s => State.settleHold_fixed s l) s

@[simp] theorem State.endStep_fixed (s : State) (l : LaneNo) (q : Option FrameSeq) :
    (s.endStep l q).fixed = s.fixed := by
  unfold State.endStep; split <;> simp

end Sys2Proof.Machine
end

