-- ==== Sys2Proof/Laws/Others.lean ====
section
/-! SUPPORT. What an event of one lane leaves alone in the others: the group aligner changes of a lane only its group items and
its history, and every measuring operation on a lane changes no other lane beyond that. -/

namespace Sys2Proof.Machine

/-- Every lane without its group items and its history, the lane `x` left out. -/
def State.others (s : State) (x : Option LaneNo) : LaneNo → Lane :=
  fun m => if x = some m then Lane.reset else (s.lane m).still

theorem State.others_iff (s t : State) (l : LaneNo) :
    t.others (some l) = s.others (some l) ↔ ∀ m, m ≠ l → (t.lane m).still = (s.lane m).still := by
  constructor
  · intro h m hm
    have := congrFun h m
    simpa [State.others, Ne.symm hm] using this
  · intro h
    funext m
    by_cases hm : l = m
    · simp [State.others, hm]
    · simp [State.others, hm, h m (Ne.symm hm)]

theorem State.others_none_iff (s t : State) :
    t.others none = s.others none ↔ ∀ m, (t.lane m).still = (s.lane m).still := by
  constructor
  · intro h m
    simpa [State.others] using congrFun h m
  · intro h
    funext m
    simp [State.others, h m]

/-- A state with the same lanes has the same others. -/
theorem State.others_of_lanes {s t : State} (h : t.lanes = s.lanes) (x : Option LaneNo) : t.others x = s.others x := by
  unfold State.others State.lane; rw [h]

theorem State.others_modLane_of (s : State) (l : LaneNo) (f : Lane → Lane) (x : Option LaneNo)
    (h : x = some l ∨ (f (s.lane l)).still = (s.lane l).still) : (s.modLane l f).others x = s.others x := by
  funext m
  unfold State.others
  by_cases hm : m = l
  · subst hm
    rcases h with h | h
    · simp [h]
    · simp [h]
  · simp [hm]

@[simp] theorem State.modLane_others (s : State) (l : LaneNo) (f : Lane → Lane) :
    (s.modLane l f).others (some l) = s.others (some l) := s.others_modLane_of l f _ (.inl rfl)
@[simp] theorem State.modTx_others (s : State) (l : LaneNo) (f : Tx → Tx) :
    (s.modTx l f).others (some l) = s.others (some l) := s.others_modLane_of l _ _ (.inl rfl)
@[simp] theorem State.modAl_others (s : State) (l : LaneNo) (f : Aligner → Aligner) :
    (s.modAl l f).others (some l) = s.others (some l) := s.others_modLane_of l _ _ (.inl rfl)
@[simp] theorem State.modCk_others (s : State) (l : LaneNo) (f : Checker → Checker) :
    (s.modCk l f).others (some l) = s.others (some l) := s.others_modLane_of l _ _ (.inl rfl)
@[simp] theorem State.modWin_others (s : State) (l : LaneNo) (f : Win → Win) :
    (s.modWin l f).others (some l) = s.others (some l) := s.others_modLane_of l _ _ (.inl rfl)
@[simp] theorem State.modMem_others (s : State) (l : LaneNo) (f : Member → Member) (x : Option LaneNo) :
    (s.modMem l f).others x = s.others x := s.others_modLane_of l _ _ (.inr rfl)
@[simp] theorem State.modGroup_others (s : State) (g : GroupId) (f : Group → Group) (x : Option LaneNo) :
    (s.modGroup g f).others x = s.others x := rfl

/-- A fold keeps the other lanes if each of its turns does. -/
theorem foldl_others {α : Type} (f : State → α → State) {x : Option LaneNo} (h : ∀ s a, (f s a).others x = s.others x)
    (xs : List α) (s : State) : (xs.foldl f s).others x = s.others x := by
  induction xs generalizing s with
  | nil => rfl
  | cons a xs ih => rw [List.foldl_cons, ih, h]

theorem State.forLanes_others (f : LaneNo → State → State) {x : Option LaneNo} (h : ∀ l s, (f l s).others x = s.others x)
    (s : State) : (s.forLanes f).others x = s.others x := foldl_others _ (fun s l => h l s) _ s

@[simp] theorem State.notify_others (s : State) (n : Notice) {x : Option LaneNo} :
    (s.notify n).others x = s.others x := by
  unfold State.notify; split <;> rfl

@[simp] theorem State.report_others (s : State) (l : LaneNo) (f : Counts → Counts) :
    (s.report l f).others (some l) = s.others (some l) := by
  exact State.others_modLane_of s l _ _ (.inl rfl)

@[simp] theorem State.forgetAlarm_others (s : State) (l : LaneNo) :
    (s.forgetAlarm l).others (some l) = s.others (some l) := by
  exact State.others_modLane_of s l _ _ (.inl rfl)

@[simp] theorem State.clearRun_others (s : State) (l : LaneNo) :
    (s.clearRun l).others (some l) = s.others (some l) := by
  exact State.others_modLane_of s l _ _ (.inl rfl)

@[simp] theorem State.placeCapture_others (s : State) (c : CapEntry) {x : Option LaneNo} :
    (s.placeCapture c).others x = s.others x := by
  unfold State.placeCapture; split <;> rfl

@[simp] theorem State.giveEntry_others (s : State) (l : LaneNo) (c : CapEntry) :
    (s.giveEntry l c).others (some l) = s.others (some l) := by
  unfold State.giveEntry; split <;> simp

@[simp] theorem State.offerEvent_others (s : State) (l : LaneNo) (k : CapKind) (q : Option FrameSeq) (p : Nat) :
    (s.offerEvent l k q p).others (some l) = s.others (some l) := by
  unfold State.offerEvent; split <;> simp

@[simp] theorem State.fireTrigger_others (s : State) (l : LaneNo) (q : Option FrameSeq) (p : Nat) (t : Tick) :
    (s.fireTrigger l q p t).others (some l) = s.others (some l) := by
  simp [State.fireTrigger]

@[simp] theorem State.modHistory_others (s : State) (src : Source) (f : List WinRecord → List WinRecord) {x : Option LaneNo} :
    (s.modHistory src f).others x = s.others x := by
  cases src
  · exact State.others_modLane_of s _ _ _ (.inr rfl)
  · rfl

@[simp] theorem State.modRecord_others (s : State) (src : Source) (n : Nat) (f : WinRecord → WinRecord) {x : Option LaneNo} :
    (s.modRecord src n f).others x = s.others x := by
  simp [State.modRecord]

@[simp] theorem State.startHead_others (s : State) {x : Option LaneNo} :
    (s.startHead).others x = s.others x := by
  unfold State.startHead; split <;> [rfl; (split <;> rfl)]

@[simp] theorem State.skipWaiting_others (s : State) (src : Source) {x : Option LaneNo} :
    (s.skipWaiting src).others x = s.others x := by
  unfold State.skipWaiting; split <;> [rfl; (simp only [State.modRecord_others]; rfl)]

@[simp] theorem State.postJob_others (s : State) (src : Source) (q : FrameSeq) (n e b : Nat) {x : Option LaneNo} :
    (s.postJob src q n e b).others x = s.others x := by
  unfold State.postJob
  simp only [State.startHead_others]
  split
  · exact State.skipWaiting_others s src
  · split
    · split
      · exact State.skipWaiting_others s _
      · rfl
    · rfl

@[simp] theorem State.dropLaneJobs_others (s : State) (l : LaneNo) :
    (s.dropLaneJobs l).others (some l) = s.others (some l) := by
  rfl

@[simp] theorem State.fileRecord_others (s : State) (r : WinRecord) (p n : Bool) {x : Option LaneNo} :
    (s.fileRecord r p n).others x = s.others x := by
  unfold State.fileRecord
  dsimp only
  split <;> split <;> simp

@[simp] theorem State.refreshLag_others (s : State) (g : GroupId) (l : LaneNo) {x : Option LaneNo} : (s.refreshLag g l).others x = s.others x := by
  unfold State.refreshLag
  split
  · rfl
  · split
    · simp
    · split
      · rfl
      · dsimp only; split <;> simp

@[simp] theorem State.recompute_others (s : State) (g : GroupId) {x : Option LaneNo} : (s.recompute g).others x = s.others x := by
  unfold State.recompute
  rw [State.forLanes_others _ (fun l s => State.refreshLag_others s g l)]
  split <;> simp

@[simp] theorem State.dropMember_others (s : State) (g : GroupId) (l : LaneNo) {x : Option LaneNo} :
    (s.dropMember g l).others x = s.others x := by
  unfold State.dropMember; split <;> simp

@[simp] theorem State.dropContrib_others (s : State) (g : GroupId) {x : Option LaneNo} :
    (s.dropContrib g).others x = s.others x := by
  exact State.forLanes_others _ (fun l s => State.dropMember_others s g l) s

@[simp] theorem State.clearWholes_others (s : State) (g : GroupId) {x : Option LaneNo} :
    (s.clearWholes g).others x = s.others x := by
  exact State.forLanes_others _ (fun l s => by split <;> simp) s

@[simp] theorem State.openGroup_others (s : State) (g : GroupId) (w : WinSpec) (r n : Bool) (z : Option FrameSeq) (o : Int) {x : Option LaneNo} :
    (s.openGroup g w r n z o).others x = s.others x := by
  unfold State.openGroup
  dsimp only
  split
  · rw [State.clearWholes_others, State.forLanes_others _ (fun l s => by split <;> simp)]; rfl
  · rw [State.forLanes_others _ (fun l s => by split <;> simp)]; rfl

@[simp] theorem State.closeGroup_others (s : State) (g : GroupId) (r : CloseReason) {x : Option LaneNo} : (s.closeGroup g r).others x = s.others x := by
  unfold State.closeGroup
  split
  · rfl
  · dsimp only
    split
    · rfl
    · split
      · rw [State.openGroup_others, State.fileRecord_others]; rfl
      · rw [State.fileRecord_others]; rfl

@[simp] theorem State.closeDue_others (s : State) (g : GroupId) (n : Nat) {x : Option LaneNo} : (s.closeDue g n).others x = s.others x := by
  induction n generalizing s with
  | zero => rfl
  | succ n ih => unfold State.closeDue; split <;> simp [ih]

@[simp] theorem State.retirePassed_others (s : State) (g : GroupId) {x : Option LaneNo} :
    (s.retirePassed g).others x = s.others x := by
  unfold State.retirePassed; dsimp only; split <;> simp

@[simp] theorem State.settleGroup_others (s : State) (g : GroupId) {x : Option LaneNo} :
    (s.settleGroup g).others x = s.others x := by
  simp [State.settleGroup]

@[simp] theorem State.markReported_others (s : State) (g : GroupId) (l : LaneNo) (q : FrameSeq) {x : Option LaneNo} :
    (s.markReported g l q).others x = s.others x := by
  simp [State.markReported]

@[simp] theorem State.startContrib_others (s : State) (l : LaneNo) {x : Option LaneNo} :
    (s.startContrib l).others x = s.others x := by
  unfold State.startContrib; split <;> simp

@[simp] theorem State.groupEvent_others (s : State) (g : GroupId) (b : Option (LaneNo × FrameSeq)) {x : Option LaneNo} :
    (s.groupEvent g b).others x = s.others x := by
  unfold State.groupEvent
  dsimp only
  simp only [State.settleGroup_others, apply_ite (fun t : State => t.others x), State.clearWholes_others, State.dropContrib_others, ite_self]
  split <;> simp

@[simp] theorem State.groupRefresh_others (s : State) (l : LaneNo) {x : Option LaneNo} :
    (s.groupRefresh l).others x = s.others x := by
  unfold State.groupRefresh; split <;> simp

@[simp] theorem State.groupLeft_others (s : State) (l : LaneNo) {x : Option LaneNo} :
    (s.groupLeft l).others x = s.others x := by
  unfold State.groupLeft; split <;> simp

@[simp] theorem State.groupBoundary_others (s : State) (l : LaneNo) (q : FrameSeq) {x : Option LaneNo} :
    (s.groupBoundary l q).others x = s.others x := by
  unfold State.groupBoundary; split <;> simp

@[simp] theorem State.groupCount_others (s : State) (l : LaneNo) (c : Checked) {x : Option LaneNo} :
    (s.groupCount l c).others x = s.others x := by
  unfold State.groupCount; split <;> [(split <;> simp); rfl]

@[simp] theorem State.countBlock_others (s : State) (l : LaneNo) (c : Checked) : (s.countBlock l c).others (some l) = s.others (some l) := by
  unfold State.countBlock
  dsimp only
  split <;> split <;> simp

@[simp] theorem State.releaseItem_others (l : LaneNo) (s : State) (it : RunItem) :
    (State.releaseItem l s it).others (some l) = s.others (some l) := by
  cases it <;> simp [State.releaseItem]

@[simp] theorem State.releaseRun_others (s : State) (l : LaneNo) : (s.releaseRun l).others (some l) = s.others (some l) := by
  unfold State.releaseRun
  dsimp only
  split
  · rfl
  · rw [State.groupRefresh_others, foldl_others _ (State.releaseItem_others l)]; simp

@[simp] theorem State.discardItem_others (s : State) (it : RunItem) {x : Option LaneNo} : (s.discardItem it).others x = s.others x := by
  cases it <;> simp [State.discardItem]

@[simp] theorem State.discardRun_others (s : State) (l : LaneNo) (c g : Bool) : (s.discardRun l c g).others (some l) = s.others (some l) := by
  unfold State.discardRun
  dsimp only
  split
  · rfl
  · rw [State.groupRefresh_others]
    split
    · rw [foldl_others _ (fun s it => State.discardItem_others s it)]; split <;> simp
    · split <;> simp

@[simp] theorem State.openWindow_others (s : State) (l : LaneNo) :
    (s.openWindow l).others (some l) = s.others (some l) := by
  exact State.others_modLane_of s l _ _ (.inl rfl)

@[simp] theorem State.closeWindow_others (s : State) (l : LaneNo) (r : CloseReason) : (s.closeWindow l r).others (some l) = s.others (some l) := by
  unfold State.closeWindow
  split
  · rfl
  · dsimp only
    have h : ∀ t : State, (({ t with serial := t.serial + 1 } : State)).others (some l) = t.others (some l) := fun _ => rfl
    simp only [apply_ite (fun t : State => t.others (some l)), State.openWindow_others, State.modWin_others, State.fileRecord_others, h,
      State.releaseRun_others, ite_self]

@[simp] theorem State.discardWindow_others (s : State) (l : LaneNo) :
    (s.discardWindow l).others (some l) = s.others (some l) := by
  exact State.others_modLane_of s l _ _ (.inl rfl)

@[simp] theorem State.nextFrameTags_others (s : State) (l : LaneNo) :
    (s.nextFrameTags l).others (some l) = s.others (some l) := by
  exact State.others_modLane_of s l _ _ (.inl rfl)

@[simp] theorem State.windowBoundary_others (s : State) (l : LaneNo) (q : FrameSeq) :
    (s.windowBoundary l q).others (some l) = s.others (some l) := by
  unfold State.windowBoundary
  dsimp only
  split
  · simp
  · split
    · simp
    · split <;> simp

@[simp] theorem State.windowTick_others (s : State) (l : LaneNo) : (s.windowTick l).others (some l) = s.others (some l) := by
  unfold State.windowTick
  dsimp only
  split
  · split <;> simp
  · rfl

@[simp] theorem State.pseudoBoundary_others (s : State) (l : LaneNo) :
    (s.pseudoBoundary l).others (some l) = s.others (some l) := by
  unfold State.pseudoBoundary; dsimp only; split <;> simp

@[simp] theorem State.rawAdvance_others (s : State) (l : LaneNo) : (s.rawAdvance l).others (some l) = s.others (some l) := by
  unfold State.rawAdvance
  dsimp only
  split
  · simp
  · split <;> simp

@[simp] theorem State.enterHunt_others (s : State) (l : LaneNo) :
    (s.enterHunt l).others (some l) = s.others (some l) := by
  exact State.others_modLane_of s l _ _ (.inl rfl)

@[simp] theorem State.forceHunt_others (s : State) (l : LaneNo) (c : SyncCause) (k g : Bool) :
    (s.forceHunt l c k g).others (some l) = s.others (some l) := by
  unfold State.forceHunt
  split
  · rfl
  · dsimp only; split <;> simp

@[simp] theorem State.stopChecker_others (s : State) (l : LaneNo) : (s.stopChecker l).others (some l) = s.others (some l) := by
  unfold State.stopChecker
  split
  · rfl
  · dsimp only; split <;> simp

@[simp] theorem State.advanceHeld_others (s : State) (l : LaneNo) :
    (s.advanceHeld l).others (some l) = s.others (some l) := by
  exact State.others_modLane_of s l _ _ (.inl rfl)

@[simp] theorem State.seedBlock_others (s : State) (l : LaneNo) (b : Block) :
    (s.seedBlock l b).others (some l) = s.others (some l) := by
  exact State.others_modLane_of s l _ _ (.inl rfl)

@[simp] theorem State.takePhase_others (s : State) (l : LaneNo) (q : Nat) :
    (s.takePhase l q).others (some l) = s.others (some l) := by
  unfold State.takePhase; dsimp only; split <;> simp

@[simp] theorem State.enterLocked_others (s : State) (l : LaneNo) :
    (s.enterLocked l).others (some l) = s.others (some l) := by
  simp [State.enterLocked]

@[simp] theorem State.countLoss_others (s : State) (l : LaneNo) (k : LossKind) (q : Option FrameSeq) (p : Nat) :
    (s.countLoss l k q p).others (some l) = s.others (some l) := by
  unfold State.countLoss
  dsimp only
  split <;> simp

@[simp] theorem State.noteAligned_others (s : State) (l : LaneNo) :
    (s.noteAligned l).others (some l) = s.others (some l) := by
  unfold State.noteAligned; split <;> simp

@[simp] theorem State.holdEndCheck_others (s : State) (l : LaneNo) : (s.holdEndCheck l).others (some l) = s.others (some l) := by
  unfold State.holdEndCheck
  split
  · rfl
  · split
    · split <;> simp
    · split <;> simp
    · split
      · simp
      · split <;> simp
    · rfl

@[simp] theorem State.requestHold_others (s : State) (l : LaneNo) :
    (s.requestHold l).others (some l) = s.others (some l) := by
  unfold State.requestHold; split <;> simp

@[simp] theorem State.settleHold_others (s : State) (l : LaneNo) :
    (s.settleHold l).others (some l) = s.others (some l) := by
  unfold State.settleHold; split <;> simp

@[simp] theorem State.endStep_others (s : State) (l : LaneNo) (q : Option FrameSeq) :
    (s.endStep l q).others (some l) = s.others (some l) := by
  unfold State.endStep; split <;> simp

theorem State.settleHold_eq (s : State) (l : LaneNo) (h : (s.lane l).holdReq = false) : s.settleHold l = s := by
  simp [State.settleHold, h]

/-- Equal others have equal hold requests. -/
theorem State.holdReq_of_others {s t : State} {l : LaneNo} (h : t.others (some l) = s.others (some l)) (m : LaneNo)
    (hm : m ≠ l) : (t.lane m).holdReq = (s.lane m).holdReq := by
  have := congrArg Lane.holdReq ((State.others_iff s t l).mp h m hm)
  simpa [Lane.still] using this

/-- The hold requests of one lane's arrival hold no other lane. -/
theorem State.settleHolds_others (s : State) (l : LaneNo) (h : ∀ m, m ≠ l → (s.lane m).holdReq = false) :
    s.settleHolds.others (some l) = s.others (some l) := by
  have key : ∀ (xs : List LaneNo) (t : State), (∀ m, m ≠ l → (t.lane m).holdReq = false) →
      (xs.foldl (fun s l => s.settleHold l) t).others (some l) = t.others (some l) := by
    intro xs
    induction xs with
    | nil => intro t _; rfl
    | cons x xs ih =>
      intro t ht
      by_cases hx : x = l
      · subst hx
        have e : (t.settleHold x).others (some x) = t.others (some x) := by simp
        rw [List.foldl_cons, ih _ (fun m hm => by rw [State.holdReq_of_others e m hm]; exact ht m hm), e]
      · rw [List.foldl_cons, State.settleHold_eq _ _ (ht x hx), ih _ ht]
  exact key _ s h

theorem State.holdReq_of_settled {s : State} (h : s.holdsSettled = true) (l : LaneNo) : (s.lane l).holdReq = false := by
  have h' : ∀ l : LaneNo, (!(s.lane l).holdReq) = true := by
    intro l
    unfold State.holdsSettled at h
    rw [List.all_eq_true] at h
    exact h l (by fin_cases l <;> simp [lanesAll])
  simpa using h' l

/-- An arrival that changes lane `l` alone, followed by its hold requests, keeps the rest. -/
theorem State.keeps_settleHolds {s t : State} {l : LaneNo} (h : s.holdsSettled = true)
    (hf : t.fixed = s.fixed) (ho : t.others (some l) = s.others (some l)) : s.keeps t.settleHolds l := by
  refine ⟨by rw [State.settleHolds_fixed, hf], (State.others_iff _ _ _).mp ?_⟩
  rw [State.settleHolds_others t l (fun m hm => by
    rw [State.holdReq_of_others ho m hm]; exact State.holdReq_of_settled h m), ho]

theorem State.keeps_of_others {s t : State} {l : LaneNo} (hf : t.fixed = s.fixed)
    (ho : t.others (some l) = s.others (some l)) : s.keeps t l := ⟨hf, (State.others_iff _ _ _).mp ho⟩

end Sys2Proof.Machine
end

