-- ==== Sys2Proof/WellFormed.lean ====
section
/-! DEFINITION. Which commands can stand in a record: the operands that a body of at most 255 blocks (R165) can carry. -/

namespace Sys2Proof

/-- The octets of the largest body. -/
def bodyOctetsMax : Nat := 2040

/-- The blocks of the largest body. -/
def bodyBlocksMax : Nat := 255

/-- A reading of a body is well formed when its parameters are. -/
def BodyReading.wf {α : Type} (f : α → Bool) : BodyReading α → Bool
  | .wrongLength => true
  | .params a => f a

/-- A section of an image: its pattern memory entries are a block each (R23), its permit codes an octet each. -/
def ImageSection.wf : ImageSection → Bool
  | .patMem _ es => es.length ≤ bodyBlocksMax
  | .permit _ es => es.all (fun cs => decide (cs.length ≤ bodyOctetsMax))
  | _ => true

/-- The operands fit their record; every other operand is bounded by its type or judged by its command. -/
def Instr.wf : Instr → Bool
  | .sendPeer p => p.wf (fun a => decide (a.body.length ≤ bodyOctetsMax))
  | .writePermitSet p => p.wf (fun a => decide (a.entry.length ≤ bodyOctetsMax))
  | .loadImage p => p.wf (fun xs => xs.all ImageSection.wf)
  | _ => true

end Sys2Proof
end

