-- ==== Sys2Proof/Tests/Slice0.lean ====
section
/-! SUPPORT. Our own tests: ill-formed commands refused, worked examples of the spec replayed over single steps, and for each
statement with hypotheses a state and operands that meet them (`test_wit_<statement>`). -/

namespace Sys2Proof.Tests

open Sys2Proof Sys2Proof.Machine

-- One test after the other: `decide +kernel` waits for the theorems before it, and each wait would hold a thread.
set_option Elab.async false

/-! ### Small states -/

def desc : LaneDesc :=
  ⟨.framed, .check, 4, 16, 3, true, false, .all, .none, .hold, .openEnded, false, 0, true⟩

def rawDesc : LaneDesc := { desc with framing := .raw }

def prof : AlarmProfile := ⟨⟨100, 3⟩, ⟨100, 4⟩, ⟨100, 1⟩, ⟨100, 2⟩, ⟨100, 9⟩⟩

def prbs (k : PatKind) : PatDesc := ⟨k, false, 127, 0, 0⟩

def user (start len : Nat) : PatDesc := ⟨.user, false, 0, start, len⟩

def chanSet : ChanSettings := ⟨7, .handshake, true, 10, .hold⟩

/-- A CONFIGURED part with one lane descriptor and one pattern descriptor everywhere. -/
def part (d : LaneDesc) (p : PatDesc) : State :=
  { State.reset with
    configured := true
    laneMap := Eight.gen (fun l => some ⟨l, l, false, none⟩)
    laneDesc := Eight.all (some d)
    patDesc := Eight.all (some p)
    sched := Vector.replicate 64 (some ⟨1, 2, 3, 4⟩)
    conf := Vector.replicate 32 (some 300)
    profiles := Four.all (some prof)
    groupDesc := ⟨some ⟨.frames 3, true, 0, true⟩, some ⟨.openEnded, false, 0, false⟩⟩
    chan := some chanSet }

def base : State := part desc (prbs .prbs7)
def rawBase : State := part rawDesc (prbs .prbs7)
def userBase : State := part desc (user 10 4)

/-- A LOCAL command record with tag 7. -/
def lcmd (code target : Octet) (body : List Block) : CmdRec := localCmd code 7 target body

def rcmd (code target : Octet) (body : List Block) : CmdRec := ⟨.remote, code, 7, target, 0, 0, body⟩

/-- The state with one command in the command queue. -/
def cmd (s : State) (r : CmdRec) : State := { s with cmdQ := [r] }

/-- A lane changed. -/
def at' (s : State) (l : LaneNo) (f : Lane → Lane) : State := s.putLane l (f (s.lane l))

def ck (st : CkState) (L : Lane) : Lane := { L with ck := { L.ck with state := st } }
def ckRun (run : List RunItem) (L : Lane) : Lane := { L with ck := { L.ck with run := run } }
def tx (st : TxState) (m : TxMode) (L : Lane) : Lane := { L with tx := { L.tx with state := st, mode := m } }
def txBuf (n : Nat) (L : Lane) : Lane := { L with tx := { L.tx with buf := List.replicate n 9 } }
def al (st : AlState) (pos : Nat) (L : Lane) : Lane := { L with al := { L.al with state := st, pos := pos } }
def opened (L : Lane) : Lane := { L with win := { L.win with isOpen := true } }
def held (h : HoldState) (L : Lane) : Lane := { L with hold := h }

def settings (m : InjMode) (src : InjSource) : InjSettings :=
  ⟨m, Eight.all true, .payload, 1, 0, src, 5, 3, 0, 63, false⟩

def chan (st : InjState) (p : InjSettings) : InjChan := { InjChan.reset with state := st, settings := some p }

/-- A state with one injection channel set. -/
def inj (s : State) (c : ChanNo) (ch : InjChan) : State := s.putInj c ch

def heavy (n : Nat) : RunItem := .heavy ⟨n, some 3, 5, 0, true, 0, 0⟩

def job (src : Source) (discard : Bool) : Job := ⟨src, 4, 9, 37, 8128000000, discard, some ⟨37, 8128000000, none, prof⟩⟩

/-- The state after a command. -/
def after (i : Instr) (s : State) : Option State :=
  match exec i s with
  | .next t => some t
  | _ => none

/-! ### Well-formedness: one ill-formed term for each check -/

theorem test_wf_send_peer_too_long :
    Instr.wf (.sendPeer (.params ⟨1, 0, 0, 0, List.replicate 2041 0⟩)) = false := by decide +kernel

theorem test_wf_permit_too_long :
    Instr.wf (.writePermitSet (.params ⟨0, List.replicate 2041 0⟩)) = false := by decide +kernel

theorem test_wf_section_too_long :
    Instr.wf (.loadImage (.params [.patMem 0 (List.replicate 256 0)])) = false := by decide +kernel

theorem test_wf_permit_section_too_long :
    Instr.wf (.loadImage (.params [.permit 0 [List.replicate 2041 0]])) = false := by decide +kernel

theorem test_wf_accepts : Instr.wf (.sendPeer (.params ⟨1, 0, 0, 0, List.replicate 59 0⟩)) = true := by decide

/-! ### Worked examples -/

/-- 2.2, the first PRBS7 block: bits 0 to 14 as its table gives them. -/
theorem test_prbs7_first_bits : (prbsBlock .prbs7 127).1.extractLsb' 0 15 = 0x3040 := by decide +kernel

/-- 2.1: a seed written as 200 for PRBS7 is stored as 72. -/
theorem test_seed_low_bits :
    (PatDescArg.entry ⟨some .prbs7, false, 200, 0, 0⟩).map PatDesc.seed = some 72 := by decide

/-- 6.7, Case 1: E = 37 and N = 8,128,000,000. -/
theorem test_ratio_case1 : ratioOf 37 8128000000 = .dec ⟨455, 9⟩ := by decide +kernel

/-- 6.7, Case 2: E = 9,996 and N = 10^10, the mantissa of 1000. -/
theorem test_ratio_carry : ratioOf 9996 10000000000 = .dec ⟨100, 6⟩ := by decide +kernel

/-- R7: the sum of all eight octets of a built marker is 255 modulo 256. -/
theorem test_marker_sum :
    let b := buildMarker ⟨3, true, .unknown, true, false, 300, 0x5A, 4095, true, true, false⟩
    markerSum b + octetOf b 7 = 255 := by decide +kernel

/-- R113: a run of bits stops at bit 63. -/
theorem test_injection_stops_at_63 : Injection.mask ⟨.payload, 4, 62⟩ = 0xC000000000000000 := by decide +kernel

/-- R2: the first boundary after a reset keeps sequence 0; a later one wraps from 65535 to 0. -/
theorem test_first_boundary_keeps_sequence :
    (after .transmitSlot State.reset).map State.frameSeq = some 0 := by decide +kernel

theorem test_frame_sequence_wraps :
    (after .transmitSlot { State.reset with firstFrame := false, frameSeq := 65535 }).map State.frameSeq = some 0 := by
  decide +kernel

/-- R4: an UNCONFIGURED part sends the filler word, bit 0 first and 1. -/
theorem test_filler_sent :
    ∃ t, exec .transmitSlot State.reset = .next t ∧ t.slotOut = some (Eight.all 0x5555555555555555) := ⟨_, rfl, rfl⟩

/-- R167: DEVICE_RESET is taken UNCONFIGURED, START_TX is not. -/
theorem test_unconfigured_answers :
    ∃ t u, exec .deviceReset (cmd State.reset (lcmd 0x02 0 [])) = .next t ∧
      t.egress = [responseTo (lcmd 0x02 0 []) .ok .empty] ∧
      exec .startTx (cmd State.reset (lcmd 0x08 0 [])) = .next u ∧
      u.egress = [responseTo (lcmd 0x08 0 []) .unconfigured .empty] := ⟨_, _, rfl, rfl, rfl, rfl⟩

/-- R83: the record of a RAW lane carries no sequence, whatever its window holds. -/
theorem test_raw_record_has_no_sequence :
    let s := at' rawBase 4 (fun L => { L with win := { L.win with isOpen := true, first := some 3, last := some 5 } })
    (s.laneRecord 4 .command).first = none ∧ (s.laneRecord 4 .command).last = none := by decide

/-- R103: a LOAD_IMAGE entry of the confidence table past index 31 is refused BAD_FIELD. -/
theorem test_confidence_index_refused :
    (after (.loadImage (.params [.conf 31 [1, 2]])) (cmd State.reset (lcmd 0x03 0 [1]))).map
      (fun t => t.egress.map EgRec.status) = some [4] := by decide +kernel

/-- No word spells a command. -/
theorem test_no_word_decodes : decodeTableWord 64 0xFFFF = none := by decide

/-! ### Witnesses: steps, pins, client port -/

theorem test_wit_StepRunsFrontCommand :
    ({ base with pending := [.tickArrival, .status] } : State).pending = .tickArrival :: [.status] ∧
      base.pending = [] := by decide

theorem test_wit_PinEventsActOnChannels :
    ∀ st : InjState, ((inj base 3 (chan st (settings .single .pin))).inj.get 3).state = st ∧
      ((inj base 3 (chan .waiting (settings .single .pin))).inj.get 3).settings.map InjSettings.source = some .pin := by
  intro st; cases st <;> decide

theorem test_wit_OnlyTicksMoveTickCounter :
    Instr.quietRelease ≠ .tickArrival ∧ Instr.quietRelease ≠ .hardReset ∧
      ∃ t, exec .quietRelease base = .next t := ⟨by decide, by decide, _, rfl⟩

theorem test_wit_OnlyTicksMoveTickCounter_counts :
    (let s := at' (part { desc with spec := .ticks 2 } (prbs .prbs7)) 4 opened
     s.supDue = false ∧ (s.lane 4).win.isOpen = true ∧ s.counting 4 = true ∧ (s.desc 4).spec = .ticks 2 ∧
      (s.lane 4).win.ticks + 1 < 2 ∧ (∃ t, exec .tickArrival s = .next t) ∧ (s.lane 0).win.isOpen = false ∧
      (let u := at' s 4 (fun L => { L with win := { L.win with ticks := 1 } })
       u.supDue = false ∧ 2 ≤ (u.lane 4).win.ticks + 1 ∧ (at' u 4 (held .held)).counting 4 = false)) ∧
      (let s := inj base 1 (chan .waiting (settings .single (.ticks 1)))
       (s.inj.get 1).state ≠ .idle ∧ (s.inj.get 1).settings.map InjSettings.source = some (.ticks 1) ∧
        1 ≤ (s.inj.get 1).actCount + 1 ∧ (s.inj.get 0).state = .idle ∧
        ((inj base 1 (chan .waiting (settings .single (.ticks 2)))).inj.get 1).actCount + 1 < 2) ∧
      (let s := at' base 4 (fun L => { L with remote := ⟨none, true, false⟩ })
       base.supActive = false ∧ s.supActive = true ∧ s.sup.ticks + 1 < s.supPeriod ∧
        (let u := { s with sup := ⟨9, false, false, none⟩ }
         u.supActive = true ∧ u.supPeriod ≤ u.sup.ticks + 1 ∧ u.sup.armed = false)) :=
  ⟨⟨rfl, rfl, rfl, rfl, by decide, ⟨_, rfl⟩, rfl, rfl, by decide, rfl⟩, by decide, by decide⟩

def shortRec : EgRec := responseTo (lcmd 0x08 0 []) .ok .empty
def longRec : EgRec := responseTo (lcmd 0x25 0 []) .ok (.context (base.contextOf 0))

theorem test_wit_EgressArbiterOrder_records :
    ({ base with resetPin := true } : State).resetPin = true ∧ base.resetPin = false ∧
      (shortRec.header :: shortRec.body.blocks)[0]? = some shortRec.header ∧ 0 = shortRec.body.blocks.length ∧
      (longRec.header :: longRec.body.blocks)[0]? = some longRec.header ∧ 0 < longRec.body.blocks.length ∧
      22 = longRec.body.blocks.length ∧ (∃ b, (longRec.header :: longRec.body.blocks)[22]? = some b) :=
  ⟨rfl, rfl, rfl, rfl, rfl, by decide +kernel, by decide +kernel, _, rfl⟩

theorem test_wit_EgressArbiterOrder_lanes :
    let s := at' base 7 (fun L => { L with rxBuf := [5, 6] })
    s.egress = [] ∧ (∀ j : Fin 8, j < 7 → (s.lane (s.lastServed + 1 + j)).rxBuf = []) ∧
      (s.lane (s.lastServed + 1 + (7 : Fin 8))).rxBuf = 5 :: [6] ∧
      ((at' base 0 (fun L => { L with rxBuf := [5, 6] })).lane (base.lastServed + 1 + (0 : Fin 8))).rxBuf = 5 :: [6] ∧
      (∀ l, (base.lane l).rxBuf = []) := by decide

theorem test_wit_DataBlockAcceptedOrDropped :
    base.resetPin = false ∧ ({ base with resetPin := true } : State).resetPin = true ∧
      (let L := (at' base 2 (fun L => txBuf 31 (tx .running .pass L))).lane 2
       L.tx.state = .running ∧ L.tx.mode = .pass ∧ L.tx.buf.length < 32) ∧
      (32 ≤ ((at' base 2 (fun L => txBuf 32 (tx .running .pass L))).lane 2).tx.buf.length) ∧
      (base.lane 2).tx.state ≠ .running := by decide

theorem test_wit_ControlBlocksMakeRecords :
    (base.ingress = .idle ∧ octetOf 0xC300000001070801 7 = 0xC3 ∧ octetOf 0xC300000001070801 3 ≠ 0) ∧
      (octetOf 0xC300000000070801 7 = 0xC3 ∧ octetOf 0xC300000000070801 3 = 0 ∧ octetOf 0xC300000000070801 0 = 1 ∧
        base.cmdQ.length < 8) ∧
      (octetOf 0x1200000000000000 7 ≠ 0xC3 ∧ base.egress.length ≤ 11) ∧
      (({ base with ingress := .assembling 1 [] 2 } : State).ingress = .assembling 1 [] 2 ∧ 1 < 2) ∧
      (({ base with ingress := .assembling 0xC300000001070801 [] 1 } : State).ingress =
        .assembling 0xC300000001070801 [] 1 ∧ octetOf 0xC300000001070801 0 = 1) ∧
      8 ≤ ({ base with cmdQ := List.replicate 8 (lcmd 1 0 []) } : State).cmdQ.length ∧
      (octetOf 0xC300000000070802 7 = 0xC3 ∧ octetOf 0xC300000000070802 3 = 0 ∧ octetOf 0xC300000000070802 0 ≠ 1) ∧
      ({ base with ingress := .assembling 0xC300000001070803 [] 1 } : State).ingress =
        .assembling 0xC300000001070803 [] 1 ∧ octetOf 0xC300000001070803 0 ≠ 1 := by decide +kernel

theorem test_wit_CommandsJudgedInOrder :
    (Instr.startTx, (0x08 : Octet)) ∈ [(Instr.startTx, (0x08 : Octet)), (.stopTx, 0x09)] ∧
      (cmd base ⟨.localPort, 0x08, 7, 8, 0, 0, []⟩).takes ⟨.localPort, 0x08, 7, 8, 0, 0, []⟩ [] ∧
      7 < (8 : Octet).toNat ∧ (7 : Octet).toNat ≤ 7 ∧ State.reset.configured = false ∧
      (cmd State.reset ⟨.localPort, 0x08, 7, 7, 1, 1, [3]⟩).takes ⟨.localPort, 0x08, 7, 7, 1, 1, [3]⟩ [] ∧
      base.configured = true ∧ (cmd base (lcmd 0x01 0 [])).takes (lcmd 0x01 0 []) [] ∧
      (cmd base (lcmd 41 0 [])).takes (lcmd 41 0 []) [] ∧ ((0 : Octet).toNat = 0 ∧ 40 < (41 : Octet).toNat) := by decide

theorem test_wit_CommandsJudgedInOrder_context :
    (∀ p ∈ [(Instr.saveContext, (0x24 : Octet)), (.snapshotContext, 0x25)],
      (cmd base ⟨.localPort, p.2, 7, 8, 0, 0, []⟩).takes ⟨.localPort, p.2, 7, 8, 0, 0, []⟩ [] ∧
      (cmd base ⟨.localPort, p.2, 7, 7, 0, 1, []⟩).takes ⟨.localPort, p.2, 7, 7, 0, 1, []⟩ [] ∧
      (cmd base (lcmd p.2 7 [3])).takes (lcmd p.2 7 [3]) [] ∧
      (cmd State.reset (lcmd p.2 7 [])).takes (lcmd p.2 7 []) [] ∧
      (cmd base (rcmd p.2 7 [])).takes (rcmd p.2 7 []) []) ∧
      (base.link.outbound.length < 4 ∧
        4 ≤ ({ base with link := { base.link with outbound := List.replicate 4 ⟨3, 0, 0, 0, []⟩ } } : State).link.outbound.length) := by
  decide

/-! ### Witnesses: transmit side and injection -/

theorem test_wit_TransmitSlotAdvances :
    let s := at' base 3 (fun L => { L with tx := { L.tx with pendStop := true } })
    s.resetPin = false ∧ s.slotPos = 0 ∧ (s.lane 3).tx.pendStart = false ∧ (s.lane 3).tx.pendStop = true ∧
      ((at' base 3 (fun L => { L with tx := { L.tx with pendStart := true } })).lane 3).tx.pendStart = true ∧
      (∃ t, exec .transmitSlot s = .next t) ∧ (∃ t, exec .transmitSlot base = .next t) :=
  ⟨rfl, rfl, rfl, rfl, rfl, ⟨_, rfl⟩, _, rfl⟩

theorem test_wit_TransmitSlotAdvances_modes :
    let s := at' base 3 (fun L => { tx .running .pass L with tx := { (tx .running .pass L).tx with pendMode := some .pattern } })
    ((s.lane 3).tx.pendMode.getD (s.lane 3).tx.mode = .pattern ∧ (s.lane 3).tx.mode ≠ .pattern ∧
        (s.lane 3).tx.state = .running ∧ (s.lane 3).tx.pendStart = false ∧ (s.lane 3).tx.pendStop = false ∧
        s.rxFramed 3 = true ∧ s.resetPin = false ∧ s.slotPos = 0) ∧
      (base.lane 3).tx.state = .idle ∧ (base.lane 3).tx.pendMode.getD (base.lane 3).tx.mode = (base.lane 3).tx.mode ∧
      ((at' s 3 (fun L => { L with tx := { L.tx with pendStart := true } })).lane 3).tx.pendStart = true ∧
      ((at' s 3 (fun L => { L with tx := { L.tx with pendStop := true } })).lane 3).tx.pendStop = true ∧
      (∃ t, exec .transmitSlot s = .next t) :=
  ⟨by decide, rfl, rfl, rfl, rfl, _, rfl⟩

/-- One slot of a state with no channel at work: the hypotheses of the statements about a slot's block. -/
def plainSlot (s : State) (l : LaneNo) : Prop :=
  let u := if s.slotPos = 0 then s.frameStart else s
  s.resetPin = false ∧ (∀ c, (u.inj.get c).state ≠ .active ∧ ∀ k, (u.inj.get c).deferred.get k = none) ∧
    (s.slotPos ≠ 0 ∨ s.rxFramed l = false) ∧ ∃ t v, exec .transmitSlot s = .next t ∧ t.slotOut = some v

def mid (s : State) : State := { s with slotPos := 127 }

theorem test_wit_PayloadSlotHoldsSource_idle :
    plainSlot (mid base) 2 ∧ ((mid base).lane 2).tx.state = .idle ∧ plainSlot State.reset 0 ∧
      State.reset.configured = false :=
  ⟨⟨rfl, by decide, by decide, _, _, rfl, rfl⟩, rfl, ⟨rfl, by decide, by decide, _, _, rfl, rfl⟩, rfl⟩

theorem test_wit_PayloadSlotHoldsSource_pass :
    let s := at' (mid base) 2 (tx .running .pass)
    let u := at' (mid base) 2 (fun L => txBuf 1 (tx .running .echo L))
    plainSlot s 2 ∧ (s.lane 2).tx.state = .running ∧ (s.lane 2).tx.mode ≠ .pattern ∧ s.configured = true ∧
      (s.lane 2).tx.buf = [] ∧ plainSlot u 2 ∧ (u.lane 2).tx.mode ≠ .pattern ∧ (u.lane 2).tx.buf = 9 :: [] :=
  ⟨⟨rfl, by decide, by decide, _, _, rfl, rfl⟩, rfl, by decide, rfl, rfl, ⟨rfl, by decide, by decide, _, _, rfl, rfl⟩,
    by decide, rfl⟩

theorem test_wit_PayloadSlotHoldsSource_pattern :
    let s := at' (mid base) 2 (tx .running .pattern)
    let u := at' (mid userBase) 2 (tx .running .pattern)
    plainSlot s 2 ∧ (s.lane 2).tx.state = .running ∧ (s.lane 2).tx.mode = .pattern ∧ (s.txPat 2).kind ≠ .user ∧
      plainSlot u 2 ∧ (u.lane 2).tx.mode = .pattern ∧ (u.txPat 2).kind = .user :=
  ⟨⟨rfl, by decide, by decide, _, _, rfl, rfl⟩, rfl, rfl, by decide, ⟨rfl, by decide, by decide, _, _, rfl, rfl⟩, rfl,
    rfl⟩

theorem test_wit_MarkerSlotHoldsMarker :
    base.resetPin = false ∧ base.slotPos = 0 ∧
      (∀ c, (base.frameStart.inj.get c).state ≠ .active ∧ ∀ k, (base.frameStart.inj.get c).deferred.get k = none) ∧
      base.rxFramed 2 = true ∧ base.isMgmt 2 = false ∧ ∃ t v, exec .transmitSlot base = .next t ∧ t.slotOut = some v :=
  ⟨rfl, rfl, by decide, by decide, by decide, _, _, rfl, rfl⟩

/-- The management lane's channel UP with a record to send. -/
def sending (mode : ChanMode) (idx : Nat) : State :=
  { base with
    chan := some { chanSet with mode := mode }
    link := { base.link with up := true, sendIdx := idx, outbound := [⟨4, 0, 0, 0, []⟩] } }

theorem test_wit_MarkerSlotHoldsMarker_sender :
    ∀ mode : ChanMode, ∀ idx ∈ [0, 4],
      let s := sending mode idx
      s.resetPin = false ∧ s.slotPos = 0 ∧ s.rxFramed 7 = true ∧ s.isMgmt 7 = true ∧ s.link.up = true ∧
        (∀ c, (s.frameStart.inj.get c).state ≠ .active ∧ ∀ k, (s.frameStart.inj.get c).deferred.get k = none) ∧
        s.handshake = decide (mode = .handshake) ∧ s.link.outbound = [⟨4, 0, 0, 0, []⟩] ∧
        s.link.sendIdx < (PeerRec.octets ⟨4, 0, 0, 0, []⟩).length ∧
        (idx = 4 → s.link.sendIdx + 1 = (PeerRec.octets ⟨4, 0, 0, 0, []⟩).length) ∧ base.link.up = false ∧
        ({ s with link := { s.link with outbound := [] } } : State).link.outbound = [] := by
  intro mode; cases mode <;> decide

theorem test_wit_MarkersBuildAndRead :
    (4095 : Nat) < 4096 ∧ goodMarker (buildMarker ⟨7, true, .failed, false, true, 65535, 0, 4095, false, true, true⟩) = true := by
  decide +kernel

theorem test_wit_PrbsStagesFollowBlock :
    (PatKind.prbs31, 31, 28) ∈ [(PatKind.prbs7, 7, 6), (.prbs31, 31, 28)] ∧ 63 < 64 ∧
      PatKind.prbs31 ≠ .user ∧ (2147483647 : Stages) ≠ 0 ∧ (2147483647 : Stages).toNat < 2 ^ patOrder .prbs31 := by decide

theorem test_wit_TransmitCommandsSetPending :
    base.configured = true ∧ (cmd base (lcmd 0x08 (laneOctet 7) [])).takes (localCmd 0x08 7 (laneOctet 7) []) [] ∧
      (base.lane 7).tx.state = .idle ∧ ((at' base 7 (tx .running .pass)).lane 7).tx.state = .running ∧
      (cmd base (lcmd 0x09 (laneOctet 7) [])).takes (localCmd 0x09 7 (laneOctet 7) []) [] ∧
      [(3 : Block)] ≠ [] ∧ (cmd base (lcmd 0x0A (laneOctet 0) [3])).takes (localCmd 0x0A 7 (laneOctet 0) [3]) [] := by
  decide

theorem test_wit_RemoteCommandsRecorded :
    base.configured = true ∧ base.link.outbound.length < 4 ∧
      (cmd base (rcmd 0x08 (laneOctet 1) [])).takes ⟨.remote, 0x08, 7, laneOctet 1, 0, 0, []⟩ [] ∧
      (base.lane 1).tx.state = .idle ∧
      (cmd base (rcmd 0x0A (laneOctet 1) [2])).takes ⟨.remote, 0x0A, 7, laneOctet 1, 0, 0, [2]⟩ [] ∧
      (cmd base (rcmd 0x0B (laneOctet 1) [])).takes ⟨.remote, 0x0B, 7, laneOctet 1, 0, 0, []⟩ [] ∧
      base.rxMode 1 ≠ some .pass ∧ base.ckOff 1 = true ∧ base.rxFramed 1 = true := by decide

def armArg : ArmArg :=
  ⟨some .rate, Eight.all true, some .payload, 0, 63, some (.ticks 65535), 16777215, 16777215, 0, 63, some true⟩

theorem test_wit_ArmChannelLoads :
    base.configured = true ∧ [(1 : Block)] ≠ [] ∧
      (cmd base (lcmd 0x18 (fourOctet 3) [1])).takes (localCmd 0x18 7 (fourOctet 3) [1]) [] ∧
      ArmArg.settings { armArg with bits := 65 } = none ∧ ArmArg.settings { armArg with rateK := 16777216 } = none ∧
      (∃ p, ArmArg.settings armArg = some p) ∧ (base.inj.get 3).state = .idle ∧ base.quietPin = false ∧
      ({ base with quietPin := true } : State).quietPin = true :=
  ⟨rfl, by decide, by decide, by decide, by decide, ⟨_, rfl⟩, rfl, rfl, rfl⟩

theorem test_wit_SuspendedChannelsResume :
    base.configured = true ∧ (cmd base (lcmd 0x1A (fourOctet 0) [])).takes (localCmd 0x1A 7 (fourOctet 0) []) [] ∧
      (cmd base (lcmd 0x1D 200 [])).takes (localCmd 0x1D 7 200 []) [] ∧
      (cmd base (lcmd 0x1B (fourOctet 3) [])).takes (localCmd 0x1B 7 (fourOctet 3) []) [] ∧
      ((inj base 0 (chan .active (settings .rate .command))).inj.get 0).state = .active ∧
      (base.inj.get 0).state = .idle ∧ base.quietPin = false ∧
      ((inj base 0 (chan .suspended (settings .rate .continuous))).inj.get 0).state = .suspended := by decide

theorem test_wit_FireAndDisarm :
    let s := inj base 1 (chan .waiting (settings .single .command))
    let u := inj base 1 (chan .suspended { settings .single .command with notify := true })
    base.configured = true ∧ (cmd s (lcmd 0x1C (fourOctet 1) [])).takes (localCmd 0x1C 7 (fourOctet 1) []) [] ∧
      (s.inj.get 1).state = .waiting ∧ (s.inj.get 1).settings.map InjSettings.source = some .command ∧
      (u.inj.get 1).state = .suspended ∧ (u.inj.get 1).settings.map InjSettings.source = some .command ∧
      (base.inj.get 1).state = .idle ∧ (cmd s (lcmd 0x1C 4 [])).takes (localCmd 0x1C 7 4 []) [] ∧
      (cmd u (lcmd 0x19 (fourOctet 1) [])).takes (localCmd 0x19 7 (fourOctet 1) []) [] ∧
      (u.inj.get 1).state ≠ .idle ∧
      (u.inj.get 1).settings = some { settings .single .command with notify := true } ∧
      (s.inj.get 1).settings = some (settings .single .command) ∧ (settings .single .command).notify = false ∧
      u.egress.length ≤ 11 := by decide

theorem test_wit_ChannelExpiriesAct :
    let a := inj base 0 (chan .waiting (settings .single (.ticks 1)))
    let b := inj base 0 (chan .active (settings .single (.frames 2)))
    let c := inj base 0 { chan .active (settings .rate .command) with rateLeft := 1 }
    let d := inj base 0 { chan .active { settings .schedule .continuous with count := 0 } with entry := 63, blocks := 1 }
    let e := inj base 0 { chan .active (settings .schedule .continuous) with entry := 0, blocks := 2 }
    ((a.inj.get 0).state ≠ .idle ∧ (a.inj.get 0).settings.map InjSettings.source = some (.ticks 1) ∧
        1 ≤ (a.inj.get 0).actCount + 1) ∧
      ((b.inj.get 0).state ≠ .idle ∧ (b.inj.get 0).settings.map InjSettings.source = some (.frames 2) ∧
        (b.inj.get 0).actCount + 1 < 2) ∧
      ((c.inj.get 0).settings = some (settings .rate .command) ∧ (c.inj.get 0).state = .active ∧
        (c.inj.get 0).runOver = false ∧ (settings .rate .command).mode = .rate ∧ (c.inj.get 0).rateLeft ≤ 1) ∧
      ((d.inj.get 0).state = .active ∧ (d.inj.get 0).runOver = false ∧ (d.inj.get 0).gap = 0 ∧
        (d.inj.get 0).blocks = 1 ∧ 63 ≤ (d.inj.get 0).entry ∧ (settings .schedule .continuous).mode = .schedule) ∧
      ((e.inj.get 0).state = .active ∧ (e.inj.get 0).runOver = false ∧ (e.inj.get 0).gap = 0 ∧
        (e.inj.get 0).blocks ≠ 1 ∧ 1 ≤ (e.inj.get 0).blocks ∧
        ({ e.inj.get 0 with blocks := 1 } : InjChan).entry < (settings .schedule .continuous).schedLast) := by decide

/-- A RUNNING lane 2 with channel 1 to inject into it, and channel 0 behind a deferred marker injection. -/
def injecting : State :=
  inj (inj (at' (mid base) 2 (tx .running .pass)) 1 (chan .active (settings .single .command))) 0
    { chan .suspended (settings .single .command) with deferred := (Eight.all none).set 3 (some ⟨.marker, 1, 0⟩) }

theorem test_wit_OneInjectionPerBlock_applied :
    let s := injecting
    let none4 : Four (Option Injection) := Four.all none
    let due : Four (Option Injection) := ⟨none, some ⟨.payload, 1, 0⟩, some ⟨.payload, 1, 0⟩, some ⟨.marker, 1, 0⟩⟩
    let u := inj (inj s 2 (chan .active (settings .single .command))) 3 (chan .active (settings .single .command))
    ((s.inj.get 1).candidate (some ⟨.payload, 1, 0⟩) 2 = some ⟨.payload, 1, 0⟩ ∧
        slotFate (s.lane 2).tx false false ⟨.payload, 1, 0⟩ = .applied ∧
        (∀ d, d < (1 : ChanNo) → (s.inj.get d).candidate (due.get d) 2 = none) ∧
        (∀ c, (base.inj.get c).candidate (none4.get c) 2 = none)) ∧
      (slotFate (u.lane 2).tx false false ⟨.marker, 1, 0⟩ = .discarded ∧
        (u.inj.get 3).candidate (due.get 3) 2 = some ⟨.marker, 1, 0⟩ ∧
        (u.inj.get 2).candidate (due.get 2) 2 = some ⟨.payload, 1, 0⟩ ∧ (1 : ChanNo) < 2 ∧
        slotFate { (u.lane 2).tx with framing := .framed } false false ⟨.marker, 1, 0⟩ = .deferred) ∧
      (s.resetPin = false ∧ s.configured = true ∧ s.slotPos ≠ 0 ∧ (s.lane 2).tx.state = .running ∧
        (s.inj.get 1).state = .active ∧ (s.inj.get 1).settings = some (settings .single .command) ∧
        (s.inj.get 1).runOver = false ∧ (settings .single .command).mode = .single ∧
        (settings .single .command).kind = .payload ∧ (settings .single .command).targets.get 2 = true ∧
        (s.inj.get 1).deferred.get 2 = none ∧
        (∀ d, d < (1 : ChanNo) → (s.inj.get d).state ≠ .active ∧ (s.inj.get d).deferred.get 2 = none)) ∧
      ∃ t v, exec .transmitSlot s = .next t ∧ t.slotOut = some v :=
  ⟨by decide, by decide, by decide, _, _, rfl, rfl⟩

theorem test_wit_OneInjectionPerBlock :
    (⟨.payload, 64, 63⟩ : Injection).pos ≤ 63 ∧ (⟨.marker, 1, 0⟩ : Injection).pos ≤ 63 := by decide

/-- The hypotheses of the clauses about a slot as a channel counts it, each at a boundary of its range. -/
theorem test_wit_OneInjectionPerBlock_slot :
    let p (m : InjMode) : InjSettings := { settings m .command with count := 1 }
    let q : InjSettings := { settings .schedule .continuous with count := 0 }
    let sch : InjChan := { chan .active (p .schedule) with blocks := 1, entry := 63 }
    ((chan .waiting (p .rate)).state ≠ .active ∧ (chan .active (p .single)).runOver = false ∧ (p .single).mode = .single) ∧
      (1 < ({ chan .active (p .rate) with rateLeft := 2 } : InjChan).rateLeft ∧ (chan .active (p .rate)).rateLeft ≤ 1) ∧
      (({ sch with gap := 1 } : InjChan).gap ≠ 0 ∧ sch.gap = 0 ∧ 1 < ({ sch with blocks := 2 } : InjChan).blocks ∧
        sch.blocks = 1 ∧ ({ sch with entry := 62 } : InjChan).entry < (p .schedule).schedLast ∧
        (p .schedule).schedLast ≤ sch.entry) ∧
      ((p .schedule).count ≠ 0 ∧ sch.remaining ≤ 1 ∧ (p .schedule).source ≠ .continuous ∧ q.count = 0 ∧
        q.source = .continuous) := by decide

/-- A channel whose run is over, for each way it settles, and one that holds a deferred injection. -/
theorem test_wit_OneInjectionPerBlock_settling :
    let spent (p : InjSettings) : InjChan := { chan .active p with runOver := true, remaining := 1 }
    let one (m : InjMode) (n : Bool) : InjSettings := { settings m .command with count := 1, notify := n }
    (∀ l, (spent (one .single true)).deferred.get l = none) ∧
      (spent (one .rate false)).state = .active ∧ (spent (one .rate false)).runOver = true ∧
      ((one .rate false).mode = .rate ∧ (one .rate false).notify = false) ∧
      ((one .single true).mode = .single ∧ (one .single true).count ≠ 0 ∧ (spent (one .single true)).remaining - 1 = 0 ∧
        (one .single true).notify = true) ∧
      ((settings .schedule .command).mode ≠ .rate ∧ (spent (settings .schedule .command)).remaining ≠ 0 ∧
        { settings .single .continuous with count := 0 }.count = 0) ∧
      (∃ l, ((spent (one .single true)).setDeferred l (some ⟨.payload, 1, 0⟩)).deferred.get l ≠ none) ∧
      base.egress.length ≤ 11 := by
  decide

theorem test_wit_OneInjectionPerBlock_transmitted :
    let s := inj injecting 0 InjChan.reset
    (s.inj.get 1).settings = some (settings .single .command) ∧ s.resetPin = false ∧ s.slotPos ≠ 0 ∧
      (s.inj.get 1).state = .active ∧ (settings .single .command).kind = .payload ∧
      (∀ d, d ≤ (1 : ChanNo) → ∀ k, (s.inj.get d).deferred.get k = none) ∧
      (∀ d, d < (1 : ChanNo) → (s.inj.get d).state ≠ .active) ∧
      ((s.inj.get 1).slot s.schedAt).1 = some ⟨.payload, 1, 0⟩ ∧ (settings .single .command).targets.get 2 = true ∧
      (s.lane 2).tx.state = .running := by decide

/-! ### Witnesses: receive side -/

/-- A good marker with the identity of lane 4 and sequence 7. -/
def marker4 : Block := buildMarker ⟨4, true, .clear, false, false, 7, 0, 0, false, false, false⟩

theorem test_wit_AlignerFollowsMarkers :
    base.rxFramed 4 = true ∧ rawBase.rxFramed 4 = false ∧ goodMarker marker4 = true ∧ goodMarker 0 = false ∧
      (base.lane 4).al.state = .seek ∧
      (∀ p ∈ [126, 127], ((at' base 4 (al .trial p)).lane 4).al.pos = p ∧
        ((at' base 4 (al .aligned p)).lane 4).al.pos = p) ∧
      ((at' base 4 (al .trial 127)).lane 4).al.state = .trial ∧ ((at' base 4 (al .trial 127)).lane 4).al.trial < 2 ∧
      ((at' base 4 (al .aligned 127)).lane 4).al.state = .aligned ∧
      ((at' base 4 (al .aligned 127)).lane 4).al.miss < 3 ∧
      (readMarker marker4).id = (base.map 4).rxId ∧ (readMarker marker4).id ≠ (base.map 5).rxId ∧
      (base.map 5).follow = false ∧
      (let s := { base with laneMap := Eight.gen (fun l => some ⟨l, l, true, none⟩) }
       (s.map 5).follow = true ∧ s.heldByOther 5 4 = true ∧
        ({ s with laneMap := s.laneMap.set 4 (some ⟨4, 3, true, none⟩) } : State).heldByOther 5 4 = false) := by
  decide +kernel

/-- A lane 4 at a marker position, with a bad marker to come or a good one that gives its phase. -/
def atMarker (st : AlState) (s : State) : State := at' s 4 (fun L =>
  { al st 127 L with al := { (al st 127 L).al with trial := 2, miss := 3 } })

theorem test_wit_AlignerFollowsMarkers_phase :
    (let s := at' (atMarker .aligned userBase) 4 (fun L => { L with ck := { L.ck with state := .hunt, reason := .waitPhase } })
     s.takesMarker 4 marker4 = true ∧ (readMarker marker4).id = (s.map 4).rxId ∧ s.counting 4 = true ∧
      (s.rxPat 4).kind = .user ∧ (s.lane 4).ck.state = .hunt ∧ (s.lane 4).ck.reason = .waitPhase ∧
      (readMarker marker4).phase < (s.rxPat 4).len) ∧
      (let s := at' (atMarker .trial (part desc (user 10 0))) 4 (ck .hunt)
       s.takesMarker 4 marker4 = true ∧ (s.lane 4).al.state ≠ .aligned ∧ (s.rxPat 4).len ≤ (readMarker marker4).phase) := by
  decide +kernel

theorem test_wit_AlignerFollowsMarkers_loss :
    (∀ st : CkState, let s := at' (atMarker .aligned base) 4 (ck st)
      s.losesMarkers 4 0 = true ∧ s.counting 4 = true ∧ (s.lane 4).ck.state = st ∧ (s.lane 4).ck.run = [] ∧
        (s.lane 4).armed = false ∧ (s.desc 4).policy = .all ∧ s.capture.length + (s.lane 4).ck.run.length ≤ 254 ∧
        s.memberOf 4 = none ∧ s.egress.length ≤ 11) ∧
      ((at' (atMarker .aligned base) 4 (fun L => opened (ckRun [heavy 20] L))).lane 4).ck.run ≠ [] ∧
      ((at' (atMarker .aligned base) 4 (fun L => opened (ckRun [heavy 20] L))).lane 4).win.isOpen = true := by
  refine ⟨fun st => ?_, by decide, by decide⟩
  cases st <;> decide +kernel

theorem test_wit_PayloadReachesBuffers :
    rawBase.isPayload 4 0 = true ∧ base.isPayload 4 0 = true ∧
      (part { desc with rxMode := .monitor } (prbs .prbs7)).rxMode 4 = some .monitor ∧
      (base.lane 4).rxBuf.length < 32 ∧
      32 ≤ ((at' base 4 (fun L => { L with rxBuf := List.replicate 32 1 })).lane 4).rxBuf.length ∧
      base.rxMode 4 ≠ some .pass ∧ base.rxMode 4 ≠ some .monitor ∧
      (let L := (at' base 4 (fun L => txBuf 31 (tx .running .echo L))).lane 4
       L.tx.state = .running ∧ L.tx.mode = .echo ∧ L.tx.buf.length < 32) ∧
      32 ≤ ((at' base 4 (fun L => txBuf 32 (tx .running .echo L))).lane 4).tx.buf.length := by decide +kernel

/-- A LOCKED, aligned lane 4 of a FRAMED part, at position 40. -/
def locked : State := at' base 4 (fun L => ck .locked (al .aligned 40 L))

theorem test_wit_LockedBlocksJudged :
    (base.rxPat 4).kind ≠ .user ∧ (userBase.rxPat 4).kind = .user ∧
      (patRead [(10, ⟨1, false⟩)] ((userBase.rxPat 4).start + (userBase.lane 4).ck.phase)).agrees = false ∧
      locked.isPayload 4 (locked.expected 4).1 = true ∧ (locked.lane 4).ck.state = .locked ∧
      locked.counting 4 = true ∧ (locked.lane 4).ck.run = [] ∧
      bitErrors (locked.expected 4).1 (locked.expected 4).1 < (locked.desc 4).heavy ∧ locked.rxFramed 4 = true ∧
      (locked.desc 4).heavy ≤ bitErrors (~~~(locked.expected 4).1) (locked.expected 4).1 ∧
      heavyCount (locked.lane 4).ck.run + 1 < (locked.desc 4).lossRun ∧
      (locked.desc 4).lossRun ≤ heavyCount ((at' locked 4 (ckRun [heavy 20, heavy 64])).lane 4).ck.run + 1 := by
  decide +kernel

/-- A LOCKED lane 4 of a RAW part. -/
def rawLocked : State := at' rawBase 4 (ck .locked)

theorem test_wit_LockedBlocksJudged_runs :
    (let s := at' locked 4 (ckRun [heavy 20])
     s.isPayload 4 (s.expected 4).1 = true ∧ (s.lane 4).ck.state = .locked ∧ s.counting 4 = true ∧
      bitErrors (s.expected 4).1 (s.expected 4).1 < (s.desc 4).heavy ∧ s.rxFramed 4 = true ∧ s.aligned 4 = true ∧
      (s.lane 4).armed = false ∧ s.capture.length + (s.lane 4).ck.run.length < 256) ∧
      (let s := rawLocked
       s.isPayload 4 (s.expected 4).1 = true ∧ s.rxFramed 4 = false ∧ s.counting 4 = true ∧ (s.lane 4).ck.state = .locked ∧
        bitErrors (s.expected 4).1 (s.expected 4).1 < (s.desc 4).heavy ∧ (s.lane 4).run.pseudo < 127 ∧
        127 ≤ ((at' s 4 (fun L => { L with run := { L.run with pseudo := 127 } })).lane 4).run.pseudo ∧
        (s.desc 4).heavy ≤ bitErrors (~~~(s.expected 4).1) (s.expected 4).1 ∧ (s.lane 4).win.isOpen = false ∧
        ((at' s 4 opened).lane 4).win.pseudo < 127 ∧ ((at' s 4 opened).lane 4).win.isOpen = true ∧
        heavyCount (s.lane 4).ck.run + 1 < (s.desc 4).lossRun ∧
        (s.desc 4).lossRun ≤ heavyCount ((at' s 4 (ckRun [heavy 20, heavy 64])).lane 4).ck.run + 1 ∧
        (s.desc 4).policy = .all ∧ s.memberOf 4 = none ∧ s.egress.length ≤ 9) := by decide +kernel

theorem test_wit_LockedBlocksJudged_boundary :
    let s := atMarker .aligned base
    s.rxFramed 4 = true ∧ (s.lane 4).al.state = .aligned ∧ 127 ≤ (s.lane 4).al.pos ∧ goodMarker marker4 = true ∧
      (s.lane 4).ck.run = [] ∧ ((at' base 4 (al .aligned 127)).lane 4).al.miss < 3 := by decide +kernel

theorem test_wit_UnlockedAndHeldBlocks_reasons :
    (base.rxFramed 4 = true ∧ base.aligned 4 = false) ∧
      (locked.aligned 4 = true ∧ (locked.rxPat 4).kind ≠ .user) ∧
      (let s := at' userBase 4 (al .aligned 40)
       s.rxFramed 4 = true ∧ s.aligned 4 = true ∧ (s.rxPat 4).kind = .user ∧ s.huntReason 4 ≠ .waitSeed) ∧
      (rawBase.rxFramed 4 = false ∧ (rawBase.rxPat 4).kind ≠ .user) ∧
      ((part rawDesc (user 0 1)).rxFramed 4 = false ∧ ((part rawDesc (user 0 1)).rxPat 4).kind = .user) := by decide

theorem test_wit_UnlockedAndHeldBlocks_lost :
    (∀ r ∈ [HuntReason.waitAlign, .waitPhase, .noPhaseSource],
      let s := at' base 4 (fun L => { L with ck := { L.ck with state := .hunt, reason := r } })
      s.isPayload 4 0 = true ∧ s.counting 4 = true ∧ (s.lane 4).ck.run = [] ∧ (s.lane 4).ck.state = .hunt ∧
        (s.lane 4).ck.reason ≠ .waitSeed) ∧
      (let s := at' (part { desc with autoResync := false } (prbs .prbs7)) 4 (ck .lost)
       s.isPayload 4 0 = true ∧ (s.lane 4).ck.state = .lost ∧ (s.desc 4).autoResync = false) ∧
      (let s := at' base 4 (fun L => ck .lost (al .aligned 40 L))
       s.isPayload 4 0 = true ∧ (s.lane 4).ck.state = .lost ∧ (s.desc 4).autoResync = true ∧ s.huntReason 4 = .waitSeed ∧
        seedStages (patOrder (s.rxPat 4).kind) (inverted (s.rxPat 4).invert 0) = 0 ∧
        seedStages (patOrder (s.rxPat 4).kind) (inverted (s.rxPat 4).invert 0x8000000000000000) ≠ 0 ∧
        (at' base 4 (ck .lost)).huntReason 4 ≠ .waitSeed) := by decide +kernel

theorem test_wit_UnlockedAndHeldBlocks :
    (let s := at' locked 4 (held .held)
     s.isPayload 4 5 = true ∧ (s.lane 4).ck.state ≠ .off ∧ s.counting 4 = false) ∧
      (let s := at' base 4 (fun L => { ck .hunt L with ck := { (ck .hunt L).ck with reason := .waitSeed } })
       s.isPayload 4 0 = true ∧ s.counting 4 = true ∧ (s.lane 4).ck.run = [] ∧ (s.lane 4).ck.state = .hunt ∧
        (s.lane 4).ck.reason = .waitSeed ∧
        seedStages (patOrder (s.rxPat 4).kind) (inverted (s.rxPat 4).invert 0) = 0 ∧
        seedStages (patOrder (s.rxPat 4).kind) (inverted (s.rxPat 4).invert 0x8000000000000000) ≠ 0) ∧
      (let s := at' base 4 (ck .confirm)
       s.isPayload 4 (s.expected 4).1 = true ∧ s.isPayload 4 1 = true ∧ (s.lane 4).ck.state = .confirm ∧
        (0x8000000000000000 : Block) ≠ (s.expected 4).1) ∧
      (userBase.rxPat 4).kind = .user ∧ (1 : Block) ≠ ((at' userBase 4 (ck .confirm)).expected 4).1 := by decide +kernel

theorem test_wit_StartRxBegins :
    (cmd base (lcmd 0x0B (laneOctet 4) [])).takes (localCmd 0x0B 7 (laneOctet 4) []) [] ∧ base.configured = true ∧
      (part { desc with rxMode := .pass } (prbs .prbs7)).rxMode 4 = some .pass ∧
      (base.rxMode 4 ≠ some .pass ∧ ((at' base 4 (ck .hunt)).lane 4).ck.state ≠ .off) ∧
      ((part rawDesc (user 0 1)).rxMode 4 ≠ some .pass ∧ ((part rawDesc (user 0 1)).lane 4).ck.state = .off ∧
        (part rawDesc (user 0 1)).rxFramed 4 = false ∧ ((part rawDesc (user 0 1)).rxPat 4).kind = .user) ∧
      ((base.lane 4).ck.state = .off ∧ base.rxFramed 4 = true) ∧ (rawBase.rxPat 4).kind ≠ .user := by decide

theorem test_wit_StopRxAndResync :
    base.configured = true ∧ (cmd base (lcmd 0x0C (laneOctet 4) [])).takes (localCmd 0x0C 7 (laneOctet 4) []) [] ∧
      (cmd base (lcmd 0x0D (laneOctet 4) [])).takes (localCmd 0x0D 7 (laneOctet 4) []) [] ∧
      (base.lane 4).ck.state = .off ∧ base.holdsSettled = true ∧
      ((at' base 4 (fun L => opened (ck .hunt L))).lane 4).win.isOpen = true ∧
      ((at' locked 4 (ckRun [heavy 20])).lane 4).ck.state ≠ .off ∧
      ((at' locked 4 (ckRun [heavy 20])).lane 4).ck.state ≠ .hunt ∧
      ((at' locked 4 (ckRun [heavy 20])).lane 4).ck.run ≠ [] := by decide

theorem test_wit_RestartLaneForgets :
    base.configured = true ∧ (cmd base (lcmd 0x0E (laneOctet 7) [])).takes (localCmd 0x0E 7 (laneOctet 7) []) [] ∧
      (base.lane 7).ck.state = .off ∧ (locked.lane 4).ck.state ≠ .off ∧
      ({ base with jobs := [job (.lane 7) true] } : State).jobs = [job (.lane 7) true] := by decide

theorem test_wit_ReadsChangeNothing :
    base.configured = true ∧ [(1 : Block)] ≠ [] ∧
      (cmd base (lcmd 0x0F (laneOctet 0) [])).takes (localCmd 0x0F 7 (laneOctet 0) []) [] ∧
      (cmd base (lcmd 0x13 (laneOctet 7) [])).takes (localCmd 0x13 7 (laneOctet 7) []) [] ∧
      (cmd base (lcmd 0x17 (groupOctet .b) [])).takes (localCmd 0x17 7 (groupOctet .b) []) [] ∧
      (cmd base (lcmd 0x12 (laneOctet 7) [1])).takes (localCmd 0x12 7 (laneOctet 7) [1]) [] ∧
      (cmd base (lcmd 0x12 (groupOctet .a) [1])).takes (localCmd 0x12 7 (groupOctet .a) [1]) [] := by decide

theorem test_wit_ReadsChangeNothing_tables :
    [(1 : Block)] ≠ [] ∧ (9 : Octet).toNat < 10 ∧
      (cmd State.reset (lcmd 0x06 9 [1])).takes (localCmd 0x06 7 9 [1]) [] ∧
      (cmd State.reset (lcmd 0x04 3 [1])).takes (localCmd 0x04 7 3 [1]) [] ∧ 0 < tableSize 9 ∧ tableSize 9 ≤ 1 ∧
      4095 < tableSize 3 ∧ tableSize 3 < 4095 + 2 ∧ 10 ≤ (10 : Octet).toNat ∧
      (cmd base (lcmd 0x06 10 [1])).takes (localCmd 0x06 7 10 [1]) [] ∧
      (cmd base (lcmd 0x04 10 [1])).takes (localCmd 0x04 7 10 [1]) [] ∧
      State.reset.laneMap.get 3 = none ∧ base.laneMap.get 3 = some ⟨3, 3, false, none⟩ ∧
      State.reset.laneDesc.get 3 = none ∧ base.laneDesc.get 3 = some desc ∧ State.reset.patDesc.get 3 = none ∧
      base.patDesc.get 3 = some (prbs .prbs7) := by decide

/-! ### Witnesses: windows, ratios, capture, holds -/

theorem test_wit_WindowCommandsOpenAndClose :
    base.configured = true ∧ (cmd base (lcmd 0x10 (laneOctet 4) [])).takes (localCmd 0x10 7 (laneOctet 4) []) [] ∧
      (cmd base (lcmd 0x11 (laneOctet 4) [])).takes (localCmd 0x11 7 (laneOctet 4) []) [] ∧
      (cmd base (lcmd 0x14 (laneOctet 4) [])).takes (localCmd 0x14 7 (laneOctet 4) []) [] ∧
      (base.lane 4).ck.state = .off ∧ (locked.lane 4).ck.state ≠ .off ∧ (locked.lane 4).win.isOpen = false ∧
      locked.holdsSettled = true ∧ ((at' locked 4 opened).lane 4).win.isOpen = true ∧ (locked.lane 4).ck.run = [] := by
  decide

/-- A RAW part whose lane 4 has its window open at the last block of a pseudo-frame. -/
def rawOpen (sp : WinSpec) : State :=
  at' (part { rawDesc with spec := sp } (prbs .prbs7)) 4 (fun L =>
    { ck .locked L with win := { L.win with isOpen := true, pseudo := 127 } })

theorem test_wit_LaneExpiriesAct_pseudo :
    let s := rawOpen .openEnded
    (s.lane 4).win.isOpen = true ∧ s.counting 4 = true ∧ s.rxFramed 4 = false ∧ (s.lane 4).win.pseudo = 127 ∧
      s.holdsSettled = true ∧ (∀ n, (s.desc 4).spec = .frames n → (s.lane 4).win.frames + 1 < n) ∧
      (s.lane 4).win.frames < 4294967294 :=
  ⟨rfl, rfl, rfl, rfl, by decide, fun _ h => WinSpec.noConfusion h, by decide⟩

theorem test_wit_LaneExpiriesAct_length :
    (let s := rawOpen (.frames 1)
     (s.lane 4).win.isOpen = true ∧ s.counting 4 = true ∧ s.rxFramed 4 = false ∧ (s.lane 4).win.pseudo = 127 ∧
      (s.desc 4).spec = .frames 1 ∧ 1 ≤ (s.lane 4).win.frames + 1 ∧ 1 ≤ 65535 ∧
      ((at' s 4 (fun L => { L with win := { L.win with pseudo := 126 } })).lane 4).win.pseudo ≠ 127) ∧
      (let s := at' (part { desc with spec := .frames 1 } (prbs .prbs7)) 4 (fun L => opened (al .aligned 127 L))
       (s.lane 4).win.isOpen = true ∧ s.counting 4 = true ∧ s.rxFramed 4 = true ∧ (s.lane 4).al.state = .aligned ∧
        127 ≤ (s.lane 4).al.pos ∧ (s.desc 4).spec = .frames 1 ∧
        ((at' s 4 (al .aligned 126)).lane 4).al.pos < 127 ∧ ((at' s 4 (al .seek 127)).lane 4).al.state ≠ .aligned ∧
        (base.desc 4).spec = .openEnded) ∧
      (let s := rawOpen (.ticks 1)
       (s.lane 4).win.isOpen = true ∧ s.counting 4 = true ∧ (s.desc 4).spec = .ticks 1 ∧
        1 ≤ (s.lane 4).win.ticks + 1) ∧
      (let s := at' rawBase 4 (fun L => { L with hold := .stepping, stepCount := 127 })
       (s.lane 4).hold = .stepping ∧ s.rxFramed 4 = false ∧ 127 ≤ (s.lane 4).stepCount ∧ s.egress.length ≤ 11) := by
  decide

def gwin : GWin := ⟨0, .frames 3, true, true, 0, Counts.zero, false, none, 0, Eight.all false⟩

theorem test_wit_GroupWindowCommands :
    let s := { base with laneMap := base.laneMap.set 2 (some ⟨2, 2, false, some .a⟩) }
    let u := at' s 2 (al .aligned 0)
    base.configured = true ∧ (cmd base (lcmd 0x15 (groupOctet .a) [])).takes (localCmd 0x15 7 (groupOctet .a) []) [] ∧
      (cmd base (lcmd 0x16 (groupOctet .b) [])).takes (localCmd 0x16 7 (groupOctet .b) []) [] ∧
      base.groupDesc.get .a = some ⟨.frames 3, true, 0, true⟩ ∧ base.alignedMembers .a = [] ∧
      u.alignedMembers .a ≠ [] ∧ s.isMember .a 2 = true ∧
      (({ u with groups := ⟨{ Group.reset with leading := some 9 }, Group.reset⟩ } : State).group .a).leading = some 9 ∧
      (base.group .b).win = none ∧
      (({ base with groups := ⟨Group.reset, { Group.reset with win := some gwin }⟩ } : State).group .b).win =
        some gwin := by decide

theorem test_wit_RatioIsRounded :
    64 ≤ 72057594037927872 ∧ 72057594037927872 % 64 = 0 ∧ 1 ≤ 72057594037927872 ∧ 1 ≤ 281474976710655 ∧
      72057594037927872 ≤ 1 * 10 ^ 17 ∧ 1 * 10 ^ 17 < 10 * 72057594037927872 ∧
      (let i : JobInputs := ⟨37, 8128000000, none, prof⟩
       i.prof = i.prof ∧ i.u = i.u ∧ i.bits = i.bits ∧
        (⟨36, 8128000000, none, prof⟩ : JobInputs).errs ≠ i.errs ∧
        ∀ T ∈ [prof.degradeSet, prof.degradeClear, prof.failSet, prof.failClear, prof.target],
          atOrAbove i.errs i.bits T = atOrAbove 36 i.bits T) :=
  ⟨by decide, by decide, by decide, by decide, by decide, by decide, rfl, rfl, rfl, by decide, by decide +kernel⟩

theorem test_wit_BoundRoundsUp :
    (31 < (base.jobInputs ⟨.lane 0, 0, 4, 32, 64, false, none⟩).errs ∧
        (base.jobInputs ⟨.lane 0, 0, 4, 31, 64, false, none⟩).errs = 31) ∧
      (64 ≤ 72057594037927872 ∧ 65535 ≤ 65535 ∧ 1 ≤ 65535 ∧ 65535 < 100 * 656 ∧ 100 * 64 ≤ 6400) ∧
      boundOf 64 (some 6400) = some ⟨⟨100, 0⟩, true⟩ ∧ (∃ b, boundOf 656 (some 6400) = some b ∧ b.clamped = false) ∧
      boundOf 64 (some 6399) = some ⟨⟨100, 0⟩, true⟩ :=
  ⟨by decide, by decide, by decide +kernel, ⟨⟨⟨976, 2⟩, false⟩, by decide +kernel⟩, by decide +kernel⟩

theorem test_wit_VerdictByExactComparison :
    verdictOf ⟨37, 8128000000, some 300, prof⟩ = .exceeded ∧
      verdictOf ⟨0, 1000000000000, some 300, { prof with target := ⟨100, 3⟩ }⟩ = .proven ∧
      verdictOf ⟨0, 64, none, prof⟩ = .undecided := by decide +kernel

theorem test_wit_RatioJobCompletes :
    base.waiting = false ∧ base.jobs = [] ∧
      ({ base with jobs := [job (.lane 0) true] } : State).jobs = [job (.lane 0) true] ∧
      (job (.lane 0) true).inputs = some ⟨37, 8128000000, none, prof⟩ ∧ (job (.lane 0) true).discard = true ∧
      (job (.group .a) false).discard = false ∧ base.egress.length ≤ 11 ∧
      alarmNext (base.alarmOf (.group .a)) ⟨64, 64, none, prof⟩ ≠ base.alarmOf (.group .a) ∧
      alarmNext (base.alarmOf (.lane 0)) ⟨0, 64, none, prof⟩ = base.alarmOf (.lane 0) ∧
      100 ≤ prof.degradeClear.m ∧ 100 ≤ prof.degradeSet.m ∧ 100 ≤ prof.failSet.m := by decide +kernel

theorem test_wit_CaptureAndTriggerCommands :
    base.configured = true ∧ [(1 : Block)] ≠ [] ∧
      (cmd base (lcmd 0x1E 9 [1])).takes (localCmd 0x1E 7 9 [1]) [] ∧
      (cmd base (lcmd 0x1F 9 [])).takes (localCmd 0x1F 7 9 []) [] ∧
      (cmd base (lcmd 0x20 (laneOctet 7) [1])).takes (localCmd 0x20 7 (laneOctet 7) [1]) [] ∧
      (locked.lane 4).ck.run = [] ∧ locked.capture.length < 256 ∧ locked.egress.length ≤ 11 ∧
      ((at' locked 4 (ckRun [heavy 64])).lane 4).ck.run ≠ [] := by decide

/-- Lane 4 LOCKED with an armed trigger. -/
def armedFor (tr : Trigger) : State :=
  at' (part { desc with trigger := tr } (prbs .prbs7)) 4 (fun L => { ck .locked (al .aligned 40 L) with armed := true })

theorem test_wit_CaptureAndTriggerCommands_blocks :
    let s := armedFor .firstError
    let e := (s.expected 4).1
    (s.isPayload 4 (e ^^^ 1) = true ∧ (s.lane 4).ck.state = .locked ∧ s.counting 4 = true ∧
        bitErrors (e ^^^ 1) e < (s.desc 4).heavy ∧ bitErrors (e ^^^ 1) e ≠ 0 ∧ (s.lane 4).firstErr = false ∧
        (s.lane 4).armed = true ∧ (s.lane 4).holdReq = false ∧ (s.lane 4).hold = .run ∧ (s.lane 4).ck.run = [] ∧
        s.egress.length ≤ 10 ∧ s.capture.length ≤ 254 ∧ s.rxFramed 4 = true ∧ s.aligned 4 = true) ∧
      ((s.desc 4).heavy ≤ bitErrors (~~~e) e ∧ heavyCount (s.lane 4).ck.run + 1 < (s.desc 4).lossRun ∧
        (s.desc 4).lossRun ≤ heavyCount ((at' s 4 (ckRun [heavy 20, heavy 20])).lane 4).ck.run + 1) := by decide +kernel

/-- R136: an errored light block fires FIRST_ERROR, and the trigger is then disarmed. -/
theorem test_first_error_fires :
    (after (.receiveBlock 4 (((armedFor .firstError).expected 4).1 ^^^ 1)) (armedFor .firstError)).map
      (fun t => ((t.lane 4).armed, (t.lane 4).hold)) = some (false, .held) := by decide +kernel

theorem test_wit_CaptureAndTriggerCommands_markers :
    (let s := at' (atMarker .aligned (armedFor .syncLoss)) 4 (ck .locked)
     (s.lane 4).armed = true ∧ s.counting 4 = true ∧ s.losesMarkers 4 0 = true ∧ (s.lane 4).ck.state = .locked ∧
      (at' s 4 (ck .hunt)).losesMarkers 4 0 = true ∧ ((at' s 4 (ck .hunt)).lane 4).ck.state ≠ .locked) ∧
      (let s := atMarker .aligned (armedFor (.frameSeq 7))
       s.takesMarker 4 marker4 = true ∧ (s.lane 4).ck.state ≠ .off ∧ (s.lane 4).ck.run = [] ∧
        (readMarker marker4).seq.toNat = 7) ∧
      ((at' locked 4 (held .held)).counting 4 = false ∧ (base.lane 4).ck.state = .off) := by decide +kernel

/-- R136, step 2: the LANE_ID_MISMATCH entry of the marker that fires FRAME_SEQ stands directly before the TRIGGER entry. -/
theorem test_identity_before_trigger :
    let s := atMarker .aligned (armedFor (.frameSeq 7))
    let s := { s with laneMap := s.laneMap.set 4 (some ⟨4, 5, false, none⟩) }
    (after (.receiveBlock 4 marker4) (at' s 4 (fun L => { L with al := { L.al with seq := 6 } }))).map
      (fun t => t.capture.map CapEntry.kind) = some [.laneIdMismatch, .trigger] := by decide +kernel

theorem test_wit_HoldCommandsMoveLane :
    base.configured = true ∧ (cmd base (lcmd 0x21 (laneOctet 4) [])).takes (localCmd 0x21 7 (laneOctet 4) []) [] ∧
      (cmd base (lcmd 0x22 (laneOctet 4) [])).takes (localCmd 0x22 7 (laneOctet 4) []) [] ∧
      (cmd base (lcmd 0x23 (laneOctet 4) [])).takes (localCmd 0x23 7 (laneOctet 4) []) [] ∧
      (base.lane 4).hold = .run ∧
      (let s := at' base 4 (held .held)
       (s.lane 4).hold ≠ .run ∧ (s.lane 4).hold = .held ∧ s.holdsSettled = true ∧ (s.lane 4).armed = false) ∧
      (let s := at' base 4 (held .stepping)
       (s.lane 4).hold ≠ .run ∧ s.counting 4 = true ∧ (s.lane 4).hold = .stepping) ∧
      (∀ st ∈ [CkState.locked, .confirm, .hunt, .off, .lost],
        let s := at' base 4 (fun L => held .held (ck st L))
        s.counting 4 = false ∧ s.rxFramed 4 = true ∧ (s.lane 4).al.state ≠ .aligned ∧ (s.lane 4).ck.state = st) := by
  decide

/-! ### Witnesses: context records and the far-end channel -/

theorem test_wit_ContextRecordRoundTrip :
    base.contextOf 0 = base.contextOf 0 ∧ (base.lane 0).run.counts.goodOthers = true ∧
      (base.lane 0).run.counts.bits ≤ capBits ∧ (base.lane 0).win.counts.goodOthers = true ∧
      (base.lane 0).win.counts.bits ≤ capBits ∧ (base.lane 0).win.frames ≤ 4294967295 ∧
      (base.lane 0).win.ticks ≤ 4294967295 ∧ (base.lane 0).run.counts.sound = true ∧
      (base.lane 0).win.counts.sound = true := by decide

theorem test_wit_ContextCommandsAnswered :
    base.configured = true ∧ base.hasJob 4 = false ∧
      (cmd base (lcmd 0x25 (laneOctet 4) [])).takes (localCmd 0x25 7 (laneOctet 4) []) [] ∧
      (cmd base (lcmd 0x24 (laneOctet 4) [])).takes (localCmd 0x24 7 (laneOctet 4) []) [] ∧
      (base.lane 4).ck.state = .off ∧ (locked.lane 4).ck.state ≠ .off ∧
      (let s := { cmd base (lcmd 0x25 (laneOctet 4) []) with jobs := [job (.lane 4) false] }
       s.hasJob 4 = true ∧ s.takes (localCmd 0x25 7 (laneOctet 4) []) [] ∧ s.cmdQ = [localCmd 0x25 7 (laneOctet 4) []] ∧
        s.jobs = [job (.lane 4) false] ∧ (job (.lane 4) false).inputs.isSome = true ∧
        ({ s with waiting := true } : State).waiting = true) := by decide

/-- The record of a lane that is not checking, and one with a version no part writes. -/
def goodBody : List Block := (locked.contextOf 4).blocks
def badBody : List Block := List.replicate 22 0

theorem test_wit_RestoreLoadsRecord :
    base.configured = true ∧ base.hasJob 4 = false ∧ goodBody.length = 22 ∧ badBody.length = 22 ∧
      (cmd base (lcmd 0x26 (laneOctet 4) badBody)).takes (localCmd 0x26 7 (laneOctet 4) badBody) [] ∧
      (base.lane 4).hold ≠ .held ∧ ((at' base 4 (held .held)).lane 4).ck.state = .off ∧
      ((at' locked 4 (held .held)).lane 4).hold = .held ∧ ((at' locked 4 (held .held)).lane 4).ck.state ≠ .off ∧
      (readContext badBody).failed.isSome = true ∧ (readContext goodBody).failed = none ∧
      (readContext goodBody).winPresent = 0 ∧
      (readContext ((at' locked 4 opened).contextOf 4).blocks).winPresent ≠ 0 ∧
      (readContext ((at' locked 4 opened).contextOf 4).blocks).failed = none := by decide +kernel

theorem test_wit_PeerAndSupervisorCommands :
    base.configured = true ∧ [(1 : Block)] ≠ [] ∧ (cmd base (lcmd 0x27 0 [1])).takes (localCmd 0x27 7 0 [1]) [] ∧
      (cmd base (lcmd 0x28 0 [1])).takes (localCmd 0x28 7 0 [1]) [] ∧ base.chan = some chanSet ∧
      (List.replicate 59 (0 : Octet)).length ≤ 59 ∧ 59 < (List.replicate 60 (0 : Octet)).length ∧
      base.link.outbound.length < 4 ∧
      4 ≤ ({ base with link := { base.link with outbound := List.replicate 4 ⟨4, 0, 0, 0, []⟩ } } : State).link.outbound.length ∧
      (65535 < 65536 ∧ 65535 ≤ 65535 ∧ 10 = chanSet.period ∧ 65535 ≠ chanSet.period) := by decide

/-- A supervisor with an entry to watch, one tick short of its period. -/
def supState (armed warned : Bool) : State :=
  { at' base 4 (fun L => { L with remote := ⟨some .pass, true, true⟩ }) with sup := ⟨9, armed, warned, none⟩ }

theorem test_wit_SupervisorExpiriesEscalate :
    ∀ armed warned : Bool,
      let s := supState armed warned
      s.chan = some chanSet ∧ s.supActive = true ∧ chanSet.period ≤ s.sup.ticks + 1 ∧ s.holdsSettled = true ∧
        s.sup.armed = armed ∧ s.sup.warned = warned ∧ s.egress.length ≤ 11 ∧ s.link.outbound.length < 4 ∧
        chanSet.action = .hold ∧ (s.lane 4).remote.any = true ∧ (s.lane 4).hold = .run ∧ base.supActive = false := by
  intro armed warned; cases armed <;> cases warned <;> decide

/-- The channel UP on a management lane 4, at a marker position, with an octet taken in. -/
def chanUp (mode : ChanMode) (st : AlState) : State :=
  { atMarker st base with
    chan := some ⟨4, mode, true, 10, .hold⟩
    link := { base.link with up := true, asm := [1], outbound := [⟨4, 0, 0, 0, []⟩] } }

theorem test_wit_InboundOctetsAndRecords_channel :
    (let s := chanUp .handshake .aligned
     s.takesMarker 4 marker4 = true ∧ (s.lane 4).al.state = .aligned ∧ s.isMgmt 4 = true ∧ s.link.up = true ∧
      s.isMgmt 5 = false ∧ s.takesMarker 5 marker4 = false ∧ s.losesMarkers 5 marker4 = false ∧
      s.losesMarkers 4 0 = true ∧ (s.lane 4).ck.state = .off ∧ s.link.asm ≠ [] ∧ s.egress.length ≤ 11 ∧
      (atMarker .aligned base).link.up = false) ∧
      (let s := { chanUp .handshake .trial with link := base.link }
       s.takesMarker 4 marker4 = true ∧ (s.lane 4).al.state = .trial ∧ s.isMgmt 4 = true ∧ s.remoteEnable = true ∧
        s.link.up = false ∧
        ({ s with chan := some ⟨4, .handshake, false, 10, .hold⟩ } : State).remoteEnable = false) := by decide +kernel

def ackMarker : Marker := ⟨4, true, .clear, true, false, 7, 3, 0, false, true, false⟩

theorem test_wit_InboundOctetsAndRecords_octets :
    (let s := chanUp .handshake .aligned
     s.link.up = true ∧ s.handshake = true ∧ ackMarker.resume = true ∧ ackMarker.resumeToggle = s.link.sendToggle ∧
      s.link.outbound = [⟨4, 0, 0, 0, []⟩] ∧ s.link.sendIdx + 1 < (PeerRec.octets ⟨4, 0, 0, 0, []⟩).length ∧
      (PeerRec.octets ⟨4, 0, 0, 0, []⟩).length ≤ 4 + 1 ∧ ackMarker.word = true ∧ ackMarker.toggle ≠ s.link.lastTaken ∧
      s.link.skipping = false ∧ { s.link with skipping := true }.skipping = true) ∧
      ((chanUp .continuous .aligned).handshake = false) ∧
      (5 ≤ [(1 : Octet), 8, 41, 0, 1].length ∧ [(1 : Octet), 8, 41, 0, 1].length = 5 + 0 ∧
        1 ≤ ([(1 : Octet), 8, 41, 0, 1].getD 0 0).toNat ∧ ([(9 : Octet), 8, 41, 0, 1].getD 0 0).toNat > 4 ∧
        [(1 : Octet), 8, 41].length < 5 ∧ ([(1 : Octet), 8, 41, 60].length = 4 ∧ 59 < (60 : Octet).toNat)) ∧
      (let r : PeerRec := ⟨1, 8, 41, 1, [5]⟩
       base.link.skipping = false ∧ base.link.asm = [] ∧ r.body.length ≤ 59 ∧ 1 ≤ r.kind.toNat ∧ r.kind.toNat ≤ 4 ∧
        r.octets.getLast? = some 5) := by decide

/-- R158: the octet of a marker with a new toggle is taken into the assembly; the same marker again gives nothing. -/
theorem test_octet_taken_once :
    let t := (chanUp .handshake .aligned).takeOctet ackMarker
    t.link.asm = [1, 3] ∧ t.takeOctet ackMarker = t := by decide +kernel

theorem test_wit_InboundOctetsAndRecords :
    base.handshake = true ∧
      (let r : PeerRec := ⟨1, 0x08, 41, 1, []⟩
       r.kind = 1 ∧ r.code ∈ ({ base with permit := [0x08] } : State).permit ∧ r.code ∉ base.permit ∧
        base.cmdQ.length < 8 ∧ 8 ≤ ({ base with cmdQ := List.replicate 8 (lcmd 1 0 []) } : State).cmdQ.length ∧
        base.link.outbound.length < 4 ∧ base.egress.length ≤ 11) := by decide

/-! ### Witnesses: tables -/

/-- A WRITE_ENTRY of a table with a body, to be taken next. -/
theorem test_wit_write_entries_taken :
    ∀ table ∈ [(0 : Octet), 1, 2, 3, 4, 5, 6, 7, 8, 9],
      (cmd base (lcmd 0x05 table [1])).takes (localCmd 0x05 7 table [1]) [] ∧ base.configured = true ∧
        [(1 : Block)] ≠ [] := by decide

def mapArg (g : Option GroupId) : LaneMapArg := ⟨7, 0, some false, some g⟩

theorem test_wit_LaneMapEntryWritten :
    LaneMapArg.entry { mapArg none with txId := 8 } = none ∧
      LaneMapArg.entry (mapArg none) = some ⟨7, 0, false, none⟩ ∧
      ((at' base 4 (tx .running .pass)).lane 4).tx.state = .running ∧
      ((locked.lane 4).ck.state ≠ .off ∧ (locked.lane 4).hold ≠ .held) ∧
      ((base.lane 4).tx.state = .idle ∧ (base.lane 4).ck.state = .off ∧ (base.map 4).group = none) ∧
      ((at' locked 4 (held .held)).lane 4).hold = .held ∧ (base.map 4).group ≠ some .b ∧
      ({ base with groups := ⟨Group.reset, { Group.reset with win := some gwin }⟩ } : State).groupOpen (some .b) = true ∧
      base.groupOpen (base.map 4).group = false ∧ base.groupOpen (some .b) = false := by decide

def descArg : LaneDescArg :=
  ⟨some .raw, some .pass, 15, 70, 0, some true, some false, some .all, some (.blockAtLeast 64), some .hold,
    some (.ticks 16777215), some true, 3, some true⟩

theorem test_wit_LaneDescriptorWritten :
    LaneDescArg.entry { descArg with confirm := 16 } = none ∧
      LaneDescArg.entry { descArg with trigger := some (.blockAtLeast 65) } = none ∧
      LaneDescArg.entry { descArg with spec := some (.ticks 16777216) } = none ∧
      LaneDescArg.entry { descArg with confirm := 15, heavy := 0, lossRun := 15 } ≠ none ∧
      LaneDescArg.entry descArg = some ⟨.raw, .pass, 15, 64, 1, true, false, .all, .blockAtLeast 64, .hold,
        .ticks 16777215, true, 3, true⟩ ∧
      (locked.lane 4).ck.state ≠ .off ∧ (locked.lane 4).hold ≠ .held ∧ (base.lane 4).ck.state = .off ∧
      ((at' locked 4 (held .held)).lane 4).hold = .held ∧
      (base.laneDesc.get 4).map LaneDesc.framing ≠ some .raw ∧ (base.laneDesc.get 4).map LaneDesc.framing = some .framed ∧
      base.holdsSettled = true ∧ (base.lane 4).al.state ≠ .aligned := by
  decide

theorem test_wit_PatternDescriptorWritten :
    PatDescArg.entry ⟨some .user, false, 0, 4095, 2⟩ = none ∧ PatDescArg.entry ⟨none, false, 0, 0, 1⟩ = none ∧
      PatDescArg.entry ⟨some .user, false, 0, 4095, 1⟩ = some ⟨.user, false, 0, 4095, 1⟩ ∧
      PatDescArg.entry ⟨some .prbs7, false, 128, 0, 0⟩ = some ⟨.prbs7, false, 127, 0, 0⟩ ∧
      (let s := at' base 4 (tx .running .pattern)
       (s.lane 4).tx.state = .running ∧ (s.lane 4).tx.mode = .pattern ∧ (s.map 4).txId = 4) ∧
      ((locked.lane 4).ck.state ≠ .off ∧ (locked.lane 4).hold ≠ .held ∧ (locked.map 4).rxId = 4) ∧
      (let s := at' locked 4 (held .held)
       ∀ l, ¬((s.lane l).tx.state = .running ∧ (s.lane l).tx.mode = .pattern ∧ (s.map l).txId = 4) ∧
        ((s.map l).rxId ≠ 4 ∨ (s.lane l).ck.state = .off ∨ (s.lane l).hold = .held)) := by decide

theorem test_wit_PatternMemoryWritten :
    4095 < 4096 ∧ 4095 ≤ 4095 ∧
      (let s := at' userBase 4 (tx .running .pattern)
       s.sendsPattern 4 = true ∧ (s.txPat 4).holds 13 = true ∧ (s.txPat 4).holds 14 = false) ∧
      (let s := at' userBase 4 (ck .locked)
       s.checksUnheld 4 = true ∧ (s.rxPat 4).holds 10 = true) ∧
      (∀ l, (userBase.sendsPattern l = false ∨ (userBase.txPat l).holds 10 = false) ∧
        (userBase.checksUnheld l = false ∨ (userBase.rxPat l).holds 10 = false)) ∧
      PatMem.wf userBase.patMem = true ∧
      (cmd State.reset (lcmd 0x07 (fourOctet 3) [])).takes (localCmd 0x07 7 (fourOctet 3) []) [] ∧
      (cmd base (lcmd 0x07 4 [])).takes (localCmd 0x07 7 4 []) [] ∧
      (cmd base (lcmd 0x07 5 [])).takes (localCmd 0x07 7 5 []) [] ∧ 4 < (5 : Octet).toNat := by decide

theorem test_wit_PlainTablesWritten :
    (63 < 64 ∧ 65535 < 65536) ∧ (63 < 64 ∧ 65535 ≤ 65535 ∧ 1 ≤ 255 ∧ 255 ≤ 255 ∧ 1 ≤ 64 ∧ 64 ≤ 64 ∧ 63 ≤ 63) ∧
      (let s := inj base 2 (chan .suspended (settings .single .command))
       (s.inj.get 2).state ≠ .idle ∧ (s.inj.get 2).settings = some (settings .single .command) ∧
        (settings .single .command).schedFirst ≤ 63 ∧ 63 ≤ (settings .single .command).schedLast) ∧
      (∀ c, (base.inj.get c).settings = none) ∧ (31 < 32 ∧ 65535 ≤ 65535) ∧
      (∀ c ∈ [(1 : Octet), 0x08, 0x08], c ≠ 0 ∧ c.toNat ≤ 0x28 ∧ c ∉ [(0x02 : Octet), 0x03, 0x05, 0x26, 0x27, 0x28]) ∧
      [(1 : Octet), 0x08, 0x08].toFinset.card ≤ 16 ∧ (∃ c ∈ [(0x03 : Octet)], c ∈ [(0x02 : Octet), 0x03]) ∧
      16 < ((List.range 17).map (fun n => BitVec.ofNat 8 (n + 8))).toFinset.card := by decide +kernel

theorem test_wit_ProfileAndGroupDescriptorWritten :
    (∀ d ∈ [prof.degradeSet, prof.degradeClear, prof.failSet, prof.failClear, prof.target],
        100 ≤ d.m ∧ d.m ≤ 999 ∧ d.x ≤ 19) ∧
      prof.degradeClear.m * 10 ^ prof.degradeSet.x ≤ prof.degradeSet.m * 10 ^ prof.degradeClear.x ∧
      prof.degradeSet.m * 10 ^ prof.failSet.x ≤ prof.failSet.m * 10 ^ prof.degradeSet.x ∧
      prof.degradeClear.m * 10 ^ prof.failClear.x ≤ prof.failClear.m * 10 ^ prof.degradeClear.x ∧
      prof.failClear.m * 10 ^ prof.failSet.x ≤ prof.failSet.m * 10 ^ prof.failClear.x ∧
      (⟨999, 20⟩ : Decimal).x > 19 ∧
      (let a : GroupDescArg := ⟨some (.frames 65535), some true, 3, some false⟩
       a.spec = some (.frames 65535) ∧ a.rep = some true ∧ a.notices = some false ∧ a.profile = (3 : Fin 4).val) ∧
      (base.group .a).win = none ∧
      (({ base with groups := ⟨Group.reset, { Group.reset with win := some gwin }⟩ } : State).group .b).win.isSome = true := by
  decide

theorem test_wit_ChannelSettingsWritten :
    (let a : ChanArg := ⟨7, some .handshake, some true, 65535, some .release⟩
     let e : ChanSettings := ⟨7, .handshake, true, 65535, .release⟩
     a.lane = e.lane.val ∧ a.mode = some e.mode ∧ a.enable = some e.enable ∧ a.period = e.period ∧
      a.action = some e.action ∧ e.period ≤ 65535 ∧ chanSet.lane = e.lane ∧ chanSet.mode = e.mode) ∧
      base.chan = some chanSet ∧ base.link.outbound = [] ∧ chanSet.lane ≠ 0 ∧
      ({ base with link := { base.link with outbound := [⟨4, 0, 0, 0, []⟩] } } : State).link.outbound ≠ [] := by decide

/-- Lanes 2 and 4 ALIGNED members of group A, lane 4 LOCKED and at a marker position. -/
def grouped (d : LaneDesc) : State :=
  let s := part d (prbs .prbs7)
  let s := { s with laneMap := Eight.gen (fun l => some ⟨l, l, false, if l = 2 ∨ l = 4 then some .a else none⟩) }
  at' (at' s 2 (fun L => { al .aligned 5 L with al := { (al .aligned 5 L).al with seq := 9 } })) 4 (fun L =>
    { ck .locked (al .aligned 127 L) with mem := ⟨true, some 0, false, 0, true⟩ })

theorem test_wit_GroupAlignerFollowsMembers_leading :
    let s := grouped desc
    2 ∈ s.alignedMembers .a ∧ s.alignedMembers .b = [] ∧ (s.lane 2).al.seq = 9 ∧
      (∀ j ∈ s.alignedMembers .a, ahead (s.lane j).al.seq 9 = false) ∧
      (∀ i ∈ s.alignedMembers .a, (s.lane i).al.seq = 9 ∨ ∃ j ∈ s.alignedMembers .a,
        ahead (s.lane j).al.seq (s.lane i).al.seq = true) ∧
      (∀ k ∈ s.alignedMembers .a, (2 : LaneNo) ≤ k) ∧ s.leadingOf .a = some 9 ∧ s.leadingOf .b = none ∧
      ahead 10 9 = true ∧ ((9 : FrameSeq) ≠ 8 ∧ ahead 8 9 = false) ∧ gwin.s0 = none := by decide

/-- Sequences 32768 apart: neither is ahead. -/
theorem test_wit_GroupAlignerFollowsMembers_opposite :
    let s := at' (grouped desc) 2 (fun L => { L with al := { L.al with seq := 32768 } })
    2 ∈ s.alignedMembers .a ∧ 4 ∈ s.alignedMembers .a ∧ (s.lane 2).al.seq ≠ (s.lane 4).al.seq ∧
      ∀ j ∈ s.alignedMembers .a,
        ahead (s.lane j).al.seq (s.lane 2).al.seq = false ∧ ahead (s.lane j).al.seq (s.lane 4).al.seq = false := by decide

/-- Lane 2 with sequences at the three points of a circle where none leads. -/
theorem test_wit_GroupAlignerFollowsMembers_circle :
    let s := { grouped desc with laneMap := Eight.gen (fun l => some ⟨l, l, false, some .a⟩) }
    let s := at' (at' (at' s 1 (fun L => { al .aligned 5 L with al := { (al .aligned 5 L).al with seq := 0 } })) 2
      (fun L => { L with al := { L.al with seq := 22000 } })) 4 (fun L => { L with al := { L.al with seq := 44000 } })
    ∀ i ∈ s.alignedMembers .a, ∃ j ∈ s.alignedMembers .a, ahead (s.lane j).al.seq (s.lane i).al.seq = true := by decide

theorem test_wit_GroupAlignerFollowsMembers_boundary :
    let s := grouped desc
    s.memberOf 4 = some .a ∧ s.rxFramed 4 = true ∧ (s.lane 4).al.state = .aligned ∧ 127 ≤ (s.lane 4).al.pos ∧
      goodMarker marker4 = true ∧ (readMarker marker4).id = (s.map 4).rxId ∧ (s.lane 4).ck.run = [] ∧
      (s.lane 4).armed = false ∧ (s.lane 4).hold ≠ .stepping ∧ s.holdsSettled = true ∧
      (s.putLane 4 { s.lane 4 with al := { (s.lane 4).al with seq := (readMarker marker4).seq } }).leadingOf .a = some 9 ∧
      s.isMember .a 2 = true ∧ s.aligned 2 = true ∧ (s.group .a).win = none ∧ (s.lane 2).mem.skew = false ∧
      s.egress.length ≤ 3 ∧
      (let u := at' s 2 (fun L => { L with al := { L.al with seq := 3 } })
       (u.putLane 4 { u.lane 4 with al := { (u.lane 4).al with seq := (readMarker marker4).seq } }).leadingOf .a = some 7 ∧
        3 ≤ ((7 : FrameSeq) - (u.lane 2).al.seq).toNat) ∧
      ((at' s 2 (al .seek 0)).isMember .a 2 = true ∧ (at' s 2 (al .seek 0)).aligned 2 = false) := by decide +kernel

theorem test_wit_GroupAlignerFollowsMembers_counted :
    let s := at' (grouped desc) 4 (al .aligned 40)
    s.memberOf 4 = some .a ∧ s.rxFramed 4 = true ∧ (s.lane 4).al.state = .aligned ∧ (s.lane 4).al.pos < 127 ∧
      (s.lane 4).ck.state = .locked ∧ s.counting 4 = true ∧ (s.lane 4).ck.run = [] ∧ (s.lane 4).armed = false ∧
      s.holdsSettled = true ∧ bitErrors (s.expected 4).1 (s.expected 4).1 < (s.desc 4).heavy ∧
      (s.lane 4).mem.contributing = true ∧
      ((at' s 4 (fun L => { L with mem := Member.reset })).lane 4).mem.contributing = false ∧
      (s.group .a).win = none ∧
      (({ s with groups := ⟨{ Group.reset with win := some gwin }, Group.reset⟩ } : State).group .a).win = some gwin ∧
      gwin.inSpan 0 = false ∧ ({ gwin with s0 := some 0 } : GWin).inSpan 0 = true := by decide +kernel

/-- R69, R75: a late errored block marks the window, one of a frame outside the span too, where it adds nothing (R72). -/
theorem test_late_errored_block_marks_window :
    ((({ Group.reset with win := some gwin } : Group).countBlock 1 0).win.map (fun w => (w.incomplete, w.counts))
      = some (true, gwin.counts)) ∧
      ((({ Group.reset with win := some gwin } : Group).countBlock 0 0).win = some gwin) ∧
      ((({ Group.reset with win := some gwin, ring := [newEntry 0] } : Group).countBlock 1 0).win = some gwin) := by decide

theorem test_wit_GroupAlignerFollowsMembers_close :
    let w : GWin := { gwin with s0 := some 0, offset := 3 }
    let s := { grouped desc with groups := ⟨{ Group.reset with win := some w }, Group.reset⟩ }
    (s.group .a).win = some w ∧ w.s0 = some 0 ∧ w.spec = .frames 3 ∧ 1 ≤ 3 ∧ w.spec ≠ .frames 0 ∧ w.rep = true ∧
      ({ w with rep := false } : GWin).rep = false ∧ ({ w with spec := .openEnded } : GWin).spec = .openEnded ∧
      (∃ l, s.isMember .a l = true ∧ (s.lane l).mem.contributing = true) ∧
      (∀ l, s.isMember .b l = true → (s.lane l).mem.contributing = false) ∧ w.counts.erroredFrames ≤ capFrames := by
  decide

theorem test_wit_LoadImagePassages :
    (∀ n : Fin 3, (cmd base (lcmd 0x03 (BitVec.ofNat 8 n.val) [1])).takes
        (localCmd 0x03 7 (BitVec.ofNat 8 n.val) [1]) []) ∧
      (cmd base (lcmd 0x03 3 [1])).takes (localCmd 0x03 7 3 [1]) [] ∧ 2 < (3 : Octet).toNat ∧
      (at' base 4 (ck .hunt)).configured = true ∧ (at' base 4 (ck .hunt)).atWork = true ∧ base.atWork = false ∧
      [ImageSection.unknownTable 10].all ImageSection.known = false ∧
      [ImageSection.conf 0 (List.replicate 32 65535)].all ImageSection.known = true ∧ State.reset.configured = false ∧
      (List.replicate 32 65535).length = 32 ∧ (∀ u ∈ List.replicate 32 65535, u ≤ 65535) ∧
      (cmd State.reset (lcmd 0x03 0 [1])).takes (localCmd 0x03 7 0 [1]) [] := by decide

theorem test_wit_DeviceResetResetsPart :
    (cmd base (lcmd 0x02 9 [])).takes (localCmd 0x02 7 9 []) [] := by decide

/-! ### Witnesses: invariants -/

/-- A running part with a lane locked, a job in service and a tick to take. -/
def busy : State :=
  { locked with
    patMem := [(3, ⟨1, true⟩), (4095, ⟨0, false⟩)], jobs := [job (.lane 4) false], pending := [.tickArrival] }

theorem test_wit_PatternMemoryCanonical : PatMem.wf busy.patMem = true ∧ ∃ t, step busy = .next t :=
  ⟨by decide, _, rfl⟩
theorem test_wit_QueuesStayBounded : busy.queuesBounded = true ∧ ∃ t, step busy = .next t := ⟨by decide, _, rfl⟩
theorem test_wit_RatioJobsStayOrdered : jobsOrdered busy.jobs = true ∧ ∃ t, step busy = .next t := ⟨by decide, _, rfl⟩
theorem test_wit_CountsStaySound : busy.countsSound = true ∧ ∃ t, step busy = .next t := ⟨by decide, _, rfl⟩
theorem test_wit_NothingLeftUnsettled :
    busy.holdsSettled = true ∧ busy.supCleared = true ∧ ∃ t, step busy = .next t := ⟨by decide, by decide, _, rfl⟩
theorem test_wit_ConfiguredTablesStayLoaded :
    busy.tablesLoaded = true ∧ busy.configured = true ∧ ∃ t, step busy = .next t := ⟨by decide +kernel, rfl, _, rfl⟩

end Sys2Proof.Tests
end

section
/-! The error ratio computation (chapter 6): the exponent search, the ratio (R102), the bound (R104), the verdict (R106)
and the alarm state (R108), each by the lemmas that say what the model's function answers. -/

namespace Sys2Proof.Machine

/-! ### The exponent -/

/-- `x` brings `e` into the decade of `n`: the exponent of R102, and of R104 with 100 × N for `n`. -/
def HasExponent (e n x : Nat) : Prop := n ≤ e * 10 ^ x ∧ e * 10 ^ x < 10 * n

theorem HasExponent.lt_of_lt {e n x y : Nat} (hx : HasExponent e n x) (hyx : y < x) : e * 10 ^ y < n := by
  have hpow : e * 10 ^ (y + 1) ≤ e * 10 ^ x := Nat.mul_le_mul_left e (Nat.pow_le_pow_right (by decide) hyx)
  have hlt := hx.2
  rw [pow_succ, ← Nat.mul_assoc] at hpow
  omega

theorem HasExponent.unique {e n x y : Nat} (hx : HasExponent e n x) (hy : HasExponent e n y) : y = x := by
  rcases Nat.lt_trichotomy y x with h | h | h
  · exact absurd (hx.lt_of_lt h) (Nat.not_lt.mpr hy.1)
  · exact h
  · exact absurd (hy.lt_of_lt h) (Nat.not_lt.mpr hx.1)

theorem exists_hasExponent {e n : Nat} (he : 1 ≤ e) (hen : e < 10 * n) : ∃ x, HasExponent e n x := by
  have hex : ∃ x, n ≤ e * 10 ^ x :=
    ⟨n, (Nat.lt_pow_self (by decide)).le.trans (Nat.le_mul_of_pos_left _ he)⟩
  refine ⟨Nat.find hex, Nat.find_spec hex, ?_⟩
  cases hx : Nat.find hex with
  | zero => simpa using hen
  | succ k =>
    have hk : ¬ n ≤ e * 10 ^ k := Nat.find_min hex (by omega)
    rw [pow_succ, ← Nat.mul_assoc]
    omega

theorem HasExponent.pos {e n x : Nat} (hx : HasExponent e n x) (hen : e < n) : 1 ≤ x := by
  by_contra h0
  obtain rfl : x = 0 := by omega
  have hle := hx.1
  simp at hle
  omega

theorem HasExponent.le_of_le_pow {e n x k : Nat} (hx : HasExponent e n x) (he : 1 ≤ e) (hn : n ≤ 10 ^ k) : x ≤ k := by
  have hlt : 10 ^ x < 10 ^ (k + 1) := calc
    10 ^ x ≤ e * 10 ^ x := Nat.le_mul_of_pos_left _ he
    _ < 10 * n := hx.2
    _ ≤ 10 ^ (k + 1) := by rw [pow_succ]; omega
  exact Nat.lt_succ_iff.mp ((Nat.pow_lt_pow_iff_right (by decide)).mp hlt)

/-- The search finds the exponent when it starts at or below it and its fuel reaches it. -/
theorem leastExp_eq {e n x : Nat} (hx : HasExponent e n x) :
    ∀ {fuel y : Nat}, y ≤ x → x ≤ y + fuel → leastExp e n fuel y = x := by
  intro fuel
  induction fuel with
  | zero =>
    intro y hyx hxy
    rw [leastExp]
    omega
  | succ fuel ih =>
    intro y hyx hxy
    rw [leastExp]
    split
    · next hle =>
      have hnlt : ¬ y < x := fun hlt => absurd (hx.lt_of_lt hlt) (Nat.not_lt.mpr hle)
      omega
    · next hnle =>
      have hne : y ≠ x := fun h => hnle (h ▸ hx.1)
      exact ih (by omega) (by omega)

/-! ### The ratio (R102) -/

/-- The mantissa of R102 at the exponent `x`. -/
def ratioMantissa (e n x : Nat) : Nat := (2 * e * 10 ^ (x + 2) + n) / (2 * n)

@[simp] theorem ratioOf_zero (n : Nat) : ratioOf 0 n = .zero := rfl

theorem ratioOf_eq {e n x : Nat} (hx : HasExponent e n x) (he : 1 ≤ e) (hfuel : x ≤ 64) :
    ratioOf e n =
      if ratioMantissa e n x = 1000 then .dec ⟨100, x - 1⟩ else .dec ⟨ratioMantissa e n x, x⟩ := by
  simp only [ratioOf, if_neg (Nat.ne_of_gt he), leastExp_eq hx (Nat.zero_le x) (by omega : x ≤ 0 + 64), ratioMantissa]
  rfl

/-- The mantissa is the largest whole number not above the quotient of R102. -/
theorem le_ratioMantissa_iff {e n x k : Nat} (hn : 0 < n) :
    k ≤ ratioMantissa e n x ↔ 2 * n * k ≤ 2 * e * 10 ^ (x + 2) + n := by
  rw [ratioMantissa, Nat.le_div_iff_mul_le (by omega), Nat.mul_comm]

theorem ratioMantissa_lt_iff {e n x k : Nat} (hn : 0 < n) :
    ratioMantissa e n x < k ↔ 2 * e * 10 ^ (x + 2) + n < 2 * n * k := by
  rw [← Nat.not_le, le_ratioMantissa_iff hn, Nat.not_le]

theorem mul_pow_add_two (e x : Nat) : e * 10 ^ (x + 2) = 100 * (e * 10 ^ x) := by ring

theorem HasExponent.ratioMantissa_mem {e n x : Nat} (hx : HasExponent e n x) (hn : 0 < n) :
    100 ≤ ratioMantissa e n x ∧ ratioMantissa e n x ≤ 1000 := by
  obtain ⟨hle, hlt⟩ := hx
  rw [← Nat.lt_add_one_iff (n := 1000), le_ratioMantissa_iff hn, ratioMantissa_lt_iff hn, Nat.mul_assoc 2 e,
    mul_pow_add_two]
  omega

/-- R102: a mantissa of 1000 occurs only from 9.995 × N on. -/
theorem le_of_ratioMantissa_eq {e n x : Nat} (hn : 0 < n) (hm : ratioMantissa e n x = 1000) :
    9995 * n ≤ 1000 * (e * 10 ^ x) := by
  have hle := (le_ratioMantissa_iff hn).mp hm.ge
  rw [Nat.mul_assoc 2 e, mul_pow_add_two] at hle
  omega

theorem pos_of_ratioMantissa_eq {e n x : Nat} (hn : 0 < n) (hen : e ≤ n) (hm : ratioMantissa e n x = 1000) : 1 ≤ x := by
  by_contra h0
  obtain rfl : x = 0 := by omega
  have hle := le_of_ratioMantissa_eq hn hm
  rw [pow_zero] at hle
  omega

theorem ratioOf_self {n : Nat} (hn : 0 < n) : ratioOf n n = .dec ⟨100, 0⟩ := by
  have hx : HasExponent n n 0 := ⟨by simp, by rw [pow_zero]; omega⟩
  have hm : ratioMantissa n n 0 = 100 := by
    apply Nat.le_antisymm
    · rw [← Nat.lt_succ_iff, ratioMantissa_lt_iff hn]
      omega
    · exact (hx.ratioMantissa_mem hn).1
  rw [ratioOf_eq hx hn (by decide), hm]
  rfl

/-! ### The bound (R104) -/

/-- The mantissa of R104 at the exponent `x`. -/
def boundMantissa (u n x : Nat) : Nat := (u * 10 ^ x + (n - 1)) / n

/-- The mantissa is the smallest whole number not below u × 10^x / N. -/
theorem boundMantissa_le_iff {u n x k : Nat} (hn : 0 < n) : boundMantissa u n x ≤ k ↔ u * 10 ^ x ≤ k * n := by
  rw [boundMantissa, Nat.div_le_iff_le_mul hn]
  omega

theorem lt_boundMantissa_iff {u n x k : Nat} (hn : 0 < n) : k < boundMantissa u n x ↔ k * n < u * 10 ^ x := by
  rw [← Nat.not_le, boundMantissa_le_iff hn, Nat.not_le]

theorem HasExponent.boundMantissa_mem {u n x : Nat} (hx : HasExponent u (100 * n) x) (hn : 0 < n) :
    100 ≤ boundMantissa u n x ∧ boundMantissa u n x ≤ 1000 := by
  obtain ⟨hle, hlt⟩ := hx
  rw [← Nat.lt_iff_add_one_le (m := 99), lt_boundMantissa_iff hn, boundMantissa_le_iff hn]
  omega

/-- Rounding up moves the bound by at most one step of its mantissa. -/
theorem boundMantissa_mul_sub_le {u n x : Nat} (hn : 0 < n) : boundMantissa u n x * n - u * 10 ^ x ≤ n := by
  cases hm : boundMantissa u n x with
  | zero => simp
  | succ k =>
    have hlt : k * n < u * 10 ^ x := (lt_boundMantissa_iff hn).mp (by omega)
    rw [Nat.add_mul]
    omega

@[simp] theorem boundOf_none (n : Nat) : boundOf n none = none := rfl

@[simp] theorem boundOf_some_zero (n : Nat) : boundOf n (some 0) = none := rfl

theorem boundOf_clamped {n u : Nat} (hn : 0 < n) (hu : 100 * n ≤ u) : boundOf n (some u) = some ⟨⟨100, 0⟩, true⟩ := by
  have hu0 : u ≠ 0 := by omega
  simp only [boundOf, if_neg hu0, if_pos hu]

theorem boundOf_eq {n u x : Nat} (hu : 1 ≤ u) (hun : u < 100 * n) (hx : HasExponent u (100 * n) x) (hfuel : x ≤ 64) :
    boundOf n (some u) =
      if boundMantissa u n x = 1000 then some ⟨⟨100, x - 1⟩, decide (x = 1)⟩
      else some ⟨⟨boundMantissa u n x, x⟩, false⟩ := by
  have hx1 := hx.pos hun
  have hclamp : (x - 1 == 0) = decide (x = 1) := by
    rw [Bool.beq_eq_decide_eq, decide_eq_decide]
    omega
  simp only [boundOf, if_neg (Nat.ne_of_gt hu), if_neg (Nat.not_le.mpr hun),
    leastExp_eq hx (Nat.zero_le x) (by omega : x ≤ 0 + 64), boundMantissa, hclamp]
  rfl

/-- N within its cap leaves the exponent of a bound at 19 or less. -/
theorem exists_boundExponent {n u : Nat} (hn : n ≤ 72057594037927872) (hu : 1 ≤ u) (hun : u < 100 * n) :
    ∃ x, HasExponent u (100 * n) x ∧ 1 ≤ x ∧ x ≤ 19 := by
  obtain ⟨x, hx⟩ := exists_hasExponent hu (by omega : u < 10 * (100 * n))
  exact ⟨x, hx, hx.pos hun, hx.le_of_le_pow hu (by norm_num; omega)⟩

/-- R104: an unclamped bound has exponent 1 to 19, is never below U, and is at most one step of its mantissa above it. -/
theorem unclamped_bound {n u : Nat} {b : Bound} (hn : 0 < n) (hcap : n ≤ 72057594037927872)
    (hb : boundOf n (some u) = some b) (hclamp : b.clamped = false) :
    1 ≤ b.d.x ∧ b.d.x ≤ 19 ∧ u * 10 ^ b.d.x ≤ b.d.m * n ∧ b.d.m * n - u * 10 ^ b.d.x ≤ n := by
  rcases Nat.eq_zero_or_pos u with rfl | hu
  · simp at hb
  rcases Nat.lt_or_ge u (100 * n) with hun | hun
  · obtain ⟨x, hx, hx1, hx19⟩ := exists_boundExponent hcap hu hun
    rw [boundOf_eq hu hun hx (by omega)] at hb
    split at hb
    · next hm =>
      cases hb
      obtain ⟨k, rfl⟩ : ∃ k, x = k + 1 := ⟨x - 1, by omega⟩
      have hk : k ≠ 0 := by simpa using hclamp
      have hup : u * 10 ^ (k + 1) ≤ 1000 * n := (boundMantissa_le_iff hn).mp hm.le
      have hlow : 999 * n < u * 10 ^ (k + 1) := (lt_boundMantissa_iff hn).mp (by omega)
      rw [pow_succ, ← Nat.mul_assoc] at hup hlow
      simp only [Nat.add_sub_cancel]
      omega
    · cases hb
      exact ⟨hx1, hx19, (boundMantissa_le_iff hn).mp le_rfl, boundMantissa_mul_sub_le hn⟩
  · rw [boundOf_clamped hn hun] at hb
    cases hb
    cases hclamp

theorem jobInputs_u_eq_none {s : State} {j : Job} (h : 31 < (s.jobInputs j).errs) : (s.jobInputs j).u = none :=
  dif_neg (show ¬ j.errs < 32 from Nat.not_lt.mpr h)

/-! ### The verdict (R105, R106) -/

theorem atOrAbove_iff (e n : Nat) (T : Decimal) : atOrAbove e n T = true ↔ e * 10 ^ (T.x + 2) ≥ T.m * n :=
  decide_eq_true_iff

theorem boundBelow_iff (u n : Nat) (T : Decimal) : boundBelow u n T = true ↔ u * 10 ^ T.x < T.m * n :=
  decide_eq_true_iff

/-- What the second case of R106 asks: a bound, unclamped, whose exact value U is below the target. -/
def Proves (i : JobInputs) : Prop :=
  ∃ u b, i.u = some u ∧ boundOf i.bits i.u = some b ∧ b.clamped = false ∧ boundBelow u i.bits i.prof.target = true

theorem verdictOf_of_atOrAbove {i : JobInputs} (h : atOrAbove i.errs i.bits i.prof.target = true) :
    verdictOf i = .exceeded := if_pos h

theorem verdictOf_of_proves {i : JobInputs} (h : ¬ atOrAbove i.errs i.bits i.prof.target = true) (hp : Proves i) :
    verdictOf i = .proven := by
  obtain ⟨u, b, hu, hb, hclamp, hbelow⟩ := hp
  rw [verdictOf, if_neg h, hb]
  simp [hu, hclamp, hbelow]

theorem verdictOf_of_not_proves {i : JobInputs} (h : ¬ atOrAbove i.errs i.bits i.prof.target = true)
    (hp : ¬ Proves i) : verdictOf i = .undecided := by
  rw [verdictOf, if_neg h]
  cases hu : i.u with
  | none => rfl
  | some u =>
    cases hb : boundOf i.bits (some u) with
    | none => rfl
    | some b =>
      refine if_neg fun hc => hp ?_
      obtain ⟨hclamp, hbelow⟩ := Bool.and_eq_true_iff.mp hc
      exact ⟨u, b, hu, hu ▸ hb, by simpa using hclamp, hbelow⟩

/-- R106: the first case that holds gives the verdict. -/
theorem verdictOf_cases (i : JobInputs) :
    (atOrAbove i.errs i.bits i.prof.target = true ∧ verdictOf i = .exceeded) ∨
    (¬ atOrAbove i.errs i.bits i.prof.target = true ∧ Proves i ∧ verdictOf i = .proven) ∨
    (¬ atOrAbove i.errs i.bits i.prof.target = true ∧ ¬ Proves i ∧ verdictOf i = .undecided) := by
  by_cases h : atOrAbove i.errs i.bits i.prof.target = true
  · exact .inl ⟨h, verdictOf_of_atOrAbove h⟩
  · by_cases hp : Proves i
    · exact .inr (.inl ⟨h, hp, verdictOf_of_proves h hp⟩)
    · exact .inr (.inr ⟨h, hp, verdictOf_of_not_proves h hp⟩)

theorem verdictOf_eq_exceeded_iff (i : JobInputs) :
    verdictOf i = .exceeded ↔ atOrAbove i.errs i.bits i.prof.target = true := by
  rcases verdictOf_cases i with ⟨h, hv⟩ | ⟨h, _, hv⟩ | ⟨h, _, hv⟩ <;> simp [h, hv]

theorem verdictOf_eq_proven_iff (i : JobInputs) :
    verdictOf i = .proven ↔ ¬ atOrAbove i.errs i.bits i.prof.target = true ∧ Proves i := by
  rcases verdictOf_cases i with ⟨h, hv⟩ | ⟨h, hp, hv⟩ | ⟨h, hp, hv⟩
  · simp [h, hv]
  · simp [h, hp, hv]
  · simp [hp, hv]

theorem verdictOf_ne_unordered (i : JobInputs) : verdictOf i ≠ .unordered := by
  rcases verdictOf_cases i with ⟨_, hv⟩ | ⟨_, _, hv⟩ | ⟨_, _, hv⟩ <;> simp [hv]

theorem verdictOf_ne_proven_of_clamped {i : JobInputs} {b : Bound} (hb : boundOf i.bits i.u = some b)
    (hclamp : b.clamped = true) : verdictOf i ≠ .proven := by
  intro hv
  obtain ⟨_, _, c, _, hc, hfree, _⟩ := (verdictOf_eq_proven_iff i).mp hv
  obtain rfl : b = c := Option.some.inj (hb.symm.trans hc)
  exact absurd hclamp (by simp [hfree])

/-- The errors enter the verdict through their comparison with the target alone. -/
theorem verdictOf_congr {i j : JobInputs} (hprof : i.prof = j.prof) (hu : i.u = j.u) (hbits : i.bits = j.bits)
    (htarget : atOrAbove i.errs i.bits i.prof.target = atOrAbove j.errs j.bits i.prof.target) :
    verdictOf i = verdictOf j := by
  rw [verdictOf, verdictOf, htarget, hprof, hu, hbits]

/-! ### The alarm state (R108) -/

/-- The counts enter the alarm state through their comparisons with the four alarm thresholds alone. -/
theorem alarmNext_congr (a : Alarm) {i j : JobInputs} (hprof : i.prof = j.prof)
    (hcmp : ∀ T ∈ [i.prof.degradeSet, i.prof.degradeClear, i.prof.failSet, i.prof.failClear],
      atOrAbove i.errs i.bits T = atOrAbove j.errs j.bits T) : alarmNext a i = alarmNext a j := by
  simp only [hprof, List.forall_mem_cons] at hcmp
  obtain ⟨hdegradeSet, hdegradeClear, hfailSet, hfailClear, _⟩ := hcmp
  cases a with
  | clear => simp only [alarmNext, hfailSet, hdegradeSet, hprof]
  | degraded => simp only [alarmNext, hfailSet, hdegradeClear, hprof]
  | failed => simp only [alarmNext, hdegradeClear, hfailClear, hprof]

/-! ### The statements -/

/-- R102 at the exponent of a ratio. -/
theorem ratio_at_exponent {e n x : Nat} (hn : 64 ≤ n) (hcap : n ≤ 72057594037927872) (he : 1 ≤ e) (hen : e ≤ n)
    (hx : HasExponent e n x) :
    (∀ y, n ≤ e * 10 ^ y → e * 10 ^ y < 10 * n → y = x) ∧ x ≤ 17 ∧
      100 * n ≤ e * 10 ^ (x + 2) ∧ e * 10 ^ (x + 2) < 1000 * n ∧
      ∃ m, 2 * n * m ≤ 2 * e * 10 ^ (x + 2) + n ∧ 2 * e * 10 ^ (x + 2) + n < 2 * n * (m + 1) ∧
        100 ≤ m ∧ m ≤ 1000 ∧
        (m ≠ 1000 → ratioOf e n = .dec ⟨m, x⟩) ∧
        (m = 1000 → 9995 * n ≤ 1000 * (e * 10 ^ x) ∧ 1 ≤ x ∧ ratioOf e n = .dec ⟨100, x - 1⟩) := by
  have hn0 : 0 < n := by omega
  have hx17 : x ≤ 17 := hx.le_of_le_pow he (by norm_num; omega)
  have hratio := ratioOf_eq hx he (by omega)
  obtain ⟨hm100, hm1000⟩ := hx.ratioMantissa_mem hn0
  refine ⟨fun y hle hlt => hx.unique ⟨hle, hlt⟩, hx17, ?_, ?_, ratioMantissa e n x,
    (le_ratioMantissa_iff hn0).mp le_rfl, (ratioMantissa_lt_iff hn0).mp (Nat.lt_succ_self _), hm100, hm1000,
    fun hm => ?_, fun hm => ⟨le_of_ratioMantissa_eq hn0 hm, pos_of_ratioMantissa_eq hn0 hen hm, ?_⟩⟩
  · have hle := hx.1
    rw [mul_pow_add_two]
    omega
  · have hlt := hx.2
    rw [mul_pow_add_two]
    omega
  · rw [hratio, if_neg hm]
  · rw [hratio, if_pos hm]

/-- R104 for a u_E above 0 and below 100 × N. -/
theorem bound_at_exponent {n u : Nat} (hn : 64 ≤ n) (hcap : n ≤ 72057594037927872) (hu : 1 ≤ u) (hun : u < 100 * n) :
    ∃ x m, 100 * n ≤ u * 10 ^ x ∧ u * 10 ^ x < 1000 * n ∧
      (∀ y, 100 * n ≤ u * 10 ^ y → u * 10 ^ y < 1000 * n → y = x) ∧
      u * 10 ^ x ≤ m * n ∧ (∀ k, u * 10 ^ x ≤ k * n → m ≤ k) ∧ 100 ≤ m ∧ m ≤ 1000 ∧
      (m ≠ 1000 → boundOf n (some u) = some ⟨⟨m, x⟩, false⟩) ∧
      (m = 1000 → boundOf n (some u) = some ⟨⟨100, x - 1⟩, decide (x = 1)⟩) := by
  have hn0 : 0 < n := by omega
  obtain ⟨x, hx, _, hx19⟩ := exists_boundExponent hcap hu hun
  have hbound := boundOf_eq hu hun hx (by omega)
  obtain ⟨hm100, hm1000⟩ := hx.boundMantissa_mem hn0
  have hlt := hx.2
  refine ⟨x, boundMantissa u n x, hx.1, by omega, fun y hle hlt => hx.unique ⟨hle, by omega⟩,
    (boundMantissa_le_iff hn0).mp le_rfl, fun k => (boundMantissa_le_iff hn0).mpr, hm100, hm1000,
    fun hm => ?_, fun hm => ?_⟩
  · rw [hbound, if_neg hm]
  · rw [hbound, if_pos hm]

/-- Settles O32: the search finds the one exponent, and the mantissa is characterised by its rounding inequalities. -/
theorem ratioIsRounded : Obligations.RatioIsRounded := by
  refine ⟨fun e n hn _ hcap hen _ => ⟨?_, fun he => ?_, fun he x hle hlt => ?_, ?_⟩,
    fun i j hprof hu hbits hcmp => ⟨?_, fun a => ?_⟩⟩
  · rintro rfl
    exact ratioOf_zero n
  · exact exists_hasExponent he (by omega)
  · exact ratio_at_exponent hn hcap he hen ⟨hle, hlt⟩
  · rintro rfl
    exact ratioOf_self (by omega)
  · exact verdictOf_congr hprof hu hbits (hcmp _ (by simp))
  · exact alarmNext_congr a hprof fun T hT => hcmp T (List.mem_append_left [i.prof.target] hT)

/-- Settles O33: the mantissa is the least whole number not below the quotient, and every clause follows from that. -/
theorem boundRoundsUp : Obligations.BoundRoundsUp := by
  refine ⟨fun s j h => ?_, fun n u hn hcap _ => ⟨boundOf_some_zero n, fun hu => ?_, fun hu hun => ?_, fun b => ?_⟩,
    fun i b => verdictOf_ne_proven_of_clamped⟩
  · rw [jobInputs_u_eq_none h, boundOf_none]
  · exact boundOf_clamped (by omega) hu
  · exact bound_at_exponent hn hcap hu hun
  · exact unclamped_bound (by omega) hcap

/-- Settles O34: the three cases of R106, read through the exact comparisons of R105. -/
theorem verdictByExactComparison : Obligations.VerdictByExactComparison := by
  refine ⟨atOrAbove_iff, boundBelow_iff, fun i => ⟨?_, ?_, verdictOf_ne_unordered i⟩,
    fun a i j => alarmNext_congr a⟩
  · rw [verdictOf_eq_exceeded_iff, atOrAbove_iff]
  · simp only [verdictOf_eq_proven_iff, atOrAbove_iff, Proves, boundBelow_iff, ge_iff_le, Nat.not_le]

end Sys2Proof.Machine
end

section
/-! The client egress (11.3): what EGRESS_READY sends in each case of R170, and the pass buffer that its scan chooses. -/

namespace Sys2Proof.Machine

/-! ### EGRESS_READY by its cases -/

theorem exec_egressReady (s : State) : exec .egressReady s = execEgressReady s := rfl

theorem execEgressReady_of_resetPin {s : State} (h : s.resetPin = true) :
    execEgressReady s = .next { s with egressOut := none } := if_pos h

theorem execEgressReady_of_record {s : State} {r : EgRec} {rest : List EgRec} (h : s.resetPin = false)
    (hq : s.egress = r :: rest) : execEgressReady s = .next (s.sendRecord r) := by
  simp [execEgressReady, h, hq]

theorem execEgressReady_of_no_record {s : State} (h : s.resetPin = false) (hq : s.egress = []) :
    execEgressReady s = .next s.sendLane := by
  simp [execEgressReady, h, hq]

/-! ### A record's next block -/

@[simp] theorem EgRec.length_blocks (r : EgRec) : r.blocks.length = r.body.blocks.length + 1 := rfl

theorem EgRec.getD_blocks {r : EgRec} {i : Nat} {b : Block} (hb : (r.header :: r.body.blocks)[i]? = some b) :
    r.blocks.getD i 0 = b := by
  rw [EgRec.blocks, List.getD_eq_getElem?_getD, hb, Option.getD_some]

theorem State.sendRecord_of_lt {s : State} {r : EgRec} {b : Block}
    (hb : (r.header :: r.body.blocks)[s.egressSent]? = some b) (hlt : s.egressSent < r.body.blocks.length) :
    s.sendRecord r = { s with egressOut := some ⟨.control, 0, b⟩, egressSent := s.egressSent + 1 } := by
  have hmore : s.egressSent + 1 < r.blocks.length := by rw [EgRec.length_blocks]; omega
  rw [State.sendRecord, if_pos hmore, EgRec.getD_blocks hb]

theorem State.sendRecord_of_last {s : State} {r : EgRec} {rest : List EgRec} {b : Block} (hq : s.egress = r :: rest)
    (hb : (r.header :: r.body.blocks)[s.egressSent]? = some b) (hlast : s.egressSent = r.body.blocks.length) :
    s.sendRecord r = { s with egressOut := some ⟨.control, 0, b⟩, egress := rest, egressSent := 0 } := by
  have hdone : ¬ s.egressSent + 1 < r.blocks.length := by rw [EgRec.length_blocks]; omega
  rw [State.sendRecord, if_neg hdone, EgRec.getD_blocks hb, hq]
  rfl

/-! ### The scan of the pass buffers -/

theorem scanFrom_eq_ofFn (l : LaneNo) : scanFrom l = List.ofFn fun k : Fin 8 => l + 1 + k := by
  fin_cases l <;> rfl

/-- The scan chooses the lane whose distance from the last one served is the least among the lanes that satisfy `p`. -/
theorem find?_scanFrom {p : LaneNo → Bool} {l : LaneNo} {k : Fin 8} (hk : p (l + 1 + k) = true)
    (hbefore : ∀ j, j < k → p (l + 1 + j) = false) : (scanFrom l).find? p = some (l + 1 + k) := by
  rw [scanFrom_eq_ofFn, List.find?_ofFn_eq_some]
  exact ⟨hk, k, rfl, fun j hj => by simp [hbefore j hj]⟩

theorem State.sendLane_of_first {s : State} {k : Fin 8} {b : Block} {bs : List Block}
    (hbefore : ∀ j, j < k → (s.lane (s.lastServed + 1 + j)).rxBuf = [])
    (hbuf : (s.lane (s.lastServed + 1 + k)).rxBuf = b :: bs) :
    s.sendLane =
      { s.putLane (s.lastServed + 1 + k) { s.lane (s.lastServed + 1 + k) with rxBuf := bs } with
        egressOut := some ⟨.data, s.lastServed + 1 + k, b⟩, lastServed := s.lastServed + 1 + k } := by
  have hfind : (scanFrom s.lastServed).find? (fun l => !(s.lane l).rxBuf.isEmpty) = some (s.lastServed + 1 + k) :=
    find?_scanFrom (by simp [hbuf]) fun j hj => by simp [hbefore j hj]
  simp only [State.sendLane, hfind, State.modLane, hbuf]
  rfl

theorem State.sendLane_of_empty {s : State} (h : ∀ l, (s.lane l).rxBuf = []) :
    s.sendLane = { s with egressOut := none } := by
  have hfind : (scanFrom s.lastServed).find? (fun l => !(s.lane l).rxBuf.isEmpty) = none :=
    List.find?_eq_none.mpr fun l _ => by simp [h l]
  simp only [State.sendLane, hfind]

/-! ### The statement -/

theorem State.softReset_lastServed (s : State) : s.softReset.lastServed = 7 := rfl

theorem exec_hardReset_lastServed (s : State) : ∃ t, exec .hardReset s = .next t ∧ t.lastServed = 7 := ⟨_, rfl, rfl⟩

/-- Settles O5: the pin, the queue's head and the place in its record decide the case; with no record, the scan does. -/
theorem egressArbiterOrder : Obligations.EgressArbiterOrder := by
  intro s
  simp only [exec_egressReady]
  refine ⟨execEgressReady_of_resetPin, fun hpin => ⟨fun r rest b hq hb => ⟨fun hlt => ?_, fun hlast => ?_⟩,
    fun k b bs hq hbefore hbuf => ?_, fun hq hempty => ?_⟩, s.softReset_lastServed, exec_hardReset_lastServed s⟩
  · rw [execEgressReady_of_record hpin hq, State.sendRecord_of_lt hb hlt]
  · rw [execEgressReady_of_record hpin hq, State.sendRecord_of_last hq hb hlast]
  · rw [execEgressReady_of_no_record hpin hq, State.sendLane_of_first hbefore hbuf]
  · rw [execEgressReady_of_no_record hpin hq, State.sendLane_of_empty hempty]

end Sys2Proof.Machine
end

section
/-! Steps, pins and resets (R171, R124, R114, R175) and the invariants at reset. -/

namespace Sys2Proof.Machine

@[simp] theorem GPair.get_mk {α : Type} (x : α) (g : GroupId) : (GPair.mk x x).get g = x := by cases g <;> rfl

@[simp] theorem State.lane_mk_all (L : Lane) (l : LaneNo) : (Eight.all L).get l = L := Eight.get_all L l

/-- Settles O1. -/
theorem stepRunsFrontCommand : Obligations.StepRunsFrontCommand := by
  refine ⟨fun s c rest h => ?_, fun s h => ?_⟩
  · rw [step, h]
  · rw [step, h]

/-- Settles O60: each invariant is evaluated on the reset state. -/
theorem resetMeetsInvariants : Obligations.ResetMeetsInvariants :=
  ⟨rfl, by decide, rfl, by decide, by decide, by decide, rfl, rfl⟩

/-- Settles O2: every field of the state after a hard reset is that of `State.reset`, the pins and the queue apart. -/
theorem hardResetEmptiesPart : Obligations.HardResetEmptiesPart := by
  intro s
  refine ⟨_, rfl, rfl, rfl, rfl, rfl, rfl, rfl, rfl, fun l => ?_, fun _ => rfl, fun i h => ?_, fun i h => ?_,
    fun i => ?_, fun g => ?_, rfl, rfl, rfl, rfl, rfl, rfl, rfl, rfl, rfl, rfl, rfl, rfl, rfl, rfl, rfl, rfl, rfl, rfl,
    fun c => ?_, fun g => ?_, fun l => ?_⟩
  · simp [State.reset]
  · simp [State.reset]
  · simp [State.reset]
  · simp [State.reset]
  · simp [State.reset]
  · simp [State.reset, InjChan.reset]
  · simp [State.reset, State.group, Group.reset]
  · simp [State.reset, State.lane, Lane.reset, Tx.reset, Aligner.reset, Checker.reset, Win.reset, RunTotals.reset,
      RemoteActs.reset]

/-! ### Pins -/

theorem InjChan.suspend_waiting {ch : InjChan} (h : ch.state = .waiting) :
    ch.suspend = { ch with state := .suspended, resume := .waiting, deferred := Eight.all none } := by
  simp [InjChan.suspend, h]

theorem InjChan.suspend_active {ch : InjChan} (h : ch.state = .active) :
    ch.suspend = { ch with state := .suspended, resume := .active, deferred := Eight.all none } := by
  simp [InjChan.suspend, h]

theorem InjChan.suspend_of_stopped {ch : InjChan} (h : ch.state = .idle ∨ ch.state = .suspended) : ch.suspend = ch := by
  rcases h with h | h <;> simp [InjChan.suspend, h]

theorem InjChan.sourceIs_eq (ch : InjChan) (f : InjSource → Bool) :
    ch.sourceIs f = ((ch.settings.map InjSettings.source).map f).getD false := by
  unfold InjChan.sourceIs
  cases ch.settings <;> rfl

theorem InjChan.sourceIs_beq (ch : InjChan) (src : InjSource) :
    ch.sourceIs (· == src) = decide (ch.settings.map InjSettings.source = some src) := by
  unfold InjChan.sourceIs
  cases ch.settings with
  | none => simp
  | some p => simp [Bool.beq_eq_decide_eq]

theorem InjChan.onPin_eq (ch : InjChan) :
    ch.onPin = if ch.state = .waiting ∧ ch.settings.map InjSettings.source = some .pin then { ch with state := .active }
      else ch := by
  rw [InjChan.onPin, InjChan.sourceIs_beq, InjChan.activate]
  by_cases hw : ch.state = .waiting <;> by_cases hp : ch.settings.map InjSettings.source = some .pin <;> simp [hw, hp]

/-- Settles O3: the pins move no more than the channels' states. -/
theorem pinEventsActOnChannels : Obligations.PinEventsActOnChannels := by
  refine ⟨fun s => ⟨rfl, rfl⟩, fun s => ⟨⟨_, rfl, fun c => ?_⟩, _, rfl, fun c => ?_⟩⟩
  · rw [Four.get_map]
    exact ⟨InjChan.suspend_waiting, InjChan.suspend_active, InjChan.suspend_of_stopped⟩
  · rw [Four.get_map, InjChan.onPin_eq]
    exact ⟨fun h => if_pos h, fun h => if_neg (by rintro ⟨hw, hp⟩; exact h.elim (· hw) (· hp))⟩

/-! ### Soft reset -/

theorem State.deviceReset_of_takes {s : State} {rest : List CmdRec} {tag target : Octet}
    (h : s.takes (localCmd 0x02 tag target []) rest) :
    exec .deviceReset s = .next (s.softReset.answered (localCmd 0x02 tag target []) rest .ok .empty) := by
  obtain ⟨hw, he, hq⟩ := h
  have hown := State.command_own ⟨hw, he, hq⟩ (free := true) (.inr rfl) (tgt := anyTarget) (t := ()) rfl (read := noBody)
    (b := ()) rfl (fun _ _ _ => Reply.ok s.softReset)
  exact congrArg Host.Outcome.next (hown.trans (Reply.give_answered rfl hq hw))

/-- Settles O53: the soft reset, field by field. -/
theorem deviceResetResetsPart : Obligations.DeviceResetResetsPart := by
  intro s rest tag target h
  refine ⟨_, State.deviceReset_of_takes h, rfl, rfl, rfl, rfl, rfl, rfl, rfl, rfl, rfl, rfl, rfl, rfl, rfl, rfl, rfl,
    rfl, rfl, rfl, rfl, rfl, rfl, rfl, rfl, rfl, rfl, rfl, rfl, rfl, rfl, ?_, fun c => ?_, fun g => ?_, fun l => ?_⟩
  · intro j hj
    obtain ⟨k, hk, rfl⟩ := List.mem_map.mp (show j ∈ markServed s.jobs from hj)
    exact ⟨rfl, (List.mem_filter.mp hk).2⟩
  · simp [State.softReset, State.softResetLink, State.setSupAction, InjChan.softReset, InjChan.reset]
  · simp [State.softReset, State.softResetLink, State.setSupAction, State.group, Group.reset]
  · simp [State.softReset, State.softResetLink, State.setSupAction, State.lane, Lane.softReset, Lane.reset,
      Tx.softReset, Tx.reset, Checker.softReset, Checker.reset, Win.reset, RunTotals.reset, RemoteActs.reset]

end Sys2Proof.Machine
end

section
/-! The client ingress (11.1, 2.5): DATA blocks for the transmit pass buffers, CONTROL blocks for the record assembly. -/

namespace Sys2Proof.Machine

theorem exec_ingress_reset {s : State} (h : s.resetPin = true) (ty : BlockType) (j : LaneNo) (b : Block) :
    exec (.ingressBlock ty j b) s = .next s := if_pos h

theorem exec_ingress_data {s : State} (h : s.resetPin = false) (j : LaneNo) (b : Block) :
    exec (.ingressBlock .data j b) s = .next (s.modTx j (fun t => t.offer b)) := by
  simp [exec, execIngressBlock, h]

theorem exec_ingress_control {s : State} (h : s.resetPin = false) (j : LaneNo) (b : Block) :
    exec (.ingressBlock .control j b) s = .next (s.control b) := by
  simp [exec, execIngressBlock, h]

/-- Settles O6: the offer of a DATA block by its two cases. -/
theorem dataBlockAcceptedOrDropped : Obligations.DataBlockAcceptedOrDropped := by
  refine ⟨fun s ty j b h => exec_ingress_reset h ty j b, fun s j b h => ⟨fun hroom => ?_, fun hfull => ?_⟩⟩
  · rw [exec_ingress_data h]
    simp only [State.modTx, State.modLane, Tx.offer, if_pos hroom]
    rfl
  · have hno : ¬((s.lane j).tx.state = .running ∧ (s.lane j).tx.mode = .pass ∧ (s.lane j).tx.buf.length < 32) := by
      rintro ⟨h1, h2, h3⟩
      rcases hfull with hf | hf | hf
      · exact hf h1
      · exact hf h2
      · omega
    rw [exec_ingress_data h]
    simp only [State.modTx, State.modLane, Tx.offer, if_neg hno]
    rfl

theorem State.notify_of_room {s : State} (h : s.egress.length ≤ 11) (n : Notice) :
    s.notify n = { s with egress := s.egress ++ [noticeRec n] } := by
  rcases s.notify_cases n with ⟨_, e⟩ | ⟨hf, _⟩
  · exact e
  · omega

theorem State.notify_of_full {s : State} (h : 11 < s.egress.length) (n : Notice) :
    s.notify n = { s with noticesLost := true } := by
  rcases s.notify_cases n with ⟨hf, _⟩ | ⟨_, e⟩
  · omega
  · exact e

/-! ### Records -/

theorem State.recordDone_command {s : State} {h : Block} (body : List Block) (hk : octetOf h 0 = 1)
    (hq : s.cmdQ.length < 8) :
    s.recordDone h body = { s with ingress := .idle, cmdQ := s.cmdQ ++ [localRec h body] } := by
  rw [State.recordDone, if_pos hk, if_pos hq]

theorem State.recordDone_dropped {s : State} {h : Block} (body : List Block) (hk : octetOf h 0 = 1)
    (hq : 8 ≤ s.cmdQ.length) (he : s.egress.length ≤ 11) :
    s.recordDone h body =
      { s with ingress := .idle, egress := s.egress ++ [noticeRec (.commandDropped (octetOf h 2) (octetOf h 1))] } := by
  rw [State.recordDone, if_pos hk, if_neg (Nat.not_lt.mpr hq)]
  exact State.notify_of_room (s := { s with ingress := .idle }) he _

theorem State.recordDone_other {s : State} {h : Block} (body : List Block) (hk : octetOf h 0 ≠ 1)
    (he : s.egress.length ≤ 11) :
    s.recordDone h body =
      { s with ingress := .idle, egress := s.egress ++ [noticeRec (.protocolFault .kind (some (octetOf h 2)))] } := by
  rw [State.recordDone, if_neg hk]
  exact State.notify_of_room (s := { s with ingress := .idle }) he _

theorem State.control_header {s : State} {b : Block} (hi : s.ingress = .idle) (h7 : octetOf b 7 = 0xC3)
    (h3 : octetOf b 3 = 0) : s.control b = s.recordDone b [] := by
  simp [State.control, hi, h7, h3]

theorem State.control_stray {s : State} {b : Block} (hi : s.ingress = .idle) (h7 : octetOf b 7 ≠ 0xC3) :
    s.control b = s.notify (.protocolFault .stray none) := by
  simp only [State.control, hi, if_pos h7]

theorem State.control_last {s : State} {h : Block} {body : List Block} (hi : s.ingress = .assembling h body 1)
    (b : Block) : s.control b = s.recordDone h (body ++ [b]) := by
  simp [State.control, hi]

/-- Settles O7: what completes a record, and what becomes of the record. -/
theorem controlBlocksMakeRecords : Obligations.ControlBlocksMakeRecords := by
  intro s tag b hpin
  simp only [exec_ingress_control hpin]
  refine ⟨fun hi h7 h3 => ?_, fun hi h7 h3 h0 hq => ?_, fun hi h7 h3 he => ⟨fun h0 hq => ?_, fun h0 => ?_⟩,
    fun h body hi h0 he => ?_, fun hi h7 he => ?_, fun h body due hi hdue => ?_, fun h body hi h0 =>
    ⟨fun hq => ?_, fun hq he => ?_⟩⟩
  · rw [State.control, hi]
    simp only [h7, ne_eq, not_true_eq_false, if_false, if_neg h3]
  · rw [State.control_header hi h7 h3, State.recordDone_command [] h0 hq]
    cases s; cases hi; rfl
  · rw [State.control_header hi h7 h3, State.recordDone_dropped [] h0 hq he]
    cases s; cases hi; rfl
  · rw [State.control_header hi h7 h3, State.recordDone_other [] h0 he]
    cases s; cases hi; rfl
  · rw [State.control_last hi, State.recordDone_other _ h0 he]
  · rw [State.control_stray hi h7, State.notify_of_room he]
  · simp [State.control, hi, Nat.not_le.mpr hdue]
  · rw [State.control_last hi, State.recordDone_command _ h0 hq]
    rfl
  · rw [State.control_last hi, State.recordDone_dropped _ h0 hq he]

end Sys2Proof.Machine
end

section
/-! Sound sets of counts (R53): every addition of 3.5 keeps N a multiple of 64 within its cap and E within N. -/

namespace Sys2Proof.Machine

theorem Counts.sound_iff (c : Counts) :
    c.sound = true ↔ c.bits % 64 = 0 ∧ c.bits ≤ capBits ∧ c.errors ≤ c.bits := by
  simp [Counts.sound, Counts.goodBits, and_assoc]

/-- Soundness reads N and E alone. -/
theorem Counts.sound_congr {c d : Counts} (hb : d.bits = c.bits) (he : d.errors = c.errors) : d.sound = c.sound := by
  simp only [Counts.sound, Counts.goodBits, hb, he]

theorem Counts.zero_sound : Counts.zero.sound = true := rfl

/-- A counted block of at most 64 errors: 2^48 - 1 is below 2^56 - 64, and that is a multiple of 64. -/
theorem Counts.addCounted_sound {c : Counts} {e : Nat} (he : e ≤ 64) (f : Bool) (h : c.sound = true) :
    (c.addCounted e f).sound = true := by
  rw [Counts.sound_iff] at h ⊢
  obtain ⟨h64, hcap, hle⟩ := h
  simp only [Counts.addCounted, satAdd, capBits, capBlocks] at *
  omega

theorem Counts.addErroredFrame_sound {c : Counts} (h : c.sound = true) : c.addErroredFrame.sound = true := h
theorem Counts.addUnsynced_sound {c : Counts} (n : Nat) (h : c.sound = true) : (c.addUnsynced n).sound = true := h
theorem Counts.addSyncLoss_sound {c : Counts} (h : c.sound = true) : c.addSyncLoss.sound = true := h
theorem Counts.addHeld_sound {c : Counts} (h : c.sound = true) : c.addHeld.sound = true := h
theorem Counts.addMarkerError_sound {c : Counts} (h : c.sound = true) : c.addMarkerError.sound = true := h
theorem Counts.addInjected_sound {c : Counts} (n : Nat) (h : c.sound = true) : (c.addInjected n).sound = true := h

theorem countBits_le (b : Block) : ∀ n, countBits b n ≤ n
  | 0 => le_rfl
  | n + 1 => by
    have := countBits_le b n
    have := Bool.toNat_le (b.getLsbD n)
    simp only [countBits]
    omega

/-- R43: a comparison finds at most 64 errors. -/
theorem bitErrors_le (b x : Block) : bitErrors b x ≤ 64 := countBits_le _ _

/-! ### Lanes and groups -/

theorem Lane.sound_iff (L : Lane) :
    L.sound = true ↔ L.win.counts.sound = true ∧ L.run.counts.sound = true ∧ (∀ r ∈ L.hist, r.counts.sound = true) ∧
      runSound L.ck.run = true := by
  simp [Lane.sound, and_assoc]

theorem Group.sound_iff (g : Group) :
    g.sound = true ↔ (∀ w, g.win = some w → w.counts.sound = true) ∧ ∀ r ∈ g.hist, r.counts.sound = true := by
  cases h : g.win <;> simp [Group.sound, h]

theorem State.countsSound_iff (s : State) :
    s.countsSound = true ↔ (∀ l, (s.lane l).sound = true) ∧ ∀ g, (s.group g).sound = true := by
  simp only [State.countsSound, Bool.and_eq_true, lanesAll_all, and_assoc, and_congr_right_iff]
  intro _
  constructor
  · rintro ⟨ha, hb⟩ g
    cases g <;> assumption
  · intro h
    exact ⟨h .a, h .b⟩

@[simp] theorem runSound_nil : runSound [] = true := rfl

@[simp] theorem runSound_cons_heavy (r : Checked) (run : List RunItem) :
    runSound (.heavy r :: run) = (decide (r.errs ≤ 64) && runSound run) := rfl

@[simp] theorem runSound_cons_entry (c : CapEntry) (run : List RunItem) :
    runSound (.entry c :: run) = runSound run := rfl

@[simp] theorem runSound_append (a b : List RunItem) : runSound (a ++ b) = (runSound a && runSound b) := by
  simp [runSound]

theorem Win.count_sound {w : Win} {c : Checked} (hc : c.errs ≤ 64) (h : w.counts.sound = true) :
    (w.count c).counts.sound = true := by
  unfold Win.count
  split
  · exact Counts.addCounted_sound hc _ h
  · exact h

theorem RunTotals.count_sound {r : RunTotals} {c : Checked} (hc : c.errs ≤ 64) (h : r.counts.sound = true) :
    (r.count c).counts.sound = true := Counts.addCounted_sound hc _ h

theorem mem_appendHistory {h : List WinRecord} {r x : WinRecord} (hx : x ∈ appendHistory h r) : x ∈ h ∨ x = r := by
  unfold appendHistory at hx
  split at hx
  · simpa using hx
  · rcases List.mem_append.mp hx with hx | hx
    · exact .inl (List.mem_of_mem_drop hx)
    · exact .inr (by simpa using hx)

/-- Whatever retires, the window keeps N and E, and stands or not as before. -/
theorem foldl_retireEntry_sound (es : List RingEntry) (w : Option GWin)
    (h : ∀ x, w = some x → x.counts.sound = true) :
    ∀ x, es.foldl retireEntry w = some x → x.counts.sound = true := by
  induction es generalizing w with
  | nil => exact h
  | cons e es ih =>
    refine ih _ fun x hx => ?_
    unfold retireEntry at hx
    split at hx
    · cases hx
    · split at hx <;> cases hx
      · exact Counts.addErroredFrame_sound (h _ rfl)
      · exact h _ rfl

/-! ### What a measuring operation may do to a lane and to a group

`care` says what is asked for besides: the soundness of counts, and that no hold request arises. -/

/-- Whether an invariant turns on the soundness of the counts, and whether on the hold requests of triggers. -/
structure Care where
  counts : Prop
  requests : Prop

/-- A measuring operation leaves a lane's transmitter, receive pass buffer, remote actions and history alone. -/
structure Lane.Step (care : Care) (L L' : Lane) : Prop where
  tx : L'.tx = L.tx
  rxBuf : L'.rxBuf = L.rxBuf
  remote : L'.remote = L.remote
  hist : L'.hist = L.hist
  sound : care.counts → L.sound = true → L'.sound = true
  request : care.requests → L'.holdReq = L.holdReq

/-- Records enter a group's history by `fileRecord` alone. -/
structure Group.Step (care : Care) (G G' : Group) : Prop where
  hist : G'.hist = G.hist
  sound : care.counts → G.sound = true → G'.sound = true

variable {care : Care}

theorem Lane.Step.of_counts {L L' : Lane} (htx : L'.tx = L.tx) (hrx : L'.rxBuf = L.rxBuf) (hrem : L'.remote = L.remote)
    (hhist : L'.hist = L.hist)
    (hwin : care.counts → L.win.counts.sound = true → runSound L.ck.run = true → L'.win.counts.sound = true)
    (hrun : care.counts → L.run.counts.sound = true → runSound L.ck.run = true → L'.run.counts.sound = true)
    (hck : care.counts → runSound L.ck.run = true → runSound L'.ck.run = true)
    (hreq : care.requests → L'.holdReq = L.holdReq := by exact fun _ => rfl) : Lane.Step care L L' where
  tx := htx
  rxBuf := hrx
  remote := hrem
  hist := hhist
  sound hc h := by
    rw [Lane.sound_iff] at h ⊢
    obtain ⟨hw, hr, hh, hk⟩ := h
    exact ⟨hwin hc hw hk, hrun hc hr hk, hhist ▸ hh, hck hc hk⟩
  request := hreq

theorem Group.Step.of_win {G G' : Group} (hh : G'.hist = G.hist)
    (hw : care.counts → (∀ w, G.win = some w → w.counts.sound = true) → ∀ w, G'.win = some w → w.counts.sound = true) :
    Group.Step care G G' where
  hist := hh
  sound hc h := by
    rw [Group.sound_iff] at h ⊢
    exact ⟨hw hc h.1, hh ▸ h.2⟩

theorem Group.retire_step (G : Group) (gone : RingEntry → Bool) : Group.Step care G (G.retire gone) :=
  .of_win rfl fun _ h => foldl_retireEntry_sound _ _ h

theorem Group.moveWindow_step (G : Group) (b : FrameSeq) {f : GWin → GWin} (hf : ∀ w, (f w).counts = w.counts) :
    Group.Step care G (G.moveWindow b f) := by
  unfold Group.moveWindow
  cases hw : G.win with
  | none => exact .of_win rfl fun _ h => h
  | some w =>
    dsimp only
    cases w.s0 with
    | none => exact .of_win rfl fun _ h x hx => by cases hx; exact h w hw
    | some z => exact .of_win rfl fun _ h x hx => by cases hx; rw [hf]; exact h w hw

/-- A step followed by a change of leading sequence and ring. -/
theorem Group.Step.ring {G G' : Group} (h : Group.Step care G G') (q : Option FrameSeq) (r : List RingEntry) :
    Group.Step care G { G' with leading := q, ring := r } := ⟨h.hist, h.sound⟩

theorem Group.Step.trans {A B C : Group} (h : Group.Step care A B) (k : Group.Step care B C) : Group.Step care A C :=
  ⟨k.hist.trans h.hist, fun hc hs => k.sound hc (h.sound hc hs)⟩

theorem Group.setLeading_step (G : Group) (b : FrameSeq) : Group.Step care G (G.setLeading b) := by
  unfold Group.setLeading
  split
  · exact (G.moveWindow_step b fun _ => rfl).ring _ _
  · split
    · exact G.moveWindow_step b fun _ => rfl
    · split
      · refine ((G.retire_step _).trans ((G.retire _).moveWindow_step b ?_)).ring _ _
        exact fun _ => rfl
      · refine ((G.retire_step _).trans ((G.retire _).moveWindow_step b ?_)).ring _ _
        exact fun _ => rfl

theorem Group.countBlock_step (G : Group) {e : Nat} (he : care.counts → e ≤ 64) (q : FrameSeq) :
    Group.Step care G (G.countBlock e q) := by
  refine .of_win rfl fun hc h x hx => ?_
  unfold Group.countBlock at hx
  cases hw : G.win with
  | none => simp [hw] at hx
  | some w =>
    simp only [hw, Option.some.injEq] at hx
    subst hx
    dsimp only
    split
    · exact Counts.addCounted_sound (he hc) _ (h w hw)
    · exact h w hw

end Sys2Proof.Machine
end

section
/-! What holds through the group aligner's operations (4.3 to 4.5): a predicate that its primitive changes keep is kept by
every operation of it. -/

namespace Sys2Proof.Machine

/-- The predicate `P` is kept by the primitive changes of the group aligner. -/
structure GroupKept (care : Care) (P : State → Prop) : Prop where
  aware : ∀ {s}, care.counts → P s → s.countsSound = true
  mem : ∀ {s} (l f), P s → P (s.modMem l f)
  group : ∀ {s} {g} {f}, P s → Group.Step care (s.group g) (f (s.group g)) → P (s.modGroup g f)
  notify : ∀ {s} (n), P s → P (s.notify n)
  serial : ∀ {s : State}, P s → P { s with serial := s.serial + 1 }
  append : ∀ {s} {g} {r : WinRecord}, P s → (care.counts → r.counts.sound = true) →
    P (s.modHistory (.group g) (fun h => appendHistory h r))
  post : ∀ {s} (g number serial errs bits), P s → P (s.postJob (.group g) number serial errs bits)

variable {care : Care} {P : State → Prop} {s : State}

theorem foldl_keeps {α : Type} {f : State → α → State} (hf : ∀ {s} (a : α), P s → P (f s a)) (xs : List α) :
    ∀ {s}, P s → P (xs.foldl f s) := by
  induction xs with
  | nil => exact id
  | cons x xs ih => exact fun hs => ih (hf x hs)

theorem State.forLanes_keeps {f : LaneNo → State → State} (hf : ∀ {s} (l), P s → P (f l s)) (hs : P s) :
    P (s.forLanes f) := foldl_keeps (fun l => hf l) _ hs

theorem ite_keeps {c : Prop} [Decidable c] {a b : State} (ha : c → P a) (hb : ¬c → P b) : P (if c then a else b) := by
  split
  · next h => exact ha h
  · next h => exact hb h

theorem ite_keeps_of {c : Prop} [Decidable c] {a b : State} (hb : P a → P b) (ha : P a) : P (if c then b else a) :=
  ite_keeps (fun _ => hb ha) fun _ => ha

theorem ite_keeps_of' {c : Prop} [Decidable c] {a b : State} (hb : P a → P b) (ha : P a) : P (if c then a else b) :=
  ite_keeps (fun _ => ha) fun _ => hb ha

namespace GroupKept

theorem group_sound (K : GroupKept care P) (hc : care.counts) (hs : P s) (g : GroupId) : (s.group g).sound = true :=
  ((State.countsSound_iff s).mp (K.aware hc hs)).2 g

theorem lane_sound (K : GroupKept care P) (hc : care.counts) (hs : P s) (l : LaneNo) : (s.lane l).sound = true :=
  ((State.countsSound_iff s).mp (K.aware hc hs)).1 l

theorem fileRecord (K : GroupKept care P) (hs : P s) {r : WinRecord} {g : GroupId} (hr : r.source = .group g)
    (hc : care.counts → r.counts.sound = true) (post note : Bool) : P (s.fileRecord r post note) := by
  unfold State.fileRecord
  rw [hr]
  dsimp only
  have h1 := K.append (g := g) hs hc
  have h2 := ite_keeps (P := P) (c := (post && decide (r.counts.bits ≠ 0)) = true)
    (fun _ => K.post g r.number r.serial r.counts.errors r.counts.bits h1) (fun _ => h1)
  exact ite_keeps (fun _ => K.notify _ h2) (fun _ => h2)

theorem refreshLag (K : GroupKept care P) (g : GroupId) (l : LaneNo) (hs : P s) : P (s.refreshLag g l) := by
  unfold State.refreshLag
  refine ite_keeps (fun _ => hs) fun _ => ite_keeps (fun _ => K.mem _ _ hs) fun _ => ?_
  split
  · exact hs
  · exact ite_keeps (fun _ => K.notify _ (K.mem _ _ hs)) fun _ => K.mem _ _ hs

theorem recompute (K : GroupKept care P) (g : GroupId) (hs : P s) : P (s.recompute g) := by
  unfold State.recompute
  refine State.forLanes_keeps (fun l => K.refreshLag g l) ?_
  split
  · exact hs
  · exact K.group hs (Group.setLeading_step _ _)

theorem dropContrib (K : GroupKept care P) (g : GroupId) (hs : P s) : P (s.dropContrib g) :=
  State.forLanes_keeps (fun _ hs => ite_keeps (fun _ => K.mem _ _ hs) fun _ => hs) hs

theorem clearWholes (K : GroupKept care P) (g : GroupId) (hs : P s) : P (s.clearWholes g) :=
  State.forLanes_keeps (fun _ hs => ite_keeps (fun _ => K.mem _ _ hs) fun _ => hs) hs

theorem openGroup (K : GroupKept care P) (g : GroupId) (spec : WinSpec) (rep notices : Bool) (z : Option FrameSeq)
    (o : Int) (hs : P s) : P (s.openGroup g spec rep notices z o) := by
  refine ite_keeps_of (K.clearWholes g)
    (State.forLanes_keeps (fun _ hs => ite_keeps (fun _ => K.mem _ _ hs) fun _ => hs) (K.group hs (.of_win rfl ?_)))
  rintro _ _ w hw
  obtain rfl := Option.some.inj hw
  exact Counts.zero_sound

theorem closeGroup (K : GroupKept care P) (g : GroupId) (r : CloseReason) (hs : P s) : P (s.closeGroup g r) := by
  unfold State.closeGroup
  split
  · exact hs
  · next w0 _ =>
    have h1 := K.group (f := fun gr => gr.retire (fun e => w0.inSpan e.seq)) hs (Group.retire_step (s.group g) _)
    dsimp only
    split
    · exact h1
    · next w hw =>
      have hw' : care.counts → w.counts.sound = true := fun hc => ((Group.sound_iff _).mp (K.group_sound hc h1 g)).1 w hw
      have h2 := K.serial (K.group (g := g) (f := fun gr => { gr with win := none }) h1
        (.of_win rfl fun _ _ x hx => by cases hx))
      have h3 : ∀ x : WinRecord, x.source = .group g → x.counts = w.counts → P (State.fileRecord _ x true w.notices) :=
        fun x hx hc => K.fileRecord h2 hx (hc ▸ hw') true w.notices
      split
      · exact K.openGroup _ _ _ _ _ _ (h3 _ rfl rfl)
      · exact h3 _ rfl rfl

theorem closeDue (K : GroupKept care P) (g : GroupId) (n : Nat) (hs : P s) : P (s.closeDue g n) := by
  induction n generalizing s with
  | zero => exact hs
  | succ n ih => exact ite_keeps (fun _ => ih (K.closeGroup g _ hs)) fun _ => hs

theorem retirePassed (K : GroupKept care P) (g : GroupId) (hs : P s) : P (s.retirePassed g) :=
  ite_keeps (fun _ => hs) fun _ => K.group hs (Group.retire_step _ _)

theorem settleGroup (K : GroupKept care P) (g : GroupId) (hs : P s) : P (s.settleGroup g) :=
  K.closeDue g _ (K.retirePassed g hs)

theorem markReported (K : GroupKept care P) (g : GroupId) (l : LaneNo) (q : FrameSeq) (hs : P s) :
    P (s.markReported g l q) := by
  refine K.group hs (.of_win rfl fun _ h w hw => ?_)
  cases hx : (s.group g).win with
  | none => simp [hx] at hw
  | some x =>
    simp only [hx] at hw
    split at hw
    · obtain rfl := Option.some.inj hw
      exact h x hx
    · split at hw
      · obtain rfl := Option.some.inj hw
        exact h x hx
      · obtain rfl := Option.some.inj hw
        exact h x hx

theorem startContrib (K : GroupKept care P) (l : LaneNo) (hs : P s) : P (s.startContrib l) :=
  ite_keeps (fun _ => K.mem _ _ hs) fun _ => hs

theorem groupEvent (K : GroupKept care P) (g : GroupId) (bl : Option (LaneNo × FrameSeq)) (hs : P s) :
    P (s.groupEvent g bl) := by
  unfold State.groupEvent
  dsimp only
  have h1 := K.recompute g hs
  refine K.settleGroup g ?_
  have h2 : P (match bl with
    | none => s.recompute g
    | some (l, q) => ((s.recompute g).markReported g l q).startContrib l) := by
    split
    · exact h1
    · exact K.startContrib _ (K.markReported _ _ _ h1)
  have h3 := K.dropContrib g h2
  exact ite_keeps (fun _ => K.clearWholes g h3) fun _ => h3

theorem groupRefresh (K : GroupKept care P) (l : LaneNo) (hs : P s) : P (s.groupRefresh l) := by
  unfold State.groupRefresh
  split
  · exact hs
  · exact K.settleGroup _ (K.dropContrib _ hs)

theorem groupLeft (K : GroupKept care P) (l : LaneNo) (hs : P s) : P (s.groupLeft l) := by
  unfold State.groupLeft
  split
  · exact hs
  · exact K.groupEvent _ _ hs

theorem groupBoundary (K : GroupKept care P) (l : LaneNo) (q : FrameSeq) (hs : P s) : P (s.groupBoundary l q) := by
  unfold State.groupBoundary
  split
  · exact hs
  · exact K.groupEvent _ _ hs

theorem groupCount (K : GroupKept care P) (l : LaneNo) {c : Checked} (hc : care.counts → c.errs ≤ 64) (hs : P s) :
    P (s.groupCount l c) := by
  unfold State.groupCount
  split
  · exact ite_keeps (fun _ => K.group hs (Group.countBlock_step _ hc _)) fun _ => hs
  · exact hs

end GroupKept

end Sys2Proof.Machine
end

section
/-! What holds through the measuring operations of a lane: reports, capture, triggers, windows, checker and holds. -/

namespace Sys2Proof.Machine

/-- The predicate `P` is kept by the primitive changes of every measuring operation. -/
structure Measured (care : Care) (l : LaneNo) (P : State → Prop) : Prop extends GroupKept care P where
  lane : ∀ {s} {f}, P s → Lane.Step care (s.lane l) (f (s.lane l)) → P (s.modLane l f)
  capture : ∀ {s} (c), P s → P (s.placeCapture c)
  appendLane : ∀ {s} {r : WinRecord}, P s → (care.counts → r.counts.sound = true) →
    P (s.modHistory (.lane l) (fun h => appendHistory h r))
  postLane : ∀ {s} (number serial errs bits), P s → P (s.postJob (.lane l) number serial errs bits)
  faults : ∀ {s : State} (m), P s → P { s with memFault := m }
  suspects : ∀ {s} (b), P s → P (s.markSuspects b)

variable {care : Care} {l : LaneNo} {P : State → Prop} {s : State}

/-- A change of a lane outside its counts and its pending heavy run. -/
theorem Lane.Step.of_eq {L L' : Lane} (htx : L'.tx = L.tx) (hrx : L'.rxBuf = L.rxBuf) (hrem : L'.remote = L.remote)
    (hhist : L'.hist = L.hist) (hwin : L'.win.counts = L.win.counts) (hrun : L'.run.counts = L.run.counts)
    (hck : L'.ck.run = L.ck.run) (hreq : care.requests → L'.holdReq = L.holdReq := by exact fun _ => rfl) :
    Lane.Step care L L' :=
  .of_counts htx hrx hrem hhist (fun _ h _ => hwin ▸ h) (fun _ h _ => hrun ▸ h) (fun _ h => hck ▸ h) hreq

/-- A report that keeps counts sound. -/
theorem Lane.Step.report (L : Lane) {f : Counts → Counts} (hf : ∀ c : Counts, c.sound = true → (f c).sound = true) :
    Lane.Step care L { L with
      win := if L.win.isOpen then { L.win with counts := f L.win.counts } else L.win
      run := { L.run with counts := f L.run.counts } } := by
  refine .of_counts rfl rfl rfl rfl (fun _ h _ => ?_) (fun _ h _ => hf _ h) (fun _ h => h)
  dsimp only
  split
  · exact hf _ h
  · exact h

/-- The items of a pending heavy run may be accounted. -/
def ItemsSound (care : Care) (run : List RunItem) : Prop := care.counts → runSound run = true

theorem foldl_run_keeps {f : State → RunItem → State}
    (hheavy : ∀ {s} {r : Checked}, (care.counts → r.errs ≤ 64) → P s → P (f s (.heavy r)))
    (hentry : ∀ {s} (c), P s → P (f s (.entry c))) :
    ∀ (run : List RunItem) {s}, ItemsSound care run → P s → P (run.foldl f s) := by
  intro run
  induction run with
  | nil => exact fun _ hs => hs
  | cons it run ih =>
    intro s hr hs
    cases it with
    | heavy r =>
      have h : care.counts → r.errs ≤ 64 ∧ runSound run = true := fun hc => by simpa using hr hc
      exact ih (fun hc => (h hc).2) (hheavy (fun hc => (h hc).1) hs)
    | entry c => exact ih hr (hentry c hs)

theorem State.expected_of_user {l : LaneNo} (h : patIsUser (s.rxPat l).kind = true) :
    s.expected l =
      (inverted (s.rxPat l).invert (s.readPattern l ((s.rxPat l).start + (s.lane l).ck.phase) true).1,
        (s.readPattern l ((s.rxPat l).start + (s.lane l).ck.phase) true).2.modCk l
          (fun k => { k with phase := nextPhase k.phase (s.rxPat l).len })) := if_pos h

theorem State.expected_of_prbs {l : LaneNo} (h : ¬patIsUser (s.rxPat l).kind = true) :
    s.expected l =
      (inverted (s.rxPat l).invert (prbsBlock (s.rxPat l).kind (s.lane l).ck.stages).1,
        s.modCk l (fun k => { k with stages := (prbsBlock (s.rxPat l).kind (s.lane l).ck.stages).2 })) := if_neg h

namespace Measured

theorem runItems (K : Measured care l P) (hs : P s) (l : LaneNo) : ItemsSound care (s.lane l).ck.run := fun hc =>
  ((Lane.sound_iff _).mp (K.toGroupKept.lane_sound hc hs l)).2.2.2

theorem modAl (K : Measured care l P) (f : Aligner → Aligner) (hs : P s) : P (s.modAl l f) :=
  K.lane hs (.of_eq rfl rfl rfl rfl rfl rfl rfl)

/-- A change of a checker that leaves its pending heavy run. -/
theorem modCk (K : Measured care l P) {f : Checker → Checker} (hs : P s)
    (hf : (f (s.lane l).ck).run = (s.lane l).ck.run) : P (s.modCk l f) :=
  K.lane hs (.of_eq rfl rfl rfl rfl rfl rfl hf)

/-- A change of a pending heavy run. -/
theorem modCkRun (K : Measured care l P) {f : Checker → Checker} (hs : P s)
    (hf : care.counts → runSound (s.lane l).ck.run = true → runSound (f (s.lane l).ck).run = true) : P (s.modCk l f) :=
  K.lane hs (.of_counts rfl rfl rfl rfl (fun _ h _ => h) (fun _ h _ => h) hf)

/-- A change of a window with sound counts. -/
theorem modWin (K : Measured care l P) {f : Win → Win} (hs : P s)
    (hf : (s.lane l).win.counts.sound = true → (f (s.lane l).win).counts.sound = true) : P (s.modWin l f) :=
  K.lane hs (.of_counts rfl rfl rfl rfl (fun _ h _ => hf h) (fun _ h _ => h) (fun _ h => h))

theorem report (K : Measured care l P) {f : Counts → Counts}
    (hf : ∀ c : Counts, c.sound = true → (f c).sound = true) (hs : P s) : P (s.report l f) :=
  K.lane hs (.report _ hf)

theorem forgetAlarm (K : Measured care l P) (hs : P s) : P (s.forgetAlarm l) :=
  K.lane hs (.of_eq rfl rfl rfl rfl rfl rfl rfl)

theorem clearRun (K : Measured care l P) (hs : P s) : P (s.clearRun l) :=
  K.lane hs (.of_counts rfl rfl rfl rfl (fun _ h _ => h) (fun _ _ _ => Counts.zero_sound) (fun _ h => h))

/-! ### Capture queue and triggers -/

theorem giveEntry (K : Measured care l P) (c : CapEntry) (hs : P s) : P (s.giveEntry l c) :=
  ite_keeps (fun _ => K.capture c hs) fun _ => K.modCkRun hs fun _ h => by simpa using h

theorem offerEvent (K : Measured care l P) (k : CapKind) (q : Option FrameSeq) (p : Nat) (hs : P s) :
    P (s.offerEvent l k q p) := ite_keeps_of (K.giveEntry _) hs

theorem fireTrigger (K : Measured care l P) (hq : ¬care.requests) (q : Option FrameSeq) (p : Nat) (t : Tick) (hs : P s) :
    P (s.fireTrigger l q p t) :=
  K.notify _ (K.giveEntry _ (K.lane hs (.of_eq rfl rfl rfl rfl rfl rfl rfl fun h => (hq h).elim)))

theorem readPattern (K : Measured care l P) (i : Nat) (byChecker : Bool) (hs : P s) :
    P (s.readPattern l i byChecker).2 := by
  have h := K.modWin (f := fun v => { v with banks := v.banks.set (bankOf i) true }) hs id
  exact K.suspects _ (ite_keeps (fun _ => h) fun _ => K.notify _ (K.faults _ h))

/-! ### Records and windows -/

theorem fileLaneRecord (K : Measured care l P) (hs : P s) {r : WinRecord} (hr : r.source = .lane l)
    (hc : care.counts → r.counts.sound = true) (post note : Bool) : P (s.fileRecord r post note) := by
  unfold State.fileRecord
  rw [hr]
  have h1 := K.appendLane hs hc
  have h2 := ite_keeps (P := P) (c := (post && decide (r.counts.bits ≠ 0)) = true)
    (fun _ => K.postLane r.number r.serial r.counts.errors r.counts.bits h1) (fun _ => h1)
  exact ite_keeps (fun _ => K.notify _ h2) (fun _ => h2)

theorem countBlock (K : Measured care l P) (hq : ¬care.requests) {c : Checked} (hc : care.counts → c.errs ≤ 64) (hs : P s) :
    P (s.countBlock l c) := by
  unfold State.countBlock
  have h1 := K.lane (f := fun L => { L with win := L.win.count c, run := L.run.count c }) hs
    (.of_counts rfl rfl rfl rfl (fun hk h _ => Win.count_sound (hc hk) h) (fun hk h _ => RunTotals.count_sound (hc hk) h)
      (fun _ h => h))
  have h2 := K.groupCount l hc h1
  have h3 := ite_keeps (P := P) (c := (decide (c.errs ≠ 0) && c.wants) = true)
    (fun _ => K.giveEntry ⟨l, .bitErrors, c.seq, c.pos, some c.errs, c.tick⟩ h2) (fun _ => h2)
  exact ite_keeps_of (K.fireTrigger hq _ _ _) (K.lane h3 (.of_eq rfl rfl rfl rfl rfl rfl rfl))

theorem releaseRun (K : Measured care l P) (hq : ¬care.requests) (hs : P s) : P (s.releaseRun l) :=
  ite_keeps (fun _ => hs) fun _ => K.groupRefresh l
    (foldl_run_keeps (f := State.releaseItem l) (fun hr hs => K.countBlock hq hr hs) (fun c hs => K.capture c hs) _
      (K.runItems hs l) (K.modCkRun (f := fun k => { k with run := [] }) hs fun _ _ => rfl))

theorem discardRun (K : Measured care l P) (count give : Bool) (hs : P s) : P (s.discardRun l count give) := by
  refine ite_keeps (fun _ => hs) fun _ => K.groupRefresh l ?_
  have h1 := K.modCkRun (f := fun k => { k with run := [] }) hs fun _ _ => rfl
  have h2 := ite_keeps_of (P := P) (c := count = true)
    (K.report (fun _ h => Counts.addUnsynced_sound (heavyCount (s.lane l).ck.run) h)) h1
  exact ite_keeps_of (foldl_run_keeps (f := State.discardItem) (fun _ hs => hs) (fun c hs => K.capture c hs) _
    (K.runItems hs l)) h2

theorem openWindow (K : Measured care l P) (hs : P s) : P (s.openWindow l) :=
  K.modWin hs fun _ => Counts.zero_sound

theorem discardWindow (K : Measured care l P) (hs : P s) : P (s.discardWindow l) := K.modWin hs id

theorem closeWindow (K : Measured care l P) (r : CloseReason) (hq : r ≠ .restart → ¬care.requests) (hs : P s) : P (s.closeWindow l r) := by
  refine ite_keeps (fun _ => hs) fun _ => ?_
  have h1 := ite_keeps (P := P) (c := r = .restart) (fun _ => hs) fun h => K.releaseRun (hq h) hs
  have h2 := K.fileLaneRecord (K.serial h1) (r := State.laneRecord _ l r) rfl
    (fun hc => ((Lane.sound_iff _).mp (K.toGroupKept.lane_sound hc h1 l)).1) (r != CloseReason.restart)
  exact ite_keeps_of (K.openWindow) (K.modWin (h2 _) id)

theorem nextFrameTags (K : Measured care l P) (hs : P s) : P (s.nextFrameTags l) :=
  K.lane hs (.of_eq rfl rfl rfl rfl rfl rfl rfl)

theorem windowBoundary (K : Measured care l P) (hq : ¬care.requests) (q : FrameSeq) (hs : P s) : P (s.windowBoundary l q) := by
  have h := K.nextFrameTags hs
  refine ite_keeps (fun _ => h) fun _ => ite_keeps (fun _ => K.modWin h id) fun _ => ?_
  have h' := K.modWin (f := Win.addFrame) h id
  exact ite_keeps (fun _ => K.closeWindow _ (fun _ => hq) h') fun _ => K.modWin h' id

theorem windowTick (K : Measured care l P) (hq : ¬care.requests) (hs : P s) : P (s.windowTick l) := by
  refine ite_keeps (fun _ => ?_) fun _ => hs
  exact ite_keeps_of (K.closeWindow _ (fun _ => hq)) (K.modWin (f := Win.addTick) hs id)

theorem pseudoBoundary (K : Measured care l P) (hq : ¬care.requests) (hs : P s) : P (s.pseudoBoundary l) :=
  ite_keeps_of (K.closeWindow _ (fun _ => hq)) (K.modWin (f := Win.addPseudo) hs id)

theorem rawAdvance (K : Measured care l P) (hq : ¬care.requests) (hs : P s) : P (s.rawAdvance l) := by
  have h := K.lane (f := fun L => { L with run := L.run.rawAdvance }) hs
    (.of_eq rfl rfl rfl rfl rfl (by unfold RunTotals.rawAdvance; split <;> rfl) rfl)
  exact ite_keeps (fun _ => h) fun _ => ite_keeps (fun _ => K.modWin h id) fun _ => K.pseudoBoundary hq h

/-! ### Checker -/

theorem enterHunt (K : Measured care l P) (hs : P s) : P (s.enterHunt l) := by
  unfold State.enterHunt
  exact K.modCk hs rfl

theorem forceHunt (K : Measured care l P) (cause : SyncCause) (count give : Bool) (hs : P s) :
    P (s.forceHunt l cause count give) :=
  ite_keeps (fun _ => hs) fun _ => K.groupRefresh l
    (ite_keeps_of (K.notify _) (K.enterHunt (K.discardRun count give hs)))

theorem stopChecker (K : Measured care l P) (hq : ¬care.requests) (hs : P s) : P (s.stopChecker l) :=
  ite_keeps (fun _ => hs) fun _ => K.groupRefresh l
    (ite_keeps_of (K.notify _) (K.modCk (K.closeWindow _ (fun _ => hq) (K.releaseRun hq hs)) rfl))

theorem expected (K : Measured care l P) (hs : P s) : P (s.expected l).2 := by
  by_cases hu : patIsUser (s.rxPat l).kind = true
  · rw [State.expected_of_user hu]
    dsimp only
    exact K.modCk (K.readPattern _ _ hs) rfl
  · rw [State.expected_of_prbs hu]
    dsimp only
    exact K.modCk hs rfl

theorem advanceHeld (K : Measured care l P) (hs : P s) : P (s.advanceHeld l) := by
  unfold State.advanceHeld
  exact K.modCk hs (by split <;> rfl)

theorem seedBlock (K : Measured care l P) (b : Block) (hs : P s) : P (s.seedBlock l b) := by
  unfold State.seedBlock
  exact K.modCk hs (by split <;> rfl)

theorem takePhase (K : Measured care l P) (q : Nat) (hs : P s) : P (s.takePhase l q) :=
  ite_keeps (fun _ => K.modCk hs rfl) fun _ => hs

theorem enterLocked (K : Measured care l P) (hs : P s) : P (s.enterLocked l) :=
  K.notify _ (K.lane hs (.of_eq rfl rfl rfl rfl rfl rfl rfl))

theorem confirmBlock (K : Measured care l P) (b : Block) (hs : P s) : P (s.confirmBlock l b) := by
  have h := K.report (fun _ h => Counts.addUnsynced_sound 1 h) (K.expected hs)
  refine ite_keeps (fun _ => ite_keeps_of (K.enterLocked) (K.modCk h rfl)) fun _ => ?_
  exact ite_keeps (fun _ => K.modCk h rfl) fun _ => K.seedBlock b h

theorem countLoss (K : Measured care l P) (hq : ¬care.requests) (kind : LossKind) (q : Option FrameSeq) (p : Nat) (hs : P s) :
    P (s.countLoss l kind q p) := by
  have h := K.offerEvent .syncLoss q p (K.report (fun _ h => Counts.addSyncLoss_sound h) hs)
  exact K.groupRefresh l (K.notify _ (K.modCk (ite_keeps_of (K.fireTrigger hq _ _ _) h) rfl))

theorem lockedBlock (K : Measured care l P) (hq : ¬care.requests) (b : Block) (fp : Option (FrameSeq × Nat)) (hs : P s) :
    P (s.lockedBlock l b fp) := by
  have h := K.modCk (f := fun k => { k with sinceLock := k.sinceLock + 1 }) (K.expected hs) rfl
  have he : bitErrors b (s.expected l).1 ≤ 64 := bitErrors_le _ _
  refine ite_keeps (fun _ => K.countBlock hq (fun _ => he) (K.releaseRun hq h)) fun _ => ?_
  exact ite_keeps_of (fun hs => K.countLoss hq _ _ _ (K.discardRun _ _ hs))
    (K.modCkRun h fun _ hr => by
      change runSound (_ ++ _) = true
      rw [runSound_append, hr]
      simpa using he)

theorem checkBlock (K : Measured care l P) (hq : ¬care.requests) (b : Block) (fp : Option (FrameSeq × Nat)) (hs : P s) :
    P (s.checkBlock l b fp) := by
  unfold State.checkBlock
  have h := ite_keeps_of (c := ((s.lane l).ck.state == .lost && (s.desc l).autoResync) = true) (K.enterHunt) hs
  dsimp only
  split
  · exact h
  · exact K.report (fun _ h => Counts.addUnsynced_sound 1 h) h
  · exact ite_keeps_of (K.seedBlock b) (K.report (fun _ h => Counts.addUnsynced_sound 1 h) h)
  · exact K.confirmBlock b h
  · exact K.lockedBlock hq b fp h

theorem checkerTake (K : Measured care l P) (hq : ¬care.requests) (b : Block) (fp : Option (FrameSeq × Nat)) (hs : P s) :
    P (s.checkerTake l b fp) := by
  refine ite_keeps (fun _ => hs) fun _ => ite_keeps (fun _ => ?_) fun _ => ?_
  · have h := K.checkBlock hq b fp hs
    exact ite_keeps (fun _ => h) fun _ => K.rawAdvance hq h
  · have h := K.report (fun _ h => Counts.addHeld_sound h) hs
    dsimp only
    split
    · exact K.advanceHeld h
    · exact K.advanceHeld h
    · exact h

theorem noteAligned (K : Measured care l P) (hs : P s) : P (s.noteAligned l) :=
  ite_keeps_of (K.enterHunt) hs

theorem holdEndCheck (K : Measured care l P) (hq : ¬care.requests) (hs : P s) : P (s.holdEndCheck l) := by
  refine ite_keeps (fun _ => hs) fun _ => ?_
  split
  · exact ite_keeps (fun _ => hs) fun _ => K.countLoss hq _ _ _ (K.discardRun _ _ hs)
  · exact ite_keeps (fun _ => hs) fun _ => K.enterHunt hs
  · exact ite_keeps (fun _ => K.enterHunt hs) fun _ => ite_keeps_of (K.enterHunt) hs
  · exact hs

theorem requestHold (K : Measured care l P) (hs : P s) : P (s.requestHold l) :=
  ite_keeps (fun _ => K.groupRefresh l (K.lane hs (.of_eq rfl rfl rfl rfl rfl rfl rfl))) fun _ => hs

theorem settleHold (K : Measured care l P) (hq : ¬care.requests) (hs : P s) : P (s.settleHold l) :=
  ite_keeps (fun _ => K.requestHold (K.lane hs (.of_eq rfl rfl rfl rfl rfl rfl rfl fun h => (hq h).elim))) fun _ => hs

theorem settleHolds (K : ∀ l, Measured care l P) (hq : ¬care.requests) (hs : P s) : P s.settleHolds :=
  State.forLanes_keeps (f := fun l s => s.settleHold l) (fun l hs => (K l).settleHold hq hs) hs

theorem endStep (K : Measured care l P) (q : Option FrameSeq) (hs : P s) : P (s.endStep l q) :=
  ite_keeps (fun _ => K.groupRefresh l (K.notify _ (K.lane hs (.of_eq rfl rfl rfl rfl rfl rfl rfl)))) fun _ => hs

end Measured

end Sys2Proof.Machine
end

section
/-! What holds through every row: a predicate that the primitive changes of the part keep is kept by each step. -/

namespace Sys2Proof.Machine

/-- A change of a lane that keeps its buffers and its history within their sizes, its counts sound and its remote actions. -/
structure Lane.Move (care : Care) (L L' : Lane) : Prop where
  remote : L'.remote = L.remote
  bounded : L.bounded = true → L'.bounded = true
  sound : care.counts → L.sound = true → L'.sound = true
  request : care.requests → L'.holdReq = L.holdReq := by exact fun _ => rfl

/-- The state without what no invariant of the part speaks of. -/
def State.bare (s : State) : State :=
  { s with
    resetPin := false, quietPin := false, memFault := Four.all false, slotPos := 0, frameSeq := 0, firstFrame := false,
    inj := Four.all InjChan.reset, serial := 0, captureOver := false, ingress := .idle, egressSent := 0, lastServed := 0,
    noticesLost := false, slotOut := none, egressOut := none, pending := [] }

/-- From `s` to `t` entries of the tables other than the channel settings are written: none becomes empty, and pattern memory
keeps its canonical form. -/
structure State.Writes (s t : State) : Prop where
  rest : { t with
    laneMap := s.laneMap, laneDesc := s.laneDesc, patDesc := s.patDesc, patMem := s.patMem, sched := s.sched,
    conf := s.conf, profiles := s.profiles, groupDesc := s.groupDesc, permit := s.permit } = s := by rfl
  laneMap : ∀ l, (s.laneMap.get l).isSome = true → (t.laneMap.get l).isSome = true := by exact fun _ h => h
  laneDesc : ∀ l, (s.laneDesc.get l).isSome = true → (t.laneDesc.get l).isSome = true := by exact fun _ h => h
  patDesc : ∀ l, (s.patDesc.get l).isSome = true → (t.patDesc.get l).isSome = true := by exact fun _ h => h
  patMem : PatMem.wf s.patMem = true → PatMem.wf t.patMem = true := by exact fun h => h
  sched : ∀ (i : Nat) (h : i < 64), (s.sched[i]'h).isSome = true → (t.sched[i]'h).isSome = true := by exact fun _ _ h => h
  conf : ∀ (i : Nat) (h : i < 32), (s.conf[i]'h).isSome = true → (t.conf[i]'h).isSome = true := by exact fun _ _ h => h
  profiles : ∀ i, (s.profiles.get i).isSome = true → (t.profiles.get i).isSome = true := by exact fun _ h => h
  groupDesc : ∀ g, (s.groupDesc.get g).isSome = true → (t.groupDesc.get g).isSome = true := by exact fun _ h => h

/-- The predicate `P` is kept by the changes of which the work of the lanes, of the groups and of the marker channel is made. -/
structure Basic (care : Care) (P : State → Prop) : Prop where
  aware : ∀ {s}, care.counts → P s → s.countsSound = true
  bare : ∀ {s t : State}, P s → t.bare = s.bare → P t
  lanes : ∀ {s : State} {v : Eight Lane}, P s → (∀ l, Lane.Move care (s.lane l) (v.get l)) → P { s with lanes := v }
  group : ∀ {s} {g} {f}, P s → Group.Step care (s.group g) (f (s.group g)) → P (s.modGroup g f)
  notify : ∀ {s} (n), P s → P (s.notify n)
  capture : ∀ {s} (c), P s → P (s.placeCapture c)
  append : ∀ {s} {src} {r : WinRecord}, P s → (care.counts → r.counts.sound = true) →
    P (s.modHistory src (fun h => appendHistory h r))
  post : ∀ {s} (src number serial errs bits), P s → P (s.postJob src number serial errs bits)
  link : ∀ {s : State} {k : Link}, P s → (s.link.outbound.length ≤ 4 → k.outbound.length ≤ 4) → P { s with link := k }
  settle : ∀ {s : State}, care.requests → P s.settleHolds := by exact fun h => h.elim

/-- The predicate `P` is kept by the primitive changes of the part, the tick counter, the hard reset and the taking and
answering of commands apart. -/
structure Kept (care : Care) (P : State → Prop) : Prop extends Basic care P where
  captures : ∀ {s : State} {c : List CapEntry}, P s → c.length ≤ s.capture.length → P { s with capture := c }
  forget : ∀ {s} (l), P s → P ((s.modHistory (.lane l) (fun _ => [])).dropLaneJobs l)
  complete : ∀ {s}, P s → P s.completeJob
  queue : ∀ {s : State} (r), P s → s.cmdQ.length < 8 → P { s with cmdQ := s.cmdQ ++ [r] }
  send : ∀ {s : State}, P s → P { s with egress := s.egress.drop 1 }
  writes : ∀ {s t}, P s → s.Writes t → P t
  chan : ∀ {s : State} (e moved), P s → P (({ s with chan := some e }.rejudgeLink moved).periodChanged s.supPeriod)
  supervise : ∀ {s : State} (p a), P s →
    P ({ s with chan := s.chan.map (ChanSettings.withSup p a) }.periodChanged s.supPeriod)
  calm : ∀ {s : State}, P s → P { s with sup := { s.sup with armed := false, warned := false } }
  beat : ∀ {s : State}, P s → s.supActive = true → P { s with sup := { s.sup with ticks := s.sup.ticks + 1 } }
  expire : ∀ {s}, ¬care.requests → P s → s.supActive = true → P s.supExpire
  remote : ∀ {s} (l f), P s → P (s.modRemote l f)
  softReset : ∀ {s}, P s → P s.softReset
  configure : ∀ {s : State}, P s → s.firstEmpty = none → P { s with configured := true }
  unconfigure : ∀ {s : State}, P s → P { s with configured := false }

variable {care : Care} {P Q : State → Prop} {s : State}

theorem Lane.bounded_iff (L : Lane) :
    L.bounded = true ↔ L.tx.buf.length ≤ 32 ∧ L.rxBuf.length ≤ 32 ∧ L.hist.length ≤ 16 := by
  simp [Lane.bounded, and_assoc]

theorem Lane.Move.refl (L : Lane) : Lane.Move care L L := ⟨rfl, id, fun _ => id, fun _ => rfl⟩

theorem Lane.Step.move {L L' : Lane} (h : Lane.Step care L L') : Lane.Move care L L' where
  remote := h.remote
  bounded hb := by
    rw [Lane.bounded_iff] at hb ⊢
    rw [h.tx, h.rxBuf, h.hist]
    exact hb
  sound := h.sound
  request := h.request

theorem Lane.Move.of_eq {L L' : Lane} (htx : L'.tx = L.tx) (hrx : L'.rxBuf = L.rxBuf) (hrem : L'.remote = L.remote)
    (hhist : L'.hist = L.hist) (hwin : L'.win.counts = L.win.counts) (hrun : L'.run.counts = L.run.counts)
    (hck : L'.ck.run = L.ck.run) (hreq : care.requests → L'.holdReq = L.holdReq := by exact fun _ => rfl) :
    Lane.Move care L L' := (Lane.Step.of_eq htx hrx hrem hhist hwin hrun hck hreq).move

theorem Link.length_advance (k : Link) : k.advance.outbound.length ≤ k.outbound.length := by
  unfold Link.advance
  split
  · exact le_rfl
  · next h => split <;> simp [h]

namespace Basic

/-- A change of one lane. -/
theorem modLane (K : Basic care P) (l : LaneNo) {f : Lane → Lane} (hs : P s)
    (hf : Lane.Move care (s.lane l) (f (s.lane l))) : P (s.modLane l f) := by
  refine K.lanes hs fun m => ?_
  rw [Eight.get_set]
  split
  · next h => exact h ▸ hf
  · exact .refl _

theorem toGroupKept (K : Basic care P) : GroupKept care P where
  aware := K.aware
  mem l f hs := K.modLane l hs (.of_eq rfl rfl rfl rfl rfl rfl rfl)
  group := K.group
  notify := K.notify
  serial hs := K.bare hs rfl
  append := K.append
  post _ := K.post _

theorem toMeasured (K : Basic care P) (l : LaneNo) : Measured care l P where
  toGroupKept := K.toGroupKept
  lane hs hf := K.modLane l hs hf.move
  capture := K.capture
  appendLane := K.append
  postLane := K.post _
  faults m hs := K.bare hs rfl
  suspects b hs := by
    refine K.lanes hs fun l => ?_
    rw [Eight.get_map]
    split
    · exact .of_eq rfl rfl rfl rfl rfl rfl rfl
    · exact .refl _

/-- A change of a transmitter that keeps its pass buffer within its size. -/
theorem modTx (K : Basic care P) (l : LaneNo) {f : Tx → Tx} (hs : P s)
    (hf : (s.lane l).tx.buf.length ≤ 32 → (f (s.lane l).tx).buf.length ≤ 32) : P (s.modTx l f) :=
  K.modLane l hs
    { remote := rfl
      bounded := fun h => by
        rw [Lane.bounded_iff] at h ⊢
        exact ⟨hf h.1, h.2⟩
      sound := fun _ h => h }

/-- A change of a receive pass buffer that keeps it within its size. -/
theorem modRx (K : Basic care P) (l : LaneNo) {f : Lane → Lane} (hs : P s)
    (htx : (f (s.lane l)).tx = (s.lane l).tx) (hrem : (f (s.lane l)).remote = (s.lane l).remote)
    (hhist : (f (s.lane l)).hist = (s.lane l).hist) (hsound : (f (s.lane l)).sound = (s.lane l).sound)
    (hreq : (f (s.lane l)).holdReq = (s.lane l).holdReq)
    (hbuf : (s.lane l).rxBuf.length ≤ 32 → (f (s.lane l)).rxBuf.length ≤ 32) : P (s.modLane l f) :=
  K.modLane l hs
    { remote := hrem
      bounded := fun h => by
        rw [Lane.bounded_iff] at h ⊢
        rw [htx, hhist]
        exact ⟨h.1, hbuf h.2.1, h.2.2⟩
      sound := fun _ h => hsound ▸ h
      request := fun _ => hreq }

/-- The hold requests of an arrival are settled at its end, whatever triggers it fired. -/
theorem arrival (K : Basic care P) (h : ¬care.requests → P s) : P s.settleHolds := by
  by_cases hq : care.requests
  · exact K.settle hq
  · exact Measured.settleHolds K.toMeasured hq (h hq)

theorem inj (K : Basic care P) (c : ChanNo) (f : InjChan → InjChan) (hs : P s) : P (s.modInj c f) := K.bare hs rfl

/-! ### Marker channel -/

theorem modLink (K : Basic care P) {f : Link → Link} (hs : P s)
    (hf : (f s.link).outbound.length ≤ s.link.outbound.length) : P (s.modLink f) := K.link hs (by omega)

theorem linkDepart (K : Basic care P) (hs : P s) : P s.linkDepart :=
  ite_keeps_of (K.notify _) (K.modLink hs le_rfl)

theorem linkAligned (K : Basic care P) (l : LaneNo) (hs : P s) : P (s.linkAligned l) :=
  ite_keeps (fun _ => K.modLink hs le_rfl) fun _ => hs

theorem linkLeft (K : Basic care P) (l : LaneNo) (hs : P s) : P (s.linkLeft l) :=
  ite_keeps (fun _ => K.linkDepart hs) fun _ => hs

theorem joinOutbound (K : Basic care P) (r : PeerRec) (hs : P s) : P (s.joinOutbound r) :=
  ite_keeps (fun h => K.link hs fun _ => by simpa using h) fun _ => K.modLink hs le_rfl


theorem octetPlaced (K : Basic care P) (hs : P s) : P s.octetPlaced :=
  ite_keeps (fun _ => K.modLink hs (Link.length_advance _)) fun _ => hs

theorem ackOctet (K : Basic care P) (m : Marker) (hs : P s) : P (s.ackOctet m) :=
  ite_keeps (fun _ => K.modLink hs (Link.length_advance _)) fun _ => hs

end Basic

namespace Kept

theorem inboundRecord (K : Kept care P) (r : PeerRec) (hs : P s) : P (s.inboundRecord r) := by
  have h := K.calm hs
  refine ite_keeps (fun _ => ite_keeps (fun _ => ite_keeps (fun hq => K.queue _ h hq) fun _ => K.joinOutbound _ h)
    fun _ => K.joinOutbound _ h) fun _ => ite_keeps (fun _ => h) fun _ => K.notify _ h

theorem assemble (K : Kept care P) (o : Octet) (recordEnd : Bool) (hs : P s) : P (s.assemble o recordEnd) := by
  refine ite_keeps (fun _ => ite_keeps (fun _ => K.modLink hs le_rfl) fun _ => hs) fun _ => ?_
  have h : P (s.modLink fun k => { k with asm := [] }) := K.modLink hs le_rfl
  refine ite_keeps (fun _ => ite_keeps (fun _ => ite_keeps (fun _ => K.inboundRecord _ h) fun _ => K.notify _ h)
    fun _ => K.notify _ h) fun _ => ite_keeps (fun _ => K.notify _ ?_) fun _ => ?_
  · exact K.modLink hs le_rfl
  · exact K.modLink hs le_rfl

theorem takeOctet (K : Kept care P) (m : Marker) (hs : P s) : P (s.takeOctet m) := by
  refine ite_keeps (fun _ => ite_keeps (fun _ => K.assemble _ _ ?_) fun _ => hs) fun _ =>
    ite_keeps (fun _ => K.assemble _ _ hs) fun _ => hs
  exact K.modLink hs le_rfl

theorem takeChannelFields (K : Kept care P) (l : LaneNo) (m : Marker) (hs : P s) : P (s.takeChannelFields l m) :=
  ite_keeps (fun _ => K.takeOctet m (K.ackOctet m hs)) fun _ => hs

/-! ### Identity check and aligner -/

theorem setRxId (K : Kept care P) (l r : LaneNo) (hs : P s) : P (s.setRxId l r) := by
  refine K.writes hs { laneMap := fun m h => ?_ }
  simp only [State.setRxId, Eight.get_set]
  split
  · next e => subst e; simpa using h
  · exact h

theorem mismatch (K : Kept care P) (l r : LaneNo) (reason : IdReason) (q : FrameSeq) (hs : P s) :
    P (s.mismatch l r reason q) := by
  have h := (K.toMeasured l).lane (f := fun L => { L with idm := some ⟨reason, r⟩ }) hs (.of_eq rfl rfl rfl rfl rfl rfl rfl)
  exact ite_keeps (fun _ => h) fun _ => ite_keeps_of ((K.toMeasured l).offerEvent _ _ _) (K.notify _ h)

theorem identity (K : Kept care P) (l r : LaneNo) (q : FrameSeq) (hs : P s) : P (s.identity l r q) :=
  ite_keeps (fun _ => (K.toMeasured l).lane hs (.of_eq rfl rfl rfl rfl rfl rfl rfl)) fun _ =>
    ite_keeps (fun _ => K.mismatch l r _ q hs) fun _ => ite_keeps (fun _ => K.mismatch l r _ q hs) fun _ =>
      (K.toMeasured l).forceHunt _ _ _ ((K.toMeasured l).lane (K.setRxId l r hs) (.of_eq rfl rfl rfl rfl rfl rfl rfl))

theorem seekAligner (K : Kept care P) (l : LaneNo) (hs : P s) : P (s.seekAligner l) :=
  K.linkLeft l ((K.toMeasured l).nextFrameTags ((K.toMeasured l).lane hs (.of_eq rfl rfl rfl rfl rfl rfl rfl)))

theorem resetAligner (K : Kept care P) (l : LaneNo) (hs : P s) : P (s.resetAligner l) :=
  K.toGroupKept.groupLeft l (K.seekAligner l hs)

theorem reframeAligner (K : Kept care P) (l : LaneNo) (hs : P s) : P (s.reframeAligner l) :=
  ite_keeps (fun _ => K.resetAligner l hs) fun _ => K.seekAligner l hs

theorem resetAligners (K : Kept care P) (hs : P s) : P s.resetAligners :=
  K.toGroupKept.groupEvent _ _ (K.toGroupKept.groupEvent _ _ (State.forLanes_keeps (fun l => K.seekAligner l) hs))

theorem markerError (K : Kept care P) (l : LaneNo) (hs : P s) : P (s.markerError l) :=
  ite_keeps_of ((K.toMeasured l).report fun _ h => Counts.addMarkerError_sound h) ((K.toMeasured l).modAl _ hs)

theorem markerErrorEntry (K : Kept care P) (l : LaneNo) (q : FrameSeq) (hs : P s) : P (s.markerErrorEntry l q) :=
  ite_keeps_of ((K.toMeasured l).offerEvent _ _ _) hs

theorem frameBoundary (K : Kept care P) (hq : ¬care.requests) (l : LaneNo) (q : FrameSeq) (hs : P s) : P (s.frameBoundary l q) :=
  K.toGroupKept.groupBoundary l q ((K.toMeasured l).windowBoundary hq q hs)

theorem takeMarker (K : Kept care P) (hq : ¬care.requests) (l : LaneNo) (m : Marker) (hs : P s) : P (s.takeMarker l m) := by
  have h : P ((s.identity l m.id m.seq).fireFrameSeq l m.seq) :=
    ite_keeps_of ((K.toMeasured l).fireTrigger hq _ _ _) (K.identity l m.id m.seq hs)
  exact K.takeChannelFields l m ((K.toMeasured l).takePhase _ ((K.toMeasured l).modAl _ h))

theorem acceptMarker (K : Kept care P) (hq : ¬care.requests) (l : LaneNo) (m : Marker) (hs : P s) : P (s.acceptMarker l m) :=
  (K.toMeasured l).endStep _ (K.takeMarker hq l m (K.frameBoundary hq l _ hs))

theorem completeTrial (K : Kept care P) (hq : ¬care.requests) (l : LaneNo) (m : Marker) (hs : P s) : P (s.completeTrial l m) :=
  K.acceptMarker hq l m ((K.toMeasured l).noteAligned (K.linkAligned l ((K.toMeasured l).modAl _ hs)))

theorem goodAligned (K : Kept care P) (hq : ¬care.requests) (l : LaneNo) (m : Marker) (hs : P s) : P (s.goodAligned l m) :=
  K.acceptMarker hq l m (ite_keeps_of (fun h => K.markerErrorEntry l _ (K.markerError l h)) ((K.toMeasured l).modAl _ hs))

theorem markerLoss (K : Kept care P) (hq : ¬care.requests) (l : LaneNo) (q : FrameSeq) (hs : P s) : P (s.markerLoss l q) := by
  have h := (K.toMeasured l).modAl (fun a => { a with state := .seek, pos := 0, trial := 0, miss := 0 }) hs
  refine K.toGroupKept.groupLeft l (K.linkLeft l (ite_keeps (fun _ => h) fun _ => ?_))
  split
  · exact (K.toMeasured l).countLoss hq _ _ _ (K.markerErrorEntry l q ((K.toMeasured l).discardRun _ _ h))
  · exact (K.toMeasured l).enterHunt (K.markerErrorEntry l q h)
  · exact (K.toMeasured l).enterHunt (K.markerErrorEntry l q h)
  · exact K.markerErrorEntry l q h

theorem badAligned (K : Kept care P) (hq : ¬care.requests) (l : LaneNo) (hs : P s) : P (s.badAligned l) := by
  have h := K.markerError l hs
  refine ite_keeps (fun _ => ?_) fun _ => K.markerLoss hq l _ h
  exact (K.toMeasured l).endStep _ (K.frameBoundary hq l _ (K.markerErrorEntry l _ ((K.toMeasured l).modAl _ h)))

/-! ### A received block -/


theorem echo_bounded (t : Tx) (b : Block) (h : t.buf.length ≤ 32) : (t.echo b).buf.length ≤ 32 := by
  unfold Tx.echo
  split
  · split
    · simpa using by assumption
    · exact h
  · exact h

theorem placeRx (K : Kept care P) (l : LaneNo) (b : Block) (hs : P s) : P (s.modLane l (fun L => L.placeRx b)) := by
  refine K.modRx l hs ?_ ?_ ?_ ?_ ?_ fun h => ?_ <;> unfold Lane.placeRx <;> split
  any_goals rfl
  · simpa using by assumption
  · exact h

theorem stepRaw (K : Kept care P) (l : LaneNo) (hs : P s) : P (s.stepRaw l) :=
  ite_keeps (fun _ => ite_keeps (fun _ => (K.toMeasured l).lane hs (.of_eq rfl rfl rfl rfl rfl rfl rfl)) fun _ =>
    (K.toMeasured l).endStep _ hs) fun _ => hs

theorem payload (K : Kept care P) (hq : ¬care.requests) (l : LaneNo) (b : Block) (fp : Option (FrameSeq × Nat)) (hs : P s) :
    P (s.payload l b fp) := by
  unfold State.payload
  dsimp only
  refine ite_keeps_of' (K.stepRaw l) ((K.toMeasured l).checkerTake hq b fp (ite_keeps_of (K.placeRx l b) ?_))
  exact K.modTx l hs (echo_bounded _ b)

theorem alignBlock (K : Kept care P) (hq : ¬care.requests) (l : LaneNo) (b : Block) (hs : P s) : P (s.alignBlock l b) := by
  unfold State.alignBlock
  dsimp only
  split
  · exact ite_keeps (fun _ => (K.toMeasured l).modAl _ hs) fun _ => K.payload hq l b _ hs
  · exact ite_keeps (fun _ => K.payload hq l b _ ((K.toMeasured l).modAl _ hs)) fun _ =>
      ite_keeps (fun _ => ite_keeps (fun _ => (K.toMeasured l).modAl _ hs) fun _ => K.completeTrial hq l _ hs) fun _ =>
        K.payload hq l b _ ((K.toMeasured l).modAl _ hs)
  · exact ite_keeps (fun _ => K.payload hq l b _ ((K.toMeasured l).modAl _ hs)) fun _ =>
      ite_keeps (fun _ => K.goodAligned hq l _ hs) fun _ => K.badAligned hq l hs

theorem receive (K : Kept care P) (hq : ¬care.requests) (l : LaneNo) (b : Block) (hs : P s) : P (s.receive l b) :=
  ite_keeps (fun _ => K.alignBlock hq l b hs) fun _ => K.payload hq l b _ hs

end Kept

end Sys2Proof.Machine
end

section
/-! What holds through the transmit slot, the injection rows, the table writes and the rows' own effects. -/

namespace Sys2Proof.Machine

variable {care : Care} {P Q : State → Prop} {s : State}

/-! ### Pass buffers of a transmitter -/

theorem Tx.offer_bounded (t : Tx) (b : Block) (h : t.buf.length ≤ 32) : (t.offer b).buf.length ≤ 32 := by
  unfold Tx.offer
  split
  · next hr => simpa using hr.2.2
  · exact h

theorem Tx.load_buf (t : Tx) (d : PatDesc) : (t.load d).buf = t.buf := rfl

theorem Tx.boundary_bounded (t : Tx) (framed : Bool) (d : PatDesc) (h : t.buf.length ≤ 32) :
    (t.boundary framed d).buf.length ≤ 32 := by
  unfold Tx.boundary
  dsimp only
  split
  · unfold Tx.start
    dsimp only
    split <;> simp [Tx.load_buf]
  · split
    · simp [Tx.stop]
    · unfold Tx.takeMode
      split
      · exact h
      · dsimp only
        split
        · split <;> simp [Tx.load_buf]
        · exact h

theorem Tx.askStop_buf (t : Tx) : t.askStop.buf = t.buf := by
  unfold Tx.askStop
  split <;> rfl

/-! ### The transmit slot -/

namespace Kept

theorem frameStart (K : Kept care P) (hs : P s) : P s.frameStart :=
  State.forLanes_keeps (fun l hs => K.modTx l hs (Tx.boundary_bounded _ _ _)) (K.bare hs rfl)

theorem generate (K : Kept care P) (l : LaneNo) (hs : P s) : P (s.generate l).2 := by
  unfold State.generate
  dsimp only
  split
  · exact K.modTx l ((K.toMeasured l).readPattern _ _ hs) (f := fun t => { t with phase := nextPhase t.phase _ }) id
  · exact K.modTx l hs (f := fun t => { t with stages := _ }) id

theorem takePass (K : Kept care P) (l : LaneNo) (hs : P s) : P (s.takePass l).2 := by
  unfold State.takePass
  split
  · exact K.modTx l hs (f := fun t => { t with underrun := t.underrun.add 1 }) id
  · next b rest hb =>
    refine K.modTx l hs (f := fun t => { t with buf := rest }) fun h => ?_
    rw [hb, List.length_cons] at h
    exact Nat.le_of_succ_le h

theorem sourceBlock (K : Kept care P) (l : LaneNo) (hs : P s) : P (s.sourceBlock l).2 := by
  unfold State.sourceBlock
  split
  · exact ite_keeps (fun _ => K.octetPlaced hs) fun _ => hs
  · split
    · exact hs
    · split
      · exact K.generate l hs
      · exact K.takePass l hs

theorem arbitrateChan (K : Kept care P) (l : LaneNo) (markerSlot : Bool) (dues : Four (Option Injection)) {w : SlotWork}
    (c : ChanNo) (hs : P w.s) : P (Machine.arbitrateChan l markerSlot dues w c).s := by
  unfold Machine.arbitrateChan
  split
  · exact hs
  · split
    · exact K.inj c (fun ch => ch.setDeferred l none) hs
    · exact K.inj c (fun ch => ch.setDeferred l (some _)) hs
    · exact (K.toMeasured l).report (fun _ h => Counts.addInjected_sound _ h) (K.inj c _ hs)

theorem arbitrate (K : Kept care P) (l : LaneNo) (markerSlot : Bool) (dues : Four (Option Injection)) (b : Block)
    (hs : P s) : P (Machine.arbitrate s l markerSlot dues b).2 := by
  have h : ∀ (cs : List ChanNo) (w : SlotWork), P w.s → P (cs.foldl (Machine.arbitrateChan l markerSlot dues) w).s := by
    intro cs
    induction cs with
    | nil => exact fun _ hw => hw
    | cons c cs ih => exact fun w hw => ih _ (K.arbitrateChan l markerSlot dues c hw)
  exact h _ _ hs

theorem endChannel (K : Kept care P) (c : ChanNo) (reason : EndReason) (hs : P s) : P (s.endChannel c reason) := by
  have h := K.inj c InjChan.toIdle hs
  unfold State.endChannel
  dsimp only
  split
  · exact h
  · exact ite_keeps_of (K.notify _) h

theorem settleChan (K : Kept care P) (c : ChanNo) (hs : P s) : P (s.settleChan c) := by
  unfold State.settleChan
  dsimp only
  split
  · exact hs
  · exact ite_keeps (fun _ => hs) fun _ =>
      ite_keeps (fun _ => K.endChannel c _ (K.inj c _ hs)) fun _ => K.inj c _ (K.inj c _ hs)

theorem emitted (K : Kept care P) (out : Option (Eight Block)) (pos : Nat) (hs : P s) :
    P { s with slotOut := out, slotPos := pos } := K.bare hs rfl

theorem countSlot (K : Kept care P) (hs : P s) : P s.countSlot.2 := K.bare hs rfl

theorem sendSlot (K : Kept care P) (hs : P s) : P s.sendSlot := by
  have hslot : ∀ (dues : Four (Option Injection)) (ls : List LaneNo) (w : Eight Block × State), P w.2 →
      P (ls.foldl (State.laneSlot dues) w).2 := by
    intro dues ls
    induction ls with
    | nil => exact fun _ hw => hw
    | cons l ls ih => exact fun w hw => ih _ (K.arbitrate l _ dues _ (K.sourceBlock l hw))
  unfold State.sendSlot
  dsimp only
  have h1 := ite_keeps_of' (c := ¬s.slotPos = 0) (P := P) (a := s) (b := s.frameStart) K.frameStart hs
  rw [ite_not] at h1
  exact K.emitted _ _ (foldl_keeps (fun c => K.settleChan c) _ (hslot _ _ _ (K.countSlot h1)))

/-! ### Table writes -/

/-- A write of a table, and what it does besides. -/
theorem atIndex {ι : Type} {i : Option ι} {f : ι → Status × State} (hf : ∀ j, P (f j).2) (hs : P s) :
    P (Machine.atIndex s i f).2 := by
  unfold Machine.atIndex
  split
  · exact hs
  · exact hf _

theorem isSome_of_set {α : Type} {v : Eight (Option α)} {l m : LaneNo} {e : α} (h : (v.get m).isSome = true) :
    ((v.set l (some e)).get m).isSome = true := by
  rw [Eight.get_set]
  split
  · rfl
  · exact h

theorem rewrittenPat (K : Kept care P) (d l : LaneNo) (hs : P s) : P (State.rewrittenPat d l s) :=
  ite_keeps_of ((K.toMeasured l).forceHunt _ _ _) hs

theorem writePatDesc (K : Kept care P) (d : LaneNo) (a : PatDescArg) (hs : P s) : P (s.writePatDesc d a).2 := by
  unfold State.writePatDesc
  split
  · exact hs
  · split
    · exact hs
    · next e _ _ =>
      have h : P { s with patDesc := s.patDesc.set d (some e) } :=
        K.writes hs { patDesc := fun _ h => isSome_of_set h }
      dsimp only
      exact State.forLanes_keeps (fun l hs => K.rewrittenPat d l hs) h

theorem writePatMem (K : Kept care P) {i : Nat} (hi : i < 4096) (b : Block) (hs : P s) : P (s.writePatMem i b).2 := by
  unfold State.writePatMem
  split
  · exact hs
  · exact K.writes hs { patMem := fun h => patWrite_wf _ _ _ hi h }

theorem changeGroup (K : Kept care P) (l : LaneNo) (old new : Option GroupId) (hs : P s) :
    P (s.changeGroup l old new) := by
  unfold State.changeGroup
  refine ite_keeps (fun _ => hs) fun _ => ?_
  have h := K.toGroupKept.mem l
    (fun m => { m with contributing := false, lag := none, skew := false, greatestLag := 0 }) hs
  cases old with
  | none => cases new with
    | none => exact h
    | some g => exact K.toGroupKept.groupEvent _ _ h
  | some g => cases new with
    | none => exact K.toGroupKept.groupEvent _ _ h
    | some k => exact K.toGroupKept.groupEvent _ _ (K.toGroupKept.groupEvent _ _ h)

theorem writeLaneMap (K : Kept care P) (l : LaneNo) (a : LaneMapArg) (hs : P s) : P (s.writeLaneMap l a).2 := by
  unfold State.writeLaneMap
  split
  · exact hs
  · next e _ =>
    dsimp only
    split
    · exact hs
    · split
      · exact hs
      · have h : P { s with laneMap := s.laneMap.set l (some e) } :=
          K.writes hs { laneMap := fun _ h => isSome_of_set h }
        exact (K.toMeasured l).forceHunt _ _ _ ((K.toMeasured l).lane (K.changeGroup l _ _ h)
          (.of_eq rfl rfl rfl rfl rfl rfl rfl))

theorem rewrittenDesc (K : Kept care P) (hq : ¬care.requests) (l : LaneNo) (hs : P s) : P (s.rewrittenDesc l) :=
  ite_keeps (fun _ => hs) fun _ => ite_keeps (fun _ => K.remote l _ ((K.toMeasured l).stopChecker hq hs)) fun _ =>
    (K.toMeasured l).forceHunt _ _ _ hs

theorem writeLaneDesc (K : Kept care P) (l : LaneNo) (a : LaneDescArg) (hs : P s) : P (s.writeLaneDesc l a).2 := by
  unfold State.writeLaneDesc
  split
  · exact hs
  · next e _ =>
    dsimp only
    split
    · exact hs
    · have h0 : P { s with laneDesc := s.laneDesc.set l (some e) } :=
        K.writes hs { laneDesc := fun _ h => isSome_of_set h }
      have h1 := (K.toMeasured l).lane (f := fun L => { L with armed := e.trigger != .none }) h0
        (.of_eq rfl rfl rfl rfl rfl rfl rfl)
      exact K.arrival fun hq => ite_keeps_of ((K.toMeasured l).holdEndCheck hq)
        (K.rewrittenDesc hq l (ite_keeps_of (K.reframeAligner l) h1))

theorem writeSched (K : Kept care P) (i : Nat) (a : SchedArg) (hs : P s) : P (s.writeSched i a).2 := by
  unfold State.writeSched
  split
  · split
    · exact hs
    · split
      · exact hs
      · refine K.writes hs { sched := fun j hj h => ?_ }
        rw [Vector.getElem_set]
        split
        · rfl
        · exact h
  · exact hs

theorem writeConf (K : Kept care P) (i u : Nat) (hs : P s) : P (s.writeConf i u).2 := by
  unfold State.writeConf
  split
  · split
    · refine K.writes hs { conf := fun j hj h => ?_ }
      rw [Vector.getElem_set]
      split
      · rfl
      · exact h
    · exact hs
  · exact hs

theorem writeProfile (K : Kept care P) (i : Fin 4) (a : ProfileArg) (hs : P s) : P (s.writeProfile i a).2 := by
  unfold State.writeProfile
  split
  · exact hs
  · refine K.writes hs { profiles := fun j h => ?_ }
    rw [Four.get_set]
    split
    · rfl
    · exact h

theorem writeGroupDesc (K : Kept care P) (g : GroupId) (a : GroupDescArg) (hs : P s) : P (s.writeGroupDesc g a).2 := by
  unfold State.writeGroupDesc
  split
  · exact hs
  · split
    · exact hs
    · refine K.writes hs { groupDesc := fun j h => ?_ }
      rw [GPair.get_set]
      split
      · rfl
      · exact h

theorem writeChan (K : Kept care P) (a : ChanArg) (hs : P s) : P (s.writeChan a).2 := by
  unfold State.writeChan
  split
  · exact hs
  · dsimp only
    split
    · exact hs
    · exact K.chan _ _ hs

theorem writePermit (K : Kept care P) (cs : List Octet) (hs : P s) : P (s.writePermit cs).2 := by
  unfold State.writePermit
  split
  · exact hs
  · exact K.writes hs {}

theorem patIndex_lt {i j : Nat} (h : patIndex i = some j) : j < 4096 := by
  unfold patIndex at h
  split at h
  · cases h; assumption
  · cases h

theorem writePatMemAt (K : Kept care P) (i : Nat) (b : Block) (hs : P s) :
    P (Machine.atIndex s (patIndex i) (fun j => s.writePatMem j b)).2 := by
  unfold Machine.atIndex
  split
  · exact hs
  · next j hj => exact K.writePatMem (patIndex_lt hj) b hs

/-! ### LOAD_IMAGE -/

theorem loadEntries {α : Type} (table : Nat) {write : State → Nat → α → Status × State}
    (hw : ∀ {s} (i : Nat) (e : α), P s → P (write s i e).2) :
    ∀ (es : List α) (i : Nat) (w : Loading), P w.s → P (Loading.entries table write es i w).s := by
  intro es
  induction es with
  | nil => exact fun _ _ h => h
  | cons e es ih =>
    intro i w h
    refine ih _ _ ?_
    unfold Loading.entry
    split
    · exact hw i e h
    · exact h

theorem loadSect (K : Kept care P) (w : Loading) (x : ImageSection) (h : P w.s) : P (w.sect x).s := by
  cases x with
  | laneMap i es => exact loadEntries 0 (fun _ _ hs => atIndex (fun l => K.writeLaneMap l _ hs) hs) es i w h
  | laneDesc i es => exact loadEntries 1 (fun _ _ hs => atIndex (fun l => K.writeLaneDesc l _ hs) hs) es i w h
  | patDesc i es => exact loadEntries 2 (fun _ _ hs => atIndex (fun d => K.writePatDesc d _ hs) hs) es i w h
  | patMem i es => exact loadEntries 3 (fun j b hs => K.writePatMemAt j b hs) es i w h
  | sched i es => exact loadEntries 4 (fun j e hs => K.writeSched j e hs) es i w h
  | conf i es => exact loadEntries 5 (fun j u hs => K.writeConf j u hs) es i w h
  | profiles i es => exact loadEntries 6 (fun _ _ hs => atIndex (fun k => K.writeProfile k _ hs) hs) es i w h
  | groupDesc i es => exact loadEntries 7 (fun _ _ hs => atIndex (fun g => K.writeGroupDesc g _ hs) hs) es i w h
  | chan i es => exact loadEntries 8 (fun _ _ hs => atIndex (fun _ => K.writeChan _ hs) hs) es i w h
  | permit i es => exact loadEntries 9 (fun _ _ hs => atIndex (fun _ => K.writePermit _ hs) hs) es i w h
  | unknownTable t => exact h

theorem loadSects (K : Kept care P) (xs : List ImageSection) : ∀ (w : Loading), P w.s → P (xs.foldl Loading.sect w).s := by
  induction xs with
  | nil => exact fun _ h => h
  | cons x xs ih => exact fun w h => ih _ (K.loadSect w x h)

theorem unconfiguring (K : Kept care P) (hs : P s) : P s.unconfigure := by
  refine ite_keeps (fun _ => K.resetAligners ?_) fun _ => hs
  refine K.lanes (K.unconfigure hs) fun l => ?_
  rw [Eight.get_map]
  exact { remote := rfl, bounded := id, sound := fun _ => id }

theorem reply_s (w : Loading) : w.reply.s = w.s := by
  unfold Loading.reply
  split <;> rfl

theorem load (K : Kept care P) (target : Nat) (xs : List ImageSection) (hs : P s) : P (s.load target xs).s := by
  have h : P (xs.foldl Loading.sect ⟨s, none, false⟩).reply.s := by
    rw [reply_s]
    exact K.loadSects xs _ hs
  unfold State.load
  dsimp only
  split
  · exact h
  · split
    · split
      · next he => exact K.configure h he
      · exact K.unconfiguring h
    · exact K.unconfiguring h

/-! ### Receive commands and windows -/

theorem beginRx (K : Kept care P) (l : LaneNo) (hs : P s) : P (s.beginRx l) := by
  refine (K.toMeasured l).forgetAlarm ((K.toMeasured l).openWindow ((K.toMeasured l).clearRun ((K.toMeasured l).enterHunt ?_)))
  exact (K.toMeasured l).lane hs (.of_counts rfl rfl rfl rfl (fun _ h _ => h) (fun _ h _ => h) (fun _ _ => rfl))

theorem restartLane (K : Kept care P) (l : LaneNo) (hs : P s) : P (s.restartLane l) := by
  have h1 : P ((s.resetAligner l).restartChecker l) :=
    ite_keeps (fun _ => K.resetAligner l hs) fun _ =>
      (K.toMeasured l).modCk ((K.toMeasured l).forceHunt _ _ _ (K.resetAligner l hs)) rfl
  have h2 := (K.toMeasured l).clearRun (K.forget l ((K.toMeasured l).closeWindow .restart (fun h => absurd rfl h) h1))
  have h3 := K.captures h2 (List.length_filter_le (fun c : CapEntry => c.lane != l) _)
  exact ite_keeps (fun _ => (K.toMeasured l).forgetAlarm h3) fun _ =>
    (K.toMeasured l).openWindow ((K.toMeasured l).forgetAlarm h3)

theorem leaveHeld (K : Kept care P) (l : LaneNo) (h : HoldState) (hs : P s) : P (s.leaveHeld l h) := by
  have h1 := (K.toMeasured l).lane (f := fun L => { L with hold := h, stepCount := 0 }) hs
    (.of_eq rfl rfl rfl rfl rfl rfl rfl)
  exact ite_keeps (fun _ => h1) fun _ => K.arrival fun hq => (K.toMeasured l).holdEndCheck hq h1

theorem commandGroup (K : Kept care P) (g : GroupId) (hs : P s) : P (s.commandGroup g) :=
  K.toGroupKept.openGroup _ _ _ _ _ _ (K.group (f := fun gr => { gr with alarm := .clear })
    (K.toGroupKept.closeGroup g _ hs) (.of_win rfl fun _ h => h))

/-! ### Context records -/

theorem saveContext (K : Kept care P) (l : LaneNo) (hs : P s) : P (s.saveContext l).s :=
  ite_keeps_of' ((K.toMeasured l).openWindow) ((K.toMeasured l).forgetAlarm ((K.toMeasured l).clearRun
    ((K.toMeasured l).discardWindow ((K.toMeasured l).forceHunt _ _ _ hs))))

/-- A record that passes the checks of R149 has sound counts. -/
theorem sound_of_passed {c : ContextRecord} (h : c.failed = none) : c.run.sound = true ∧ c.win.sound = true := by
  unfold ContextRecord.failed at h
  split_ifs at h with h1 h2 h3 h4 h5 h6 h7
  simp only [Bool.or_eq_true, Bool.not_eq_true', not_or, Bool.not_eq_false] at h5
  simp only [Counts.sound, Bool.and_eq_true, decide_eq_true_eq]
  exact ⟨⟨h5.1, by omega⟩, h5.2, by omega⟩

theorem loadContext (K : Kept care P) (l : LaneNo) {c : ContextRecord} (hc : c.failed = none) (hs : P s) :
    P (s.loadContext l c) := by
  obtain ⟨hrun, hwin⟩ := sound_of_passed hc
  have h1 := (K.toMeasured l).forceHunt .restore false false hs
  have h2 : P ((s.forceHunt l .restore false false).loadRun l c) :=
    (K.toMeasured l).lane h1 (.of_counts rfl rfl rfl rfl (fun _ h _ => h) (fun _ _ _ => hrun) (fun _ h => h))
  have h3 : P (((s.forceHunt l .restore false false).loadRun l c).loadWindow l c) :=
    ite_keeps (fun _ => (K.toMeasured l).modWin h2 id) fun _ => (K.toMeasured l).modWin h2 fun _ => hwin
  exact (K.toMeasured l).lane h3 (.of_eq rfl rfl rfl rfl rfl rfl rfl)

theorem restoreContext (K : Kept care P) (l : LaneNo) (c : ContextRecord) (hs : P s) : P (s.restoreContext l c).s := by
  unfold State.restoreContext
  split
  · exact hs
  · split
    · exact hs
    · split
      · exact hs
      · next hc => exact K.loadContext l hc hs

theorem actContext (K : Kept care P) (r : CmdRec) (l : LaneNo) (hs : P s) : P (s.actContext r l).s := by
  unfold State.actContext
  split
  · exact K.saveContext l hs
  · split
    · exact hs
    · exact K.restoreContext l _ hs

/-! ### Client port, ticks and supervisor -/

theorem recordDone (K : Kept care P) (h : Block) (body : List Block) (hs : P s) : P (s.recordDone h body) := by
  have h1 : P { s with ingress := .idle } := K.bare hs rfl
  exact ite_keeps (fun _ => ite_keeps (fun hq => K.queue _ h1 hq) fun _ => K.notify _ h1) fun _ => K.notify _ h1

theorem control (K : Kept care P) (b : Block) (hs : P s) : P (s.control b) := by
  unfold State.control
  split
  · exact ite_keeps (fun _ => K.notify _ hs) fun _ => ite_keeps (fun _ => K.recordDone _ _ hs) fun _ => K.bare hs rfl
  · exact ite_keeps (fun _ => K.recordDone _ _ hs) fun _ => K.bare hs rfl

theorem sendRecord (K : Kept care P) (r : EgRec) (hs : P s) : P (s.sendRecord r) :=
  ite_keeps (fun _ => K.bare hs rfl) fun _ => K.bare (K.send hs) rfl

theorem sendLane (K : Kept care P) (hs : P s) : P s.sendLane := by
  unfold State.sendLane
  split
  · exact K.bare hs rfl
  · next l _ =>
    have h := K.modRx (f := fun L => { L with rxBuf := L.rxBuf.drop 1 }) l hs rfl rfl rfl rfl rfl fun h => by
      simp only [List.length_drop]
      omega
    exact K.bare h rfl

theorem supTick (K : Kept care P) (hq : ¬care.requests) (hs : P s) : P s.supTick := by
  refine ite_keeps (fun h => K.expire hq hs ?_) fun _ => ite_keeps (fun h => K.beat hs h) fun _ => hs
  simp only [State.supDue, Bool.and_eq_true] at h
  exact h.1

/-- A tick arrival after its counter. -/
theorem tickRest (K : Kept care P) (hq : ¬care.requests) (hs : P { s with tick := s.tick + 1 }) : P s.tickArrival :=
  K.supTick hq (K.bare (State.forLanes_keeps (fun l => (K.toMeasured l).windowTick hq) hs) rfl)

end Kept

end Sys2Proof.Machine
end

section
/-! What holds through every row of the part: the command processor and the rows, one lemma each. -/

namespace Sys2Proof.Machine

variable {care : Care} {P Q : State → Prop} {s : State}

/-- `P` is kept by the part's primitive changes, and so is `Q`, which stands in its place while a command that was taken is not
yet answered. -/
structure Serves (care : Care) (P Q : State → Prop) : Prop where
  idle : Kept care P
  busy : Kept care Q
  take : ∀ {s r}, P s → s.nextCommand = some r → Q s
  answer : ∀ {s} (r st body), Q s → P (s.answer r st body)
  wait : ∀ {s : State} {r}, Q s → s.nextCommand = some r → P { s with waiting := true }
  waited : ∀ {s : State}, P s → s.waiting = true → Q s

/-- A predicate that holds of the state an outcome gives, if it gives one. -/
def Gives (P : State → Prop) (o : Out) : Prop := ∀ t, o = .next t → P t

theorem Gives.next {P : State → Prop} {t : State} (h : P t) : Gives P (.next t) := by
  intro t' e
  cases e
  exact h

theorem Gives.ite {P : State → Prop} {c : Prop} [Decidable c] {a b : Out} (ha : c → Gives P a) (hb : ¬c → Gives P b) :
    Gives P (if c then a else b) := by
  split
  · next h => exact ha h
  · next h => exact hb h

theorem State.nextCommand_of_takeCommand {code : Octet} {r : CmdRec} (h : s.takeCommand code = some r) :
    s.nextCommand = some r := (Option.filter_eq_some_iff.mp h).1

theorem Reply.ok_keeps {t : State} (h : Q t) : Q (Reply.ok t).s := h

theorem State.judgeCommand_keeps {τ β : Type} {r : CmdRec} {free : Bool} {target : Nat → Option τ}
    {body : CmdRec → Option β} {own : CmdRec → τ → β → Reply} (hown : ∀ r t b, Q s → Q (own r t b).s) (hs : Q s) :
    Q (s.judgeCommand r free target body own).s := by
  unfold State.judgeCommand
  split
  · exact hs
  · split
    · exact hs
    · split
      · exact hs
      · split
        · exact hs
        · exact hown _ _ _ hs

namespace Serves

/-- A row of the command processor whose own rule keeps what stands while a command is served. -/
theorem command (V : Serves care P Q) {τ β : Type} {code : Octet} {free : Bool} {target : Nat → Option τ}
    {body : CmdRec → Option β} {own : CmdRec → τ → β → Reply} (hs : P s) (hown : ∀ r t b, Q s → Q (own r t b).s) :
    Gives P (.next (s.command code free target body own)) := by
  apply Gives.next
  unfold State.command
  split
  · exact hs
  · next r hr => exact V.answer _ _ _ (State.judgeCommand_keeps hown (V.take hs (State.nextCommand_of_takeCommand hr)))

theorem laneCommand (V : Serves care P Q) {code : Octet} {own : CmdRec → LaneNo → Reply} (hs : P s)
    (hown : ∀ r l, Q s → Q (own r l).s) : Gives P (.next (s.laneCommand code own)) :=
  V.command hs fun r l _ => hown r l

theorem groupCommand (V : Serves care P Q) {code : Octet} {own : GroupId → Reply} (hs : P s)
    (hown : ∀ g, Q s → Q (own g).s) : Gives P (.next (s.groupCommand code own)) :=
  V.command hs fun _ g _ => hown g

theorem chanCommand (V : Serves care P Q) {code : Octet} {own : ChanNo → Reply} (hs : P s)
    (hown : ∀ c, Q s → Q (own c).s) : Gives P (.next (s.chanCommand code own)) :=
  V.command hs fun _ c _ => hown c

theorem writeCommand (V : Serves care P Q) {α : Type} {table : Nat} {p : BodyReading (WriteArg α)}
    {write : Nat → α → Status × State} (hs : P s) (hw : ∀ i a, Q s → Q (write i a).2) :
    Gives P (.next (s.writeCommand table p write)) := by
  unfold State.writeCommand
  split
  · exact .next hs
  · rw [apply_ite Host.Outcome.next]
    exact .ite (fun _ => .next hs) fun _ => V.command hs fun _ _ a => hw a.index a.entry

theorem contextCommand (V : Serves care P Q) {code : Octet} (hs : P s) :
    Gives P (.next (s.contextCommand code)) := by
  unfold State.contextCommand
  split
  · exact .next hs
  · next r hr =>
    have hr := State.nextCommand_of_takeCommand hr
    rw [apply_ite Host.Outcome.next]
    refine .ite (fun _ => .next (V.wait (V.take hs hr) hr)) fun _ => V.command hs fun r l _ hq => ?_
    split
    · exact hq
    · exact V.busy.actContext r l hq

theorem endWait (V : Serves care P Q) (hs : P s) : P s.endWait := by
  refine ite_keeps (fun h => ?_) fun _ => hs
  have hq := V.waited hs h
  split
  · exact hs
  · split
    · exact hs
    · exact ite_keeps (fun _ => hs) fun _ => V.answer _ _ _ (V.busy.actContext _ _ hq)

/-! ### Pins and client port -/

theorem ingressBlock (V : Serves care P Q) (ty : BlockType) (tag : LaneNo) (b : Block) (hs : P s) :
    Gives P (execIngressBlock ty tag b s) := by
  refine .ite (fun _ => .next hs) fun _ => ?_
  cases ty with
  | data => exact .next (V.idle.modTx tag hs (Tx.offer_bounded _ b))
  | control => exact .next (V.idle.control b hs)

theorem egressReady (V : Serves care P Q) (hs : P s) : Gives P (execEgressReady s) := by
  refine .ite (fun _ => .next (V.idle.bare hs rfl)) fun _ => ?_
  split
  · exact .next (V.idle.sendRecord _ hs)
  · exact .next (V.idle.sendLane hs)

/-! ### Injection channels -/

theorem rateCountdownExpiry (V : Serves care P Q) (c : ChanNo) (hs : P s) : Gives P (execRateCountdownExpiry c s) := by
  unfold execRateCountdownExpiry
  dsimp only
  split
  · exact .next hs
  · exact .ite (fun _ => .next (V.idle.inj c _ hs)) fun _ => .next hs

theorem scheduleGapExpiry (V : Serves care P Q) (c : ChanNo) (hs : P s) : Gives P (execScheduleGapExpiry c s) := by
  unfold execScheduleGapExpiry
  dsimp only
  split
  · exact .next hs
  · exact .ite (fun _ => .next (V.idle.inj c _ hs)) fun _ => .next hs

theorem ticksActivationExpiry (V : Serves care P Q) (c : ChanNo) (hs : P s) :
    Gives P (execTicksActivationExpiry c s) := by
  unfold execTicksActivationExpiry
  dsimp only
  split
  · exact .ite (fun _ => .next (V.idle.inj c _ hs)) fun _ => .next hs
  · exact .next hs

theorem framesActivationExpiry (V : Serves care P Q) (c : ChanNo) (hs : P s) :
    Gives P (execFramesActivationExpiry c s) := by
  unfold execFramesActivationExpiry
  dsimp only
  split
  · exact .ite (fun _ => .next (V.idle.inj c _ hs)) fun _ => .next hs
  · exact .next hs

theorem armChannel (V : Serves care P Q) (p : BodyReading ArmArg) (hs : P s) : Gives P (execArmChannel p s) :=
  V.command hs fun _ c a hq => by
    unfold State.armChannel
    split
    · exact hq
    · split
      · exact hq
      · exact Reply.ok_keeps (V.busy.inj c _ hq)

theorem disarmChannel (V : Serves care P Q) (hs : P s) : Gives P (execDisarmChannel s) :=
  V.chanCommand hs fun c hq => ite_keeps (P := Q) (fun _ => hq) fun _ => V.busy.endChannel c _ hq

theorem runChannel (V : Serves care P Q) (hs : P s) : Gives P (execRunChannel s) :=
  V.chanCommand hs fun c hq => by
    split
    · exact hq
    · exact V.busy.inj c _ hq

theorem fire (V : Serves care P Q) (hs : P s) : Gives P (execFire s) :=
  V.command hs fun _ t _ hq => by
    cases t with
    | none => exact V.busy.bare hq rfl
    | some c =>
      dsimp only
      unfold State.fireOne
      dsimp only
      split
      · exact hq
      · split
        · exact V.busy.inj c _ hq
        · exact hq

/-! ### Receiving -/

theorem pseudoFrameBoundary (V : Serves care P Q) (l : LaneNo) (hs : P s) : Gives P (execPseudoFrameBoundary l s) :=
  .ite (fun _ => .next (V.idle.arrival fun hq => (V.idle.toMeasured l).pseudoBoundary hq hs)) fun _ => .next hs

theorem stepCountExpiry (V : Serves care P Q) (l : LaneNo) (hs : P s) : Gives P (execStepCountExpiry l s) :=
  .ite (fun _ => .next ((V.idle.toMeasured l).endStep _ hs)) fun _ => .next hs

theorem State.lengthRise_counts {l : LaneNo} {f : Win → Win} (h : s.lengthRise l = some f) (w : Win) :
    (f w).counts.sound = w.counts.sound := by
  unfold State.lengthRise at h
  split at h
  · split at h
    · cases h
      split <;> rfl
    · cases h
  · split at h
    · cases h
      rfl
    · cases h
  · cases h

theorem laneWindowLengthClose (V : Serves care P Q) (l : LaneNo) (hs : P s) :
    Gives P (execLaneWindowLengthClose l s) := by
  refine .ite (fun _ => ?_) fun _ => .next hs
  split
  · next f hf =>
    have h := (V.idle.toMeasured l).modWin (l := l) (f := f) hs fun h => (State.lengthRise_counts hf _).trans h
    exact .next (V.idle.arrival fun hq => (V.idle.toMeasured l).closeWindow _ (fun _ => hq) h)
  · exact .next hs

theorem startRx (V : Serves care P Q) (hs : P s) : Gives P (execStartRx s) :=
  V.laneCommand hs fun r l hq => by
    unfold State.startRx
    split
    · exact hq
    · split
      · exact hq
      · split
        · exact hq
        · exact Reply.ok_keeps (V.busy.remote l _ (V.busy.beginRx l hq))

theorem stopRx (V : Serves care P Q) (hs : P s) : Gives P (execStopRx s) :=
  V.laneCommand hs fun _ l hq => by
    have h := V.busy.arrival fun h => (V.busy.toMeasured l).stopChecker h hq
    exact Reply.ok_keeps (V.busy.remote l (fun a => { a with rxStarted := false }) h)

theorem resync (V : Serves care P Q) (hs : P s) : Gives P (execResync s) :=
  V.laneCommand hs fun _ l hq => by
    refine Reply.ok_keeps ?_
    unfold State.resync
    split
    · exact hq
    · exact hq
    · exact (V.busy.toMeasured l).forceHunt _ _ _ hq

/-! ### Windows and jobs -/

theorem openWindow (V : Serves care P Q) (hs : P s) : Gives P (execOpenWindow s) :=
  V.laneCommand hs fun _ l hq => by
    split
    · exact hq
    · exact V.busy.arrival fun h => (V.busy.toMeasured l).openWindow ((V.busy.toMeasured l).closeWindow _ (fun _ => h) hq)

theorem closeWindow (V : Serves care P Q) (hs : P s) : Gives P (execCloseWindow s) :=
  V.laneCommand hs fun _ l hq => V.busy.arrival fun h => (V.busy.toMeasured l).closeWindow _ (fun _ => h) hq

theorem closeGroupWindow (V : Serves care P Q) (hs : P s) : Gives P (execCloseGroupWindow s) :=
  V.groupCommand hs fun g hq => Reply.ok_keeps (V.busy.toGroupKept.closeGroup g _ hq)

theorem ratioJobComplete (V : Serves care P Q) (hs : P s) : Gives P (execRatioJobComplete s) := by
  unfold execRatioJobComplete
  split
  · exact .next hs
  · exact .ite (fun _ => .next (V.endWait (V.idle.complete hs))) fun _ => .next hs

/-! ### Transmitters and tables -/

theorem startTx (V : Serves care P Q) (hs : P s) : Gives P (execStartTx s) :=
  V.laneCommand hs fun r l hq => by
    unfold State.startTx
    split
    · exact hq
    · exact Reply.ok_keeps (V.busy.remote l _ (V.busy.modTx (f := fun t => { t with pendStart := true }) l hq id))

theorem stopTx (V : Serves care P Q) (hs : P s) : Gives P (execStopTx s) :=
  V.laneCommand hs fun _ l hq => Reply.ok_keeps
    (V.busy.remote l _ (V.busy.modTx (f := Tx.askStop) l hq fun h => (congrArg List.length (Tx.askStop_buf _)).le.trans h))

theorem setTxMode (V : Serves care P Q) (p : BodyReading (Option TxMode)) (hs : P s) : Gives P (execSetTxMode p s) :=
  V.command hs fun r l m hq => by
    cases m with
    | none => exact hq
    | some m => exact Reply.ok_keeps (V.busy.remote l _ (V.busy.modTx (f := Tx.askMode m) l hq id))

theorem loadImage (V : Serves care P Q) (p : BodyReading (List ImageSection)) (hs : P s) : Gives P (execLoadImage p s) :=
  V.command hs fun _ t body hq => by
    split
    · exact hq
    · cases body with
      | wrongLength => exact hq
      | params xs =>
        dsimp only
        split
        · exact V.busy.load t xs hq
        · exact hq

theorem readEntry (V : Serves care P Q) (p : BodyReading Nat) (hs : P s) : Gives P (execReadEntry p s) :=
  V.command hs fun _ t i hq => by
    split <;> exact hq

theorem clearMemoryFault (V : Serves care P Q) (hs : P s) : Gives P (execClearMemoryFault s) :=
  V.command hs fun _ t _ hq => by
    cases t with
    | none => exact V.busy.bare hq rfl
    | some b => exact V.busy.bare hq rfl

/-! ### Capture, triggers, hold -/

theorem readCapture (V : Serves care P Q) (p : BodyReading Nat) (hs : P s) : Gives P (execReadCapture p s) :=
  V.command hs fun _ _ k hq =>
    V.busy.bare (V.busy.captures hq (c := s.capture.drop (readCount k)) (by rw [List.length_drop]; omega)) rfl

theorem clearCapture (V : Serves care P Q) (hs : P s) : Gives P (execClearCapture s) :=
  V.command hs fun _ _ _ hq => V.busy.bare (V.busy.captures hq (c := []) (Nat.zero_le _)) rfl

theorem armTrigger (V : Serves care P Q) (p : BodyReading (Option ArmOp)) (hs : P s) : Gives P (execArmTrigger p s) :=
  V.command hs fun _ l op hq => by
    unfold State.armTrigger
    split
    · exact hq
    · exact Reply.ok_keeps (V.busy.modLane l hq (.of_eq rfl rfl rfl rfl rfl rfl rfl))
    · exact Reply.ok_keeps (V.busy.modLane l hq (.of_eq rfl rfl rfl rfl rfl rfl rfl))

theorem resumeLane (V : Serves care P Q) (hs : P s) : Gives P (execResumeLane s) :=
  V.laneCommand hs fun _ l hq => ite_keeps (P := Q) (fun _ => hq) fun _ => V.busy.leaveHeld l _ hq

theorem stepFrame (V : Serves care P Q) (hs : P s) : Gives P (execStepFrame s) :=
  V.laneCommand hs fun _ l hq => by
    unfold State.stepFrame
    split
    · exact hq
    · exact hq
    · exact V.busy.leaveHeld l _ hq

/-! ### Marker channel and supervisor -/

theorem sendPeer (V : Serves care P Q) (p : BodyReading PeerArg) (hs : P s) : Gives P (execSendPeer p s) :=
  V.command hs fun _ _ a hq => by
    unfold State.sendPeer
    split
    · exact hq
    · split
      · exact hq
      · split
        · exact hq
        · exact V.busy.joinOutbound _ hq

theorem setSupervisor (V : Serves care P Q) (p : BodyReading SupervisorArg) (hs : P s) :
    Gives P (execSetSupervisor p s) :=
  V.command hs fun _ _ a hq => by
    unfold State.setSupervisor
    split
    · exact hq
    · split
      · exact hq
      · exact V.busy.supervise _ _ hq

theorem supervisorExpiry (V : Serves care P Q) (hs : P s) : Gives P (execSupervisorExpiry s) := by
  refine .ite (fun h => .next (V.idle.arrival fun hq => V.idle.expire hq hs ?_)) fun _ => .next hs
  simp only [State.supDue, Bool.and_eq_true] at h
  exact h.1

theorem status (V : Serves care P Q) (hs : P s) : Gives P (execStatus s) :=
  V.command hs fun _ _ _ hq => V.busy.bare (V.busy.link (k := { s.link with peerLost := false }) hq id) rfl

theorem unknownCommand (V : Serves care P Q) (hs : P s) : Gives P (execUnknownCommand s) := by
  unfold execUnknownCommand
  split
  · exact .next hs
  · next r hr => exact .ite (fun _ => .next hs) fun _ => .next (V.answer _ _ _ (V.take hs hr))

/-! ### All rows -/

/-- Every row but a tick arrival and a hard reset. -/
theorem exec_keeps (V : Serves care P Q) (c : Instr) (hc : c ≠ .tickArrival) (hr : c ≠ .hardReset) (hs : P s) :
    Gives P (exec c s) := by
  cases c with
  | hardReset => exact absurd rfl hr
  | tickArrival => exact absurd rfl hc
  | resetRelease => exact .next (V.idle.bare hs rfl)
  | quietAssertion => exact .next (V.idle.bare hs rfl)
  | quietRelease => exact .next (V.idle.bare hs rfl)
  | injectArrival => exact .next (V.idle.bare hs rfl)
  | egressReady => exact V.egressReady hs
  | ingressBlock ty tag b => exact V.ingressBlock ty tag b hs
  | transmitSlot => exact .ite (fun _ => .next (V.idle.bare hs rfl)) fun _ => .next (V.idle.sendSlot hs)
  | rateCountdownExpiry c => exact V.rateCountdownExpiry c hs
  | scheduleGapExpiry c => exact V.scheduleGapExpiry c hs
  | ticksActivationExpiry c => exact V.ticksActivationExpiry c hs
  | framesActivationExpiry c => exact V.framesActivationExpiry c hs
  | receiveBlock l b => exact .next (V.idle.arrival fun hq => V.idle.receive hq l b hs)
  | pseudoFrameBoundary l => exact V.pseudoFrameBoundary l hs
  | stepCountExpiry l => exact V.stepCountExpiry l hs
  | laneWindowLengthClose l => exact V.laneWindowLengthClose l hs
  | ratioJobComplete => exact V.ratioJobComplete hs
  | supervisorExpiry => exact V.supervisorExpiry hs
  | status => exact V.status hs
  | deviceReset => exact V.command hs fun _ _ _ hq => V.busy.softReset hq
  | loadImage p => exact V.loadImage p hs
  | dumpTables p => exact V.command hs fun _ _ _ hq => hq
  | readEntry p => exact V.readEntry p hs
  | writeLaneMapEntry p => exact V.writeCommand hs fun _ _ hq => Kept.atIndex (fun l => V.busy.writeLaneMap l _ hq) hq
  | writeLaneDescriptor p => exact V.writeCommand hs fun _ _ hq => Kept.atIndex (fun l => V.busy.writeLaneDesc l _ hq) hq
  | writePatternDescriptor p => exact V.writeCommand hs fun _ _ hq => Kept.atIndex (fun d => V.busy.writePatDesc d _ hq) hq
  | writePatternMemory p => exact V.writeCommand hs fun i a hq => V.busy.writePatMemAt i a hq
  | writeScheduleEntry p => exact V.writeCommand hs fun i a hq => V.busy.writeSched i a hq
  | writeConfidenceEntry p => exact V.writeCommand hs fun i a hq => V.busy.writeConf i a hq
  | writeAlarmProfile p => exact V.writeCommand hs fun _ _ hq => Kept.atIndex (fun j => V.busy.writeProfile j _ hq) hq
  | writeGroupDescriptor p => exact V.writeCommand hs fun _ _ hq => Kept.atIndex (fun g => V.busy.writeGroupDesc g _ hq) hq
  | writeChannelSettings p => exact V.writeCommand hs fun _ _ hq => Kept.atIndex (fun _ => V.busy.writeChan _ hq) hq
  | writePermitSet p => exact V.writeCommand hs fun _ _ hq => Kept.atIndex (fun _ => V.busy.writePermit _ hq) hq
  | clearMemoryFault => exact V.clearMemoryFault hs
  | startTx => exact V.startTx hs
  | stopTx => exact V.stopTx hs
  | setTxMode p => exact V.setTxMode p hs
  | startRx => exact V.startRx hs
  | stopRx => exact V.stopRx hs
  | resync => exact V.resync hs
  | restartLane => exact V.laneCommand hs fun _ l hq => V.busy.restartLane l hq
  | readLane => exact V.laneCommand hs fun _ _ hq => hq
  | openWindow => exact V.openWindow hs
  | closeWindow => exact V.closeWindow hs
  | readHistory p => exact V.command hs fun _ _ _ hq => hq
  | readRun => exact V.laneCommand hs fun _ _ hq => hq
  | clearRun => exact V.laneCommand hs fun _ l hq => (V.busy.toMeasured l).clearRun hq
  | openGroupWindow => exact V.groupCommand hs fun g hq => V.busy.commandGroup g hq
  | closeGroupWindow => exact V.closeGroupWindow hs
  | readGroup => exact V.groupCommand hs fun _ hq => hq
  | armChannel p => exact V.armChannel p hs
  | disarmChannel => exact V.disarmChannel hs
  | suspendChannel => exact V.chanCommand hs fun c hq => V.busy.inj c _ hq
  | runChannel => exact V.runChannel hs
  | fire => exact V.fire hs
  | quietAll => exact V.command hs fun _ _ _ hq => V.busy.bare hq rfl
  | readCapture p => exact V.readCapture p hs
  | clearCapture => exact V.clearCapture hs
  | armTrigger p => exact V.armTrigger p hs
  | holdLane => exact V.laneCommand hs fun _ l hq => (V.busy.toMeasured l).requestHold hq
  | resumeLane => exact V.resumeLane hs
  | stepFrame => exact V.stepFrame hs
  | saveContext => exact V.contextCommand hs
  | snapshotContext => exact V.contextCommand hs
  | restoreContext => exact V.contextCommand hs
  | sendPeer p => exact V.sendPeer p hs
  | setSupervisor p => exact V.setSupervisor p hs
  | unknownCommand => exact V.unknownCommand hs

/-- A step keeps what every row keeps, what a hard reset gives and what the tick counter does not matter to. -/
theorem step_keeps (V : Serves care P Q) {t : State} (hs : P s) (hstep : step s = .next t)
    (htick : ∀ {s : State}, P s → P { s with tick := s.tick + 1 }) (hreset : P State.reset) : P t := by
  unfold step at hstep
  split at hstep
  · cases hstep
    exact hs
  · next c rest _ =>
    have h : P { s with pending := rest } := V.idle.bare hs rfl
    by_cases hc : c = .tickArrival
    · subst hc
      cases hstep
      exact V.idle.arrival fun hq => V.idle.tickRest hq (htick h)
    · by_cases hr : c = .hardReset
      · subst hr
        cases hstep
        exact V.idle.bare hreset rfl
      · exact V.exec_keeps c hc hr h t hstep

end Serves

end Sys2Proof.Machine
end

section
/-! Predicates that do not speak of the supervisor and its remote actions, and the invariants of pattern memory, of the tables
and of the ratio jobs. -/

namespace Sys2Proof.Machine

variable {care : Care} {P Q : State → Prop} {s : State}

/-- The predicate `P` is kept by the primitive changes of the part, whatever the supervisor and the remote action set hold. -/
structure Loose (care : Care) (P : State → Prop) : Prop extends Basic care P where
  captures : ∀ {s : State} {c : List CapEntry}, P s → c.length ≤ s.capture.length → P { s with capture := c }
  forget : ∀ {s} (l), P s → P ((s.modHistory (.lane l) (fun _ => [])).dropLaneJobs l)
  complete : ∀ {s}, P s → P s.completeJob
  queue : ∀ {s : State} (r), P s → s.cmdQ.length < 8 → P { s with cmdQ := s.cmdQ ++ [r] }
  send : ∀ {s : State}, P s → P { s with egress := s.egress.drop 1 }
  writes : ∀ {s t}, P s → s.Writes t → P t
  settings : ∀ {s : State} {c : Option ChanSettings}, P s → (s.chan.isSome = true → c.isSome = true) →
    P { s with chan := c }
  sup : ∀ {s : State} {v : Supervisor}, P s → P { s with sup := v }
  acts : ∀ {s : State} (l) {f : Lane → RemoteActs}, P s → P (s.modLane l (fun L => { L with remote := f L }))
  restart : ∀ {s : State} {k : Four InjChan}, P s →
    P { s with
      lanes := s.lanes.map (Lane.softReset s.tick), groups := ⟨Group.reset, Group.reset⟩, inj := k,
      jobs := markServed s.jobs, capture := [] }
  configure : ∀ {s : State}, P s → s.firstEmpty = none → P { s with configured := true }
  unconfigure : ∀ {s : State}, P s → P { s with configured := false }

namespace Loose

theorem settleSup (K : Loose care P) (hs : P s) : P s.settleSup := ite_keeps (fun _ => hs) fun _ => K.sup hs

theorem periodChanged (K : Loose care P) (old : Nat) (hs : P s) : P (s.periodChanged old) :=
  ite_keeps (fun _ => hs) fun _ => K.settleSup (K.sup hs)

theorem linkDepart (K : Loose care P) (hs : P s) : P s.linkDepart :=
  ite_keeps_of (K.notify _) (K.modLink hs le_rfl)

theorem rejudgeLink (K : Loose care P) (moved : Bool) (hs : P s) : P (s.rejudgeLink moved) := by
  have h := ite_keeps_of (c := (s.link.up && (moved || !s.remoteEnable)) = true) K.linkDepart hs
  unfold State.rejudgeLink
  dsimp only
  split
  · exact h
  · exact ite_keeps (fun _ => K.modLink h le_rfl) fun _ => h

theorem releaseLane (K : Loose care P) (hq : ¬care.requests) (l : LaneNo) (hs : P s) : P (State.releaseLane l s) := by
  unfold State.releaseLane
  dsimp only
  refine K.acts l (ite_keeps_of ((K.toMeasured l).stopChecker hq) (ite_keeps_of ?_ ?_))
  · exact fun h => K.modTx l h fun h => (congrArg List.length (Tx.askStop_buf _)).le.trans h
  · split
    · exact hs
    · exact K.modTx (f := Tx.askMode _) l hs id

theorem supTakeAction (K : Loose care P) (hq : ¬care.requests) (hs : P s) : P s.supTakeAction := by
  have h : ∀ a, P (s.supAct a) := by
    intro a
    cases a with
    | none => exact hs
    | release => exact State.forLanes_keeps (f := State.releaseLane) (fun l h => K.releaseLane hq l h) hs
    | hold =>
      exact State.forLanes_keeps (f := State.holdRemote) (fun l h => ite_keeps_of ((K.toMeasured l).requestHold) h) hs
  refine K.settleSup (K.notify _ (K.sup (K.settings (h s.supAction) fun h => ?_)))
  rwa [Option.isSome_map]

theorem supExpire (K : Loose care P) (hq : ¬care.requests) (hs : P s) : P s.supExpire := by
  have h : P { s with sup := { s.sup with ticks := 0 } } := K.sup hs
  exact ite_keeps (fun _ => K.sup h) fun _ =>
    ite_keeps (fun _ => K.joinOutbound _ (K.notify _ (K.sup h))) fun _ => K.supTakeAction hq h

theorem softReset (K : Loose care P) (hs : P s) : P s.softReset := by
  have h := K.sup (v := { Supervisor.reset with last := s.sup.last })
    (K.link (k := Link.reset) (K.restart (k := s.inj.map InjChan.softReset) hs) fun _ => Nat.zero_le _)
  exact K.bare (K.settings (c := s.chan.map fun c => { c with action := .none }) h
    fun hc => (Option.isSome_map ..).trans hc) rfl

theorem toKept (K : Loose care P) : Kept care P where
  toBasic := K.toBasic
  captures := K.captures
  forget := K.forget
  complete := K.complete
  queue := K.queue
  send := K.send
  writes := K.writes
  chan _ moved hs := K.periodChanged _ (K.rejudgeLink moved (K.settings hs fun _ => rfl))
  supervise _ _ hs := K.periodChanged _ (K.settings hs fun h => (Option.isSome_map ..).trans h)
  calm := K.sup
  beat hs _ := K.sup hs
  expire hq hs _ := K.supExpire hq hs
  remote l _ hs := K.settleSup (K.acts l hs)
  softReset := K.softReset
  configure := K.configure
  unconfigure := K.unconfigure

end Loose

/-- A predicate of which the command queue, the egress queue, the outbound queue and the wait say nothing serves commands as
it stands between them. -/
theorem Kept.serves (K : Kept care P)
    (hq : ∀ {s : State} (q e o w), P s → P { s with cmdQ := q, egress := e, waiting := w, link := o }) :
    Serves care P P where
  idle := K
  busy := K
  take h _ := h
  answer {s} r st body h := by
    have h := hq (s.cmdQ.drop 1) s.egress s.link false h
    unfold State.answer
    dsimp only
    split
    · exact hq (s := { s with cmdQ := s.cmdQ.drop 1, waiting := false }) _ _ _ _ h
    · exact K.joinOutbound _ h
  wait h _ := hq _ _ _ _ h
  waited h _ := h

/-! ### Predicates of the tables and of the tick counter -/

/-- The part state, the tick counter and the tables, the channel settings as loaded or not. -/
def State.stored (s : State) : State :=
  { State.reset with
    configured := s.configured, tick := s.tick, laneMap := s.laneMap, laneDesc := s.laneDesc, patDesc := s.patDesc,
    patMem := s.patMem, sched := s.sched, conf := s.conf, profiles := s.profiles, groupDesc := s.groupDesc,
    chan := s.chan.map fun _ => ⟨0, .handshake, false, 0, .none⟩ }

theorem State.stored_of_fixed {t : State} (h : t.fixed = s.fixed) : t.stored = s.stored := by
  have h' : ∀ {α : Type} (f : Fixed → α), f t.fixed = f s.fixed := fun f => congrArg f h
  have hconf : t.configured = s.configured := h' Fixed.configured
  have htick : t.tick = s.tick := h' Fixed.tick
  have hmap : t.laneMap = s.laneMap := h' Fixed.laneMap
  have hdesc : t.laneDesc = s.laneDesc := h' Fixed.laneDesc
  have hpat : t.patDesc = s.patDesc := h' Fixed.patDesc
  have hmem : t.patMem = s.patMem := h' Fixed.patMem
  have hsched : t.sched = s.sched := h' Fixed.sched
  have htab : t.conf = s.conf := h' Fixed.conf
  have hprof : t.profiles = s.profiles := h' Fixed.profiles
  have hgroup : t.groupDesc = s.groupDesc := h' Fixed.groupDesc
  have hchan : t.chan = s.chan := h' Fixed.chan
  unfold State.stored
  rw [hconf, htick, hmap, hdesc, hpat, hmem, hsched, htab, hprof, hgroup, hchan]

/-- A predicate of the part state, the tick counter and the tables. -/
theorem Loose.of_stored (hP : ∀ {s t : State}, P s → t.stored = s.stored → P t)
    (writes : ∀ {s t : State}, P s → s.Writes t → P t)
    (settings : ∀ {s : State} {c : Option ChanSettings}, P s → (s.chan.isSome = true → c.isSome = true) →
      P { s with chan := c })
    (configure : ∀ {s : State}, P s → s.firstEmpty = none → P { s with configured := true })
    (unconfigure : ∀ {s : State}, P s → P { s with configured := false }) : Loose ⟨False, False⟩ P where
  aware h := h.elim
  bare h e := hP h (congrArg State.stored e :)
  lanes h _ := hP h rfl
  group h _ := hP h rfl
  notify n h := hP h (State.stored_of_fixed (by simp))
  capture c h := hP h (State.stored_of_fixed (by simp))
  append h _ := hP h (State.stored_of_fixed (by simp))
  post src n q e b h := hP h (State.stored_of_fixed (by simp))
  link h _ := hP h rfl
  captures h _ := hP h rfl
  forget l h := hP h (State.stored_of_fixed (by simp))
  complete h := hP h (State.stored_of_fixed (by simp))
  queue r h _ := hP h rfl
  send h := hP h rfl
  writes := writes
  settings := settings
  sup h := hP h rfl
  acts l _ h := hP h rfl
  restart h := hP h rfl
  configure := configure
  unconfigure := unconfigure

theorem Serves.of_stored (hP : ∀ {s t : State}, P s → t.stored = s.stored → P t)
    (writes : ∀ {s t : State}, P s → s.Writes t → P t)
    (settings : ∀ {s : State} {c : Option ChanSettings}, P s → (s.chan.isSome = true → c.isSome = true) →
      P { s with chan := c })
    (configure : ∀ {s : State}, P s → s.firstEmpty = none → P { s with configured := true })
    (unconfigure : ∀ {s : State}, P s → P { s with configured := false }) : Serves ⟨False, False⟩ P P :=
  (Loose.of_stored hP writes settings configure unconfigure).toKept.serves fun _ _ _ _ h => hP h rfl

/-! ### Pattern memory -/

theorem State.wf_of_stored {t : State} (hs : PatMem.wf s.patMem = true) (h : t.stored = s.stored) :
    PatMem.wf t.patMem = true := by
  have h' : t.patMem = s.patMem := (congrArg State.patMem h :)
  rwa [h']

/-- Settles O54: every row keeps the canonical form, because a write alone changes pattern memory. -/
theorem patternMemoryCanonical : Obligations.PatternMemoryCanonical := by
  intro s t hs hstep
  have V : Serves ⟨False, False⟩ (fun s => PatMem.wf s.patMem = true) (fun s => PatMem.wf s.patMem = true) :=
    .of_stored State.wf_of_stored (fun h w => w.patMem h) (fun h _ => h) (fun h _ => h) fun h => h
  exact V.step_keeps hs hstep (fun h => h) rfl

/-! ### Tables -/

theorem firstFalse_eq_none {f : Nat → Bool} {n : Nat} : firstFalse f n = none ↔ ∀ i < n, f i = true := by
  simp [firstFalse]

/-- Every entry of the tables that a CONFIGURED part needs is loaded. -/
structure State.Full (s : State) : Prop where
  laneMap : ∀ l, (s.laneMap.get l).isSome = true
  laneDesc : ∀ l, (s.laneDesc.get l).isSome = true
  patDesc : ∀ l, (s.patDesc.get l).isSome = true
  sched : ∀ (i : Nat) (h : i < 64), (s.sched[i]'h).isSome = true
  conf : ∀ (i : Nat) (h : i < 32), (s.conf[i]'h).isSome = true
  profiles : ∀ i, (s.profiles.get i).isSome = true
  groupDesc : ∀ g, (s.groupDesc.get g).isSome = true
  chan : s.chan.isSome = true

/-- A view of an entry that is not the empty view. -/
def EntryView.shown : EntryView → Bool
  | .empty => false
  | _ => true

theorem viewOf_shown {α : Type} {f : α → EntryView} (hf : ∀ a, (f a).shown = true) (o : Option α) :
    (viewOf f o).shown = o.isSome := by
  cases o with
  | none => rfl
  | some a => exact hf a

theorem State.loaded_eq (t i : Nat) : s.loaded t i = (s.entryView t i).shown := by
  unfold State.loaded EntryView.shown
  cases s.entryView t i <;> rfl

theorem State.firstEmpty_eq_none : s.firstEmpty = none ↔ s.Full := by
  have h0 : ∀ l : LaneNo, s.loaded 0 l.val = (s.laneMap.get l).isSome := fun l => by
    rw [State.loaded_eq, State.entryView, viewOf_shown fun _ => rfl, laneOf_val, Option.bind_some]
  have h1 : ∀ l : LaneNo, s.loaded 1 l.val = (s.laneDesc.get l).isSome := fun l => by
    rw [State.loaded_eq, State.entryView, viewOf_shown fun _ => rfl, laneOf_val, Option.bind_some]
  have h2 : ∀ l : LaneNo, s.loaded 2 l.val = (s.patDesc.get l).isSome := fun l => by
    rw [State.loaded_eq, State.entryView, viewOf_shown fun _ => rfl, laneOf_val, Option.bind_some]
  have h4 : ∀ (i : Nat) (h : i < 64), s.loaded 4 i = (s.sched[i]'h).isSome := fun i h => by
    rw [State.loaded_eq, State.entryView, dif_pos h, viewOf_shown fun _ => rfl]
  have h5 : ∀ (i : Nat) (h : i < 32), s.loaded 5 i = (s.conf[i]'h).isSome := fun i h => by
    rw [State.loaded_eq, State.entryView, dif_pos h, viewOf_shown fun _ => rfl]
  have h6 : ∀ i : Fin 4, s.loaded 6 i.val = (s.profiles.get i).isSome := fun i => by
    rw [State.loaded_eq, State.entryView, viewOf_shown fun _ => rfl, fourOf_val, Option.bind_some]
  have h7a : s.loaded 7 0 = (s.groupDesc.get .a).isSome := by
    rw [State.loaded_eq, State.entryView, viewOf_shown fun _ => rfl]
    rfl
  have h7b : s.loaded 7 1 = (s.groupDesc.get .b).isSome := by
    rw [State.loaded_eq, State.entryView, viewOf_shown fun _ => rfl]
    rfl
  have h8 : s.loaded 8 0 = s.chan.isSome := by
    rw [State.loaded_eq, State.entryView, viewOf_shown fun _ => rfl]
  unfold State.firstEmpty
  rw [List.findSome?_eq_none_iff]
  simp only [Option.map_eq_none_iff, firstFalse_eq_none, List.forall_mem_cons, tableSize]
  constructor
  · rintro ⟨e0, e1, e2, e4, e5, e6, e7, e8, -⟩
    exact
      { laneMap := fun l => (h0 l).symm.trans (e0 l.val l.isLt)
        laneDesc := fun l => (h1 l).symm.trans (e1 l.val l.isLt)
        patDesc := fun l => (h2 l).symm.trans (e2 l.val l.isLt)
        sched := fun i hi => (h4 i hi).symm.trans (e4 i hi)
        conf := fun i hi => (h5 i hi).symm.trans (e5 i hi)
        profiles := fun i => (h6 i).symm.trans (e6 i.val i.isLt)
        groupDesc := fun g => by
          cases g with
          | a => exact h7a.symm.trans (e7 0 (by decide))
          | b => exact h7b.symm.trans (e7 1 (by decide))
        chan := h8.symm.trans (e8 0 (by decide)) }
  · intro f
    refine ⟨fun i hi => (h0 ⟨i, hi⟩).trans (f.laneMap _), fun i hi => (h1 ⟨i, hi⟩).trans (f.laneDesc _),
      fun i hi => (h2 ⟨i, hi⟩).trans (f.patDesc _), fun i hi => (h4 i hi).trans (f.sched i hi),
      fun i hi => (h5 i hi).trans (f.conf i hi), fun i hi => (h6 ⟨i, hi⟩).trans (f.profiles _), fun i hi => ?_,
      fun i hi => ?_, fun _ h => absurd h List.not_mem_nil⟩
    · obtain rfl | rfl : i = 0 ∨ i = 1 := by omega
      · exact h7a.trans (f.groupDesc .a)
      · exact h7b.trans (f.groupDesc .b)
    · obtain rfl : i = 0 := by omega
      exact h8.trans f.chan

theorem State.tablesLoaded_iff : s.tablesLoaded = true ↔ (s.configured = true → s.Full) := by
  rw [← State.firstEmpty_eq_none, State.tablesLoaded]
  cases s.configured <;> simp

theorem State.full_of_stored {t : State} (h : t.stored = s.stored) (f : s.Full) : t.Full where
  laneMap := by
    rw [show t.laneMap = s.laneMap from (congrArg State.laneMap h :)]
    exact f.laneMap
  laneDesc := by
    rw [show t.laneDesc = s.laneDesc from (congrArg State.laneDesc h :)]
    exact f.laneDesc
  patDesc := by
    rw [show t.patDesc = s.patDesc from (congrArg State.patDesc h :)]
    exact f.patDesc
  sched := by
    rw [show t.sched = s.sched from (congrArg State.sched h :)]
    exact f.sched
  conf := by
    rw [show t.conf = s.conf from (congrArg State.conf h :)]
    exact f.conf
  profiles := by
    rw [show t.profiles = s.profiles from (congrArg State.profiles h :)]
    exact f.profiles
  groupDesc := by
    rw [show t.groupDesc = s.groupDesc from (congrArg State.groupDesc h :)]
    exact f.groupDesc
  chan := by
    have hc : t.stored.chan.isSome = s.stored.chan.isSome := congrArg (fun s => s.chan.isSome) h
    simp only [State.stored, Option.isSome_map] at hc
    exact hc.trans f.chan

theorem State.full_of_writes {t : State} (w : s.Writes t) (f : s.Full) : t.Full where
  laneMap l := w.laneMap l (f.laneMap l)
  laneDesc l := w.laneDesc l (f.laneDesc l)
  patDesc l := w.patDesc l (f.patDesc l)
  sched i h := w.sched i h (f.sched i h)
  conf i h := w.conf i h (f.conf i h)
  profiles i := w.profiles i (f.profiles i)
  groupDesc g := w.groupDesc g (f.groupDesc g)
  chan := by
    rw [show t.chan = s.chan from (congrArg State.chan w.rest :)]
    exact f.chan

theorem State.Writes.configured {t : State} (w : s.Writes t) : t.configured = s.configured :=
  (congrArg State.configured w.rest :)

theorem Serves.tables :
    Serves ⟨False, False⟩ (fun s => s.configured = true → s.Full) fun s => s.configured = true → s.Full := by
  refine .of_stored (fun h e hc => ?_) (fun h w hc => ?_) (fun h hsome hc => ?_)
    (fun _ he _ => ?_) fun _ hc => nomatch hc
  · exact State.full_of_stored e (h ((congrArg State.configured e :).symm.trans hc))
  · exact State.full_of_writes w (h (w.configured.symm.trans hc))
  · have f := h hc
    exact { f with chan := hsome f.chan }
  · have f := State.firstEmpty_eq_none.mp he
    exact { f with }

/-- Settles O59: a write empties no entry, and only a load that finds no empty entry configures the part. -/
theorem configuredTablesStayLoaded : Obligations.ConfiguredTablesStayLoaded := by
  intro s t hs hstep
  rw [State.tablesLoaded_iff] at hs ⊢
  exact Serves.tables.step_keeps (P := fun s => s.configured = true → s.Full) hs hstep (fun h hc => { h hc with })
    fun h => nomatch h

end Sys2Proof.Machine
end

section
/-! The invariants of the counts, of the queues and of the ratio jobs. -/

namespace Sys2Proof.Machine

variable {P : State → Prop} {s : State}

/-! ### The work of the ratio jobs -/

/-- The predicate `P` says nothing of the jobs and of what the ratio engine writes: the results in a record, and an alarm state. -/
structure Filed (P : State → Prop) : Prop where
  jobs : ∀ {s : State} (j), P s → P { s with jobs := j }
  record : ∀ {s} (src n) {f : WinRecord → WinRecord}, (∀ r, (f r).counts = r.counts) → P s → P (s.modRecord src n f)
  alarm : ∀ {s} (src a), P s → P (s.setAlarm src a)
  notify : ∀ {s} (n), P s → P (s.notify n)

namespace Filed

theorem startHead (F : Filed P) (hs : P s) : P s.startHead := by
  unfold State.startHead
  split
  · exact hs
  · split
    · exact hs
    · exact F.jobs _ hs

theorem skipWaiting (F : Filed P) (src : Source) (hs : P s) : P (s.skipWaiting src) := by
  unfold State.skipWaiting
  split
  · exact hs
  · exact F.record src _ (fun _ => rfl) (F.jobs _ hs)

theorem postJob (F : Filed P) (src : Source) (number : FrameSeq) (serial errs bits : Nat) (hs : P s) :
    P (s.postJob src number serial errs bits) := by
  refine F.startHead (F.jobs _ ?_)
  split
  · exact F.skipWaiting src hs
  · split
    · exact ite_keeps_of (F.skipWaiting _) hs
    · exact hs

theorem judge (F : Filed P) (j : Job) (i : JobInputs) (hs : P s) : P (s.judge j i) := by
  have h := F.alarm j.source (alarmNext (s.alarmOf j.source) i) (F.record j.source j.serial (f := fun r =>
    { r with
      status := .done, ratio := some (ratioOf i.errs i.bits), bound := boundOf i.bits i.u,
      verdict := some (verdictOf i), alarmAfter := some (alarmNext (s.alarmOf j.source) i) }) (fun _ => rfl) hs)
  exact ite_keeps (fun _ => h) fun _ => F.notify _ h

theorem completeJob (F : Filed P) (hs : P s) : P s.completeJob := by
  unfold State.completeJob
  split
  · exact hs
  · next j rest _ =>
    split
    · exact hs
    · next i _ => exact F.startHead (F.jobs rest (ite_keeps_of' (F.judge j i) hs))

end Filed

/-! ### What holds of every lane and of every group -/

/-- `p` holds of every lane and `q` of every group. -/
structure Everywhere (p : Lane → Prop) (q : Group → Prop) (s : State) : Prop where
  lane : ∀ l, p (s.lane l)
  group : ∀ g, q (s.group g)

namespace Everywhere

variable {p : Lane → Prop} {q : Group → Prop}

theorem of_eq (E : Everywhere p q s) {t : State} (hl : t.lanes = s.lanes) (hg : t.groups = s.groups) :
    Everywhere p q t where
  lane l := by
    rw [State.lane, hl]
    exact E.lane l
  group g := by
    rw [State.group, hg]
    exact E.group g

theorem modLane (E : Everywhere p q s) (l : LaneNo) {f : Lane → Lane} (hf : p (s.lane l) → p (f (s.lane l))) :
    Everywhere p q (s.modLane l f) where
  lane m := by
    rw [State.lane_modLane]
    split
    · exact hf (E.lane l)
    · exact E.lane m
  group := E.group

theorem modGroup (E : Everywhere p q s) (g : GroupId) {f : Group → Group} (hf : q (s.group g) → q (f (s.group g))) :
    Everywhere p q (s.modGroup g f) where
  lane := E.lane
  group k := by
    rw [State.group_modGroup]
    split
    · exact hf (E.group g)
    · exact E.group k

theorem modHistory (E : Everywhere p q s) (src : Source) {f : List WinRecord → List WinRecord}
    (hp : ∀ L, p L → p { L with hist := f L.hist }) (hq : ∀ G, q G → q { G with hist := f G.hist }) :
    Everywhere p q (s.modHistory src f) := by
  cases src with
  | lane l => exact E.modLane (f := fun L => { L with hist := f L.hist }) l (hp _)
  | group g => exact E.modGroup (f := fun G => { G with hist := f G.hist }) g (hq _)

theorem setAlarm (E : Everywhere p q s) (src : Source) (a : Alarm)
    (hp : ∀ L, p L → p { L with alarm := a, alarmKnown := true }) (hq : ∀ G, q G → q { G with alarm := a }) :
    Everywhere p q (s.setAlarm src a) := by
  cases src with
  | lane l => exact E.modLane (f := fun L => { L with alarm := a, alarmKnown := true }) l (hp _)
  | group g => exact E.modGroup (f := fun G => { G with alarm := a }) g (hq _)

theorem notify (E : Everywhere p q s) (n : Notice) : Everywhere p q (s.notify n) :=
  ite_keeps (fun _ => ⟨E.lane, E.group⟩) fun _ => ⟨E.lane, E.group⟩

theorem placeCapture (E : Everywhere p q s) (c : CapEntry) : Everywhere p q (s.placeCapture c) :=
  ite_keeps (fun _ => ⟨E.lane, E.group⟩) fun _ => ⟨E.lane, E.group⟩

end Everywhere

/-! ### Counts -/

/-- The history of a lane or a group whose records are sound. -/
def histSound (h : List WinRecord) : Prop := ∀ r ∈ h, r.counts.sound = true

theorem Lane.sound_hist {L : Lane} {h : List WinRecord} (hh : histSound L.hist → histSound h) (hL : L.sound = true) :
    ({ L with hist := h } : Lane).sound = true := by
  rw [Lane.sound_iff] at hL ⊢
  obtain ⟨hwin, hrun, hhist, hck⟩ := hL
  exact ⟨hwin, hrun, hh hhist, hck⟩

theorem Group.sound_hist {G : Group} {h : List WinRecord} (hh : histSound G.hist → histSound h) (hG : G.sound = true) :
    ({ G with hist := h } : Group).sound = true := by
  rw [Group.sound_iff] at hG ⊢
  exact ⟨hG.1, hh hG.2⟩

/-- The counts of all lanes and groups are sound. -/
def State.Sound : State → Prop := Everywhere (fun L => L.sound = true) fun G => G.sound = true

theorem State.sound_iff : s.Sound ↔ s.countsSound = true := by
  rw [State.countsSound_iff]
  exact ⟨fun E => ⟨E.lane, E.group⟩, fun h => ⟨h.1, h.2⟩⟩

theorem State.Sound.modHistory {src : Source} {f : List WinRecord → List WinRecord}
    (hf : ∀ h, histSound h → histSound (f h)) (hs : s.Sound) : (s.modHistory src f).Sound :=
  Everywhere.modHistory hs src (fun _ => Lane.sound_hist (hf _)) fun _ => Group.sound_hist (hf _)

theorem Filed.sound : Filed State.Sound where
  jobs _ h := ⟨h.lane, h.group⟩
  record src n f hf h := h.modHistory fun g hg r hr => by
    obtain ⟨x, hx, rfl⟩ := List.mem_map.mp hr
    split
    · rw [hf]
      exact hg x hx
    · exact hg x hx
  alarm src a h := Everywhere.setAlarm h src a (fun _ => id) fun _ => id
  notify n h := Everywhere.notify h n

theorem Lane.softReset_sound (t : Tick) (L : Lane) : (L.softReset t).sound = true := by
  rw [Lane.sound_iff]
  exact ⟨rfl, rfl, fun _ h => absurd h List.not_mem_nil, rfl⟩

theorem Loose.sound : Loose ⟨True, False⟩ State.Sound where
  aware _ h := State.sound_iff.mp h
  bare h e := Everywhere.of_eq h (congrArg State.lanes e :) (congrArg State.groups e :)
  lanes h hv := ⟨fun l => (hv l).sound trivial (h.lane l), h.group⟩
  group h hf := Everywhere.modGroup h _ (hf.sound trivial)
  notify n h := Everywhere.notify h n
  capture c h := Everywhere.placeCapture h c
  append h hr := h.modHistory fun g hg x hx => by
    rcases mem_appendHistory hx with hx | rfl
    · exact hg x hx
    · exact hr trivial
  post src n q e b h := Filed.sound.postJob src n q e b h
  link h _ := ⟨h.lane, h.group⟩
  captures h _ := ⟨h.lane, h.group⟩
  forget l h := ⟨(h.modHistory fun _ _ _ hx => absurd hx List.not_mem_nil).lane, h.group⟩
  complete h := Filed.sound.completeJob h
  queue r h _ := ⟨h.lane, h.group⟩
  send h := ⟨h.lane, h.group⟩
  writes h w := Everywhere.of_eq h (congrArg State.lanes w.rest :) (congrArg State.groups w.rest :)
  settings h _ := ⟨h.lane, h.group⟩
  sup h := ⟨h.lane, h.group⟩
  acts l _ h := Everywhere.modLane h l id
  restart h := by
    refine ⟨fun l => ?_, fun g => ?_⟩
    · rw [State.lane, Eight.get_map]
      exact Lane.softReset_sound _ _
    · cases g <;> rfl
  configure h _ := ⟨h.lane, h.group⟩
  unconfigure h := ⟨h.lane, h.group⟩

/-- Settles O57: each set of counts grows by the additions of R53 alone. -/
theorem countsStaySound : Obligations.CountsStaySound := by
  intro s t hs hstep
  have V := Loose.sound.toKept.serves fun _ _ _ _ h => ⟨h.lane, h.group⟩
  rw [← State.sound_iff] at hs ⊢
  exact V.step_keeps hs hstep (fun h => ⟨h.lane, h.group⟩) (State.sound_iff.mpr rfl)

end Sys2Proof.Machine
end

section
/-! The invariants of the queues and of the ratio jobs. -/

namespace Sys2Proof.Machine

variable {P : State → Prop} {s : State}

/-! ### Queues -/

/-- A history within its 16 records (R86). -/
def histFits (h : List WinRecord) : Prop := h.length ≤ 16

/-- The buffers and histories of every lane and group within their sizes. -/
def State.Buffered : State → Prop := Everywhere (fun L => L.bounded = true) fun G => histFits G.hist

/-- The queues within their sizes, the egress record queue within `n`. -/
structure State.Queued (n : Nat) (s : State) : Prop where
  cmdQ : s.cmdQ.length ≤ 8
  egress : s.egress.length ≤ n
  waiting : s.waiting = true → s.egress.length ≤ 15
  outbound : s.link.outbound.length ≤ 4
  capture : s.capture.length ≤ 256

/-- Queues, buffers and histories within their sizes. -/
structure State.Fits (n : Nat) (s : State) : Prop where
  queued : s.Queued n
  buffered : s.Buffered

theorem State.queuesBounded_iff : s.queuesBounded = true ↔ s.Fits 16 := by
  simp only [State.queuesBounded, Bool.and_eq_true, decide_eq_true_eq, lanesAll_all, Bool.or_eq_true,
    Bool.not_eq_true', and_assoc]
  constructor
  · rintro ⟨hcmd, heg, hwait, hout, hcap, hlane, ha, hb⟩
    refine ⟨⟨hcmd, heg, fun hw => hwait.resolve_left (by simp [hw]), hout, hcap⟩, hlane, fun g => ?_⟩
    cases g <;> assumption
  · rintro ⟨⟨hcmd, heg, hwait, hout, hcap⟩, hlane, hgroup⟩
    refine ⟨hcmd, heg, ?_, hout, hcap, hlane, hgroup .a, hgroup .b⟩
    cases hw : s.waiting
    · exact .inl rfl
    · exact .inr (hwait hw)

theorem Lane.bounded_hist {L : Lane} {h : List WinRecord} (hh : histFits L.hist → histFits h)
    (hL : L.bounded = true) : ({ L with hist := h } : Lane).bounded = true := by
  rw [Lane.bounded_iff] at hL ⊢
  exact ⟨hL.1, hL.2.1, hh hL.2.2⟩

theorem State.Buffered.modHistory {src : Source} {f : List WinRecord → List WinRecord}
    (hf : ∀ h, histFits h → histFits (f h)) (hs : s.Buffered) : (s.modHistory src f).Buffered :=
  Everywhere.modHistory hs src (fun _ => Lane.bounded_hist (hf _)) fun _ => hf _

theorem appendHistory_fits (h : List WinRecord) (r : WinRecord) : histFits (appendHistory h r) := by
  unfold histFits appendHistory
  split
  · rw [List.length_append]
    assumption
  · rw [List.length_append, List.length_drop, List.length_singleton]
    omega

theorem State.modRecord_queued (n : Nat) (src : Source) (k : Nat) (f : WinRecord → WinRecord) (h : s.Queued n) :
    (s.modRecord src k f).Queued n := by
  cases src <;> exact ⟨h.cmdQ, h.egress, h.waiting, h.outbound, h.capture⟩

theorem State.modHistory_queued (n : Nat) (src : Source) (f : List WinRecord → List WinRecord) (h : s.Queued n) :
    (s.modHistory src f).Queued n := by
  cases src <;> exact ⟨h.cmdQ, h.egress, h.waiting, h.outbound, h.capture⟩

/-- A notice is placed only where it leaves four places free. -/
theorem State.notify_queued {n : Nat} (hn : 12 ≤ n) (x : Notice) (h : s.Queued n) : (s.notify x).Queued n := by
  unfold State.notify
  split
  · refine ⟨h.cmdQ, ?_, fun _ => ?_, h.outbound, h.capture⟩ <;>
      · simp only [List.length_append, List.length_singleton]
        omega
  · exact ⟨h.cmdQ, h.egress, h.waiting, h.outbound, h.capture⟩

theorem State.placeCapture_queued {n : Nat} (c : CapEntry) (h : s.Queued n) : (s.placeCapture c).Queued n := by
  unfold State.placeCapture
  split
  · refine ⟨h.cmdQ, h.egress, h.waiting, h.outbound, ?_⟩
    simp only [List.length_append, List.length_singleton]
    omega
  · exact ⟨h.cmdQ, h.egress, h.waiting, h.outbound, h.capture⟩

theorem State.setAlarm_queued {n : Nat} (src : Source) (a : Alarm) (h : s.Queued n) : (s.setAlarm src a).Queued n := by
  cases src <;> exact ⟨h.cmdQ, h.egress, h.waiting, h.outbound, h.capture⟩

theorem Filed.fits {n : Nat} (hn : 12 ≤ n) : Filed (State.Fits n) where
  jobs _ h := ⟨⟨h.queued.cmdQ, h.queued.egress, h.queued.waiting, h.queued.outbound, h.queued.capture⟩,
    h.buffered.of_eq rfl rfl⟩
  record src k f _ h := ⟨State.modRecord_queued n src k f h.queued, h.buffered.modHistory fun g hg => by
    rw [histFits, List.length_map]
    exact hg⟩
  alarm src a h := ⟨State.setAlarm_queued src a h.queued, Everywhere.setAlarm h.buffered src a (fun _ => id) fun _ => id⟩
  notify x h := ⟨State.notify_queued hn x h.queued, Everywhere.notify h.buffered x⟩

theorem Lane.softReset_bounded (t : Tick) (L : Lane) : (L.softReset t).bounded = true := by
  rw [Lane.bounded_iff]
  exact ⟨Nat.zero_le _, Nat.zero_le _, Nat.zero_le _⟩

theorem State.queued_of_writes {n : Nat} {t : State} (w : s.Writes t) (h : s.Queued n) : t.Queued n where
  cmdQ := (congrArg (fun s => s.cmdQ.length) w.rest :).trans_le h.cmdQ
  egress := (congrArg (fun s => s.egress.length) w.rest :).trans_le h.egress
  waiting hw := (congrArg (fun s => s.egress.length) w.rest :).trans_le
    (h.waiting ((congrArg State.waiting w.rest :).symm.trans hw))
  outbound := (congrArg (fun s => s.link.outbound.length) w.rest :).trans_le h.outbound
  capture := (congrArg (fun s => s.capture.length) w.rest :).trans_le h.capture

theorem State.queued_of_bare {n : Nat} {t : State} (e : t.bare = s.bare) (h : s.Queued n) : t.Queued n where
  cmdQ := (congrArg (fun s => s.cmdQ.length) e :).trans_le h.cmdQ
  egress := (congrArg (fun s => s.egress.length) e :).trans_le h.egress
  waiting hw := (congrArg (fun s => s.egress.length) e :).trans_le
    (h.waiting ((congrArg State.waiting e :).symm.trans hw))
  outbound := (congrArg (fun s => s.link.outbound.length) e :).trans_le h.outbound
  capture := (congrArg (fun s => s.capture.length) e :).trans_le h.capture

theorem Loose.fits {n : Nat} (hn : 12 ≤ n) : Loose ⟨False, False⟩ (State.Fits n) where
  aware h := h.elim
  bare h e := ⟨State.queued_of_bare e h.queued, h.buffered.of_eq (congrArg State.lanes e :) (congrArg State.groups e :)⟩
  lanes h hv := ⟨⟨h.queued.cmdQ, h.queued.egress, h.queued.waiting, h.queued.outbound, h.queued.capture⟩,
    fun l => (hv l).bounded (h.buffered.lane l), h.buffered.group⟩
  group h hf := ⟨⟨h.queued.cmdQ, h.queued.egress, h.queued.waiting, h.queued.outbound, h.queued.capture⟩,
    Everywhere.modGroup h.buffered _ fun hg => by
      rw [hf.hist]
      exact hg⟩
  notify x h := (Filed.fits hn).notify x h
  capture c h := ⟨State.placeCapture_queued c h.queued, Everywhere.placeCapture h.buffered c⟩
  append h _ := ⟨State.modHistory_queued n _ _ h.queued, h.buffered.modHistory fun _ _ => appendHistory_fits _ _⟩
  post src q k e b h := (Filed.fits hn).postJob src q k e b h
  link h hk := ⟨⟨h.queued.cmdQ, h.queued.egress, h.queued.waiting, hk h.queued.outbound, h.queued.capture⟩,
    h.buffered.of_eq rfl rfl⟩
  captures h hc := ⟨⟨h.queued.cmdQ, h.queued.egress, h.queued.waiting, h.queued.outbound, hc.trans h.queued.capture⟩,
    h.buffered.of_eq rfl rfl⟩
  forget l h :=
    have hb : (State.modHistory _ (.lane l) fun _ => []).Buffered := h.buffered.modHistory fun _ _ => Nat.zero_le _
    ⟨⟨h.queued.cmdQ, h.queued.egress, h.queued.waiting, h.queued.outbound, h.queued.capture⟩, hb.of_eq rfl rfl⟩
  complete h := (Filed.fits hn).completeJob h
  queue r h hq := ⟨⟨by simpa using hq, h.queued.egress, h.queued.waiting, h.queued.outbound, h.queued.capture⟩,
    h.buffered.of_eq rfl rfl⟩
  send {s} h :=
    have hl : (s.egress.drop 1).length ≤ s.egress.length := by
      rw [List.length_drop]
      omega
    ⟨⟨h.queued.cmdQ, hl.trans h.queued.egress, fun hw => hl.trans (h.queued.waiting hw), h.queued.outbound,
      h.queued.capture⟩, h.buffered.of_eq rfl rfl⟩
  writes h w := ⟨State.queued_of_writes w h.queued,
    h.buffered.of_eq (congrArg State.lanes w.rest :) (congrArg State.groups w.rest :)⟩
  settings h _ := ⟨⟨h.queued.cmdQ, h.queued.egress, h.queued.waiting, h.queued.outbound, h.queued.capture⟩,
    h.buffered.of_eq rfl rfl⟩
  sup h := ⟨⟨h.queued.cmdQ, h.queued.egress, h.queued.waiting, h.queued.outbound, h.queued.capture⟩,
    h.buffered.of_eq rfl rfl⟩
  acts l _ h := ⟨⟨h.queued.cmdQ, h.queued.egress, h.queued.waiting, h.queued.outbound, h.queued.capture⟩,
    Everywhere.modLane h.buffered l id⟩
  restart h := by
    refine ⟨⟨h.queued.cmdQ, h.queued.egress, h.queued.waiting, h.queued.outbound, Nat.zero_le _⟩, fun l => ?_,
      fun g => ?_⟩
    · rw [State.lane, Eight.get_map]
      exact Lane.softReset_bounded _ _
    · cases g <;> exact Nat.zero_le _
  configure h _ := ⟨⟨h.queued.cmdQ, h.queued.egress, h.queued.waiting, h.queued.outbound, h.queued.capture⟩,
    h.buffered.of_eq rfl rfl⟩
  unconfigure h := ⟨⟨h.queued.cmdQ, h.queued.egress, h.queued.waiting, h.queued.outbound, h.queued.capture⟩,
    h.buffered.of_eq rfl rfl⟩

theorem State.nextCommand_free {r : CmdRec} (h : s.nextCommand = some r) : s.egress.length ≤ 15 := by
  unfold State.nextCommand at h
  split at h
  · cases h
  · next hc =>
    simp only [Bool.or_eq_true, decide_eq_true_eq, not_or] at hc
    omega

/-- While a command is served the egress record queue keeps a place for its response. -/
theorem Serves.fits : Serves ⟨False, False⟩ (State.Fits 16) (State.Fits 15) where
  idle := (Loose.fits (by decide)).toKept
  busy := (Loose.fits (by decide)).toKept
  take h hr := ⟨{ h.queued with egress := State.nextCommand_free hr }, h.buffered⟩
  answer {s} r st body h := by
    have hq : (s.cmdQ.drop 1).length ≤ 8 := by
      have := h.queued.cmdQ
      rw [List.length_drop]
      omega
    unfold State.answer
    dsimp only
    split
    · refine ⟨⟨hq, ?_, fun hw => (nomatch hw), h.queued.outbound, h.queued.capture⟩, h.buffered.of_eq rfl rfl⟩
      have := h.queued.egress
      simp only [List.length_append, List.length_singleton]
      omega
    · have h16 : (State.Fits 16) { s with cmdQ := s.cmdQ.drop 1, waiting := false } :=
        ⟨⟨hq, Nat.le_succ_of_le h.queued.egress, fun hw => (nomatch hw), h.queued.outbound, h.queued.capture⟩,
          h.buffered.of_eq rfl rfl⟩
      exact (Loose.fits (by decide)).joinOutbound _ h16
  wait h _ := ⟨⟨h.queued.cmdQ, Nat.le_succ_of_le h.queued.egress, fun _ => h.queued.egress, h.queued.outbound,
    h.queued.capture⟩, h.buffered.of_eq rfl rfl⟩
  waited h hw := ⟨{ h.queued with egress := h.queued.waiting hw }, h.buffered⟩

/-- Settles O55: each queue is lengthened only where it has room, and a command is taken only where its response has. -/
theorem queuesStayBounded : Obligations.QueuesStayBounded := by
  intro s t hs hstep
  rw [State.queuesBounded_iff] at hs ⊢
  refine Serves.fits.step_keeps hs hstep (fun h => ⟨?_, h.buffered.of_eq rfl rfl⟩) (State.queuesBounded_iff.mp rfl)
  exact ⟨h.queued.cmdQ, h.queued.egress, h.queued.waiting, h.queued.outbound, h.queued.capture⟩

/-! ### Ratio jobs -/

/-- A waiting job (R96). -/
def Job.waits (j : Job) : Prop := j.inputs = none

/-- The jobs behind the head wait, one for each source. -/
def OneEach (js : List Job) : Prop := (∀ j ∈ js, j.waits) ∧ (js.map Job.source).Nodup

theorem jobsOrdered_cons (j : Job) (rest : List Job) :
    jobsOrdered (j :: rest) = true ↔ j.inputs.isSome = true ∧ OneEach rest := by
  simp [jobsOrdered, OneEach, Job.waits, and_assoc]

theorem OneEach.sublist {js ks : List Job} (h : OneEach js) (hk : ks.Sublist js) : OneEach ks :=
  ⟨fun j hj => h.1 j (hk.subset hj), h.2.sublist (hk.map _)⟩

theorem OneEach.snoc {js : List Job} {j : Job} (h : OneEach js) (hj : j.waits) (hsrc : ∀ k ∈ js, k.source ≠ j.source) :
    OneEach (js ++ [j]) := by
  refine ⟨fun k hk => ?_, ?_⟩
  · rcases List.mem_append.mp hk with hk | hk
    · exact h.1 k hk
    · rw [List.mem_singleton.mp hk]
      exact hj
  · rw [List.map_append, List.map_singleton, List.nodup_append]
    refine ⟨h.2, List.nodup_singleton _, fun a ha b hb => ?_⟩
    obtain ⟨k, hk, rfl⟩ := List.mem_map.mp ha
    rw [List.mem_singleton.mp hb]
    exact hsrc k hk

/-- The head goes into service. -/
theorem State.startHead_ordered (h : OneEach s.jobs.tail) : jobsOrdered s.startHead.jobs = true := by
  unfold State.startHead
  split
  · next e => rw [e, jobsOrdered]
  · next j rest e =>
    rw [e] at h
    split
    · next i hi =>
      rw [e, jobsOrdered_cons, hi]
      exact ⟨rfl, h⟩
    · rw [jobsOrdered_cons]
      exact ⟨rfl, h⟩

theorem OneEach.tail_of_ordered {js : List Job} (h : jobsOrdered js = true) : OneEach js.tail := by
  cases js with
  | nil => exact ⟨fun _ hj => absurd hj List.not_mem_nil, List.nodup_nil⟩
  | cons j rest => exact ((jobsOrdered_cons j rest).mp h).2

@[simp] theorem State.modHistory_jobs (src : Source) (f : List WinRecord → List WinRecord) :
    (s.modHistory src f).jobs = s.jobs := by
  cases src <;> rfl

@[simp] theorem State.modRecord_jobs (src : Source) (n : Nat) (f : WinRecord → WinRecord) :
    (s.modRecord src n f).jobs = s.jobs := State.modHistory_jobs _ _

/-- R97: a waiting job of the source leaves the queue; without one the queue is as it was. -/
theorem State.skipWaiting_jobs (src : Source) :
    (s.skipWaiting src).jobs = s.jobs.filter (fun j => !isWaiting src j) := by
  unfold State.skipWaiting
  split
  · next h =>
    refine (List.filter_eq_self.mpr fun j hj => ?_).symm
    simpa using List.find?_eq_none.mp h j hj
  · rw [State.modRecord_jobs]

/-- The job in service is no waiting job. -/
theorem jobsOrdered_filter {js : List Job} {p : Job → Bool} (h : jobsOrdered js = true)
    (hp : ∀ j, j.inputs.isSome = true → p j = true) : jobsOrdered (js.filter p) = true := by
  cases js with
  | nil => rfl
  | cons j rest =>
    obtain ⟨hj, hrest⟩ := (jobsOrdered_cons j rest).mp h
    rw [List.filter_cons_of_pos (hp j hj), jobsOrdered_cons]
    exact ⟨hj, hrest.sublist List.filter_sublist⟩

theorem not_isWaiting_of_served {j : Job} (src : Source) (h : j.inputs.isSome = true) : (!isWaiting src j) = true := by
  cases hj : j.inputs <;> simp_all [isWaiting]

theorem jobsOrdered_discard {js : List Job} {f : Job → Job} (hf : ∀ j, (f j).inputs = j.inputs ∧ (f j).source = j.source)
    (h : jobsOrdered js = true) : jobsOrdered (js.map f) = true := by
  cases js with
  | nil => rfl
  | cons j rest =>
    obtain ⟨hj, hwait, hnodup⟩ := (jobsOrdered_cons j rest).mp h
    rw [List.map_cons, jobsOrdered_cons, (hf j).1]
    refine ⟨hj, fun k hk => ?_, ?_⟩
    · obtain ⟨x, hx, rfl⟩ := List.mem_map.mp hk
      rw [Job.waits, (hf x).1]
      exact hwait x hx
    · rwa [List.map_map, show Job.source ∘ f = Job.source from funext fun j => (hf j).2]

theorem State.postJob_ordered {src : Source} {number : FrameSeq} {serial errs bits : Nat}
    (h : jobsOrdered s.jobs = true) : jobsOrdered (s.postJob src number serial errs bits).jobs = true := by
  have key : ∀ u : State, jobsOrdered u.jobs = true → (∀ k ∈ u.jobs, isWaiting src k = false) →
      jobsOrdered ({ u with jobs := u.jobs ++ [⟨src, number, serial, errs, bits, false, none⟩] } : State).startHead.jobs
        = true := by
    intro u hu hno
    refine State.startHead_ordered ?_
    cases e : u.jobs with
    | nil => exact ⟨fun _ hj => absurd hj List.not_mem_nil, List.nodup_nil⟩
    | cons j rest =>
      have hone := OneEach.tail_of_ordered hu
      rw [e] at hone hno
      refine OneEach.snoc hone rfl fun k hk hsrc => ?_
      have hw := hno k (List.mem_cons_of_mem _ hk)
      have hwait : k.inputs = none := hone.1 k hk
      simp only at hsrc
      simp [isWaiting, hsrc, hwait] at hw
  have gone : ∀ x, jobsOrdered (s.skipWaiting x).jobs = true := fun x => by
    rw [State.skipWaiting_jobs]
    exact jobsOrdered_filter h fun _ => not_isWaiting_of_served _
  unfold State.postJob
  dsimp only
  split
  · refine key _ (gone src) fun k hk => ?_
    rw [State.skipWaiting_jobs] at hk
    simpa using (List.mem_filter.mp hk).2
  · next hno =>
    have hno : ∀ k ∈ s.jobs, isWaiting src k = false := by
      simpa [State.hasWaiting] using hno
    split
    · split
      · refine key _ (gone _) fun k hk => ?_
        rw [State.skipWaiting_jobs] at hk
        exact hno k (List.mem_filter.mp hk).1
      · exact key _ h hno
    · exact key _ h hno

theorem State.dropLaneJobs_ordered {l : LaneNo} (h : jobsOrdered s.jobs = true) :
    jobsOrdered (s.dropLaneJobs l).jobs = true :=
  jobsOrdered_discard (fun j => by split <;> exact ⟨rfl, rfl⟩)
    (jobsOrdered_filter h fun _ => not_isWaiting_of_served _)

theorem markServed_ordered {js : List Job} (h : jobsOrdered js = true) : jobsOrdered (markServed js) = true :=
  jobsOrdered_discard (fun _ => ⟨rfl, rfl⟩) (jobsOrdered_filter h fun _ => id)

@[simp] theorem State.notify_jobs (n : Notice) : (s.notify n).jobs = s.jobs := by
  unfold State.notify
  split <;> rfl

@[simp] theorem State.placeCapture_jobs (c : CapEntry) : (s.placeCapture c).jobs = s.jobs := by
  unfold State.placeCapture
  split <;> rfl

theorem State.completeJob_ordered (h : jobsOrdered s.jobs = true) : jobsOrdered s.completeJob.jobs = true := by
  unfold State.completeJob
  split
  · exact h
  · next j rest e =>
    split
    · exact h
    · refine State.startHead_ordered ?_
      have hone := OneEach.tail_of_ordered h
      rw [e] at hone
      exact hone.sublist rest.tail_sublist

theorem Loose.ordered : Loose ⟨False, False⟩ (fun s => jobsOrdered s.jobs = true) where
  aware h := h.elim
  bare h e := (congrArg (fun s => jobsOrdered s.jobs) e :).trans h
  lanes h _ := h
  group h _ := h
  notify n h := by rwa [State.notify_jobs]
  capture c h := by rwa [State.placeCapture_jobs]
  append h _ := by rwa [State.modHistory_jobs]
  post _ _ _ _ _ h := State.postJob_ordered h
  link h _ := h
  captures h _ := h
  forget _ h := State.dropLaneJobs_ordered h
  complete h := State.completeJob_ordered h
  queue _ h _ := h
  send h := h
  writes h w := (congrArg (fun s => jobsOrdered s.jobs) w.rest :).trans h
  settings h _ := h
  sup h := h
  acts _ _ h := h
  restart h := markServed_ordered h
  configure h _ := h
  unconfigure h := h

/-- The ten sources of records (R86). -/
def sourcesAll : List Source := lanesAll.map .lane ++ [.group .a, .group .b]

theorem mem_sourcesAll (src : Source) : src ∈ sourcesAll := by
  cases src with
  | lane l =>
    have : ∀ l : LaneNo, Source.lane l ∈ sourcesAll := by decide
    exact this l
  | group g => cases g <;> decide

theorem length_le_of_ordered {js : List Job} (h : jobsOrdered js = true) : js.length ≤ 11 := by
  cases js with
  | nil => exact Nat.zero_le _
  | cons j rest =>
    have hn := ((jobsOrdered_cons j rest).mp h).2.2
    have : (rest.map Job.source).length ≤ sourcesAll.length :=
      (hn.subperm fun src _ => mem_sourcesAll src).length_le
    rw [List.length_map] at this
    exact Nat.succ_le_succ this

/-- Settles O56: a posted job takes the place of its source's waiting one, and the head is put in service. -/
theorem ratioJobsStayOrdered : Obligations.RatioJobsStayOrdered := by
  intro s t hs hstep
  have V := Loose.ordered.toKept.serves fun _ _ _ _ h => h
  have h := V.step_keeps hs hstep (fun h => h) rfl
  exact ⟨h, length_le_of_ordered h⟩

end Sys2Proof.Machine
end

section
/-! The invariants of the hold requests and of the supervisor (O58). -/

namespace Sys2Proof.Machine

variable {P : State → Prop} {s : State}

/-! ### Hold requests -/

/-- No hold request of a trigger is left over. -/
def State.Settled : State → Prop := Everywhere (fun L => L.holdReq = false) fun _ => True

theorem State.settled_iff : s.Settled ↔ s.holdsSettled = true := by
  simp only [State.holdsSettled, lanesAll_all, Bool.not_eq_true']
  exact ⟨fun E => E.lane, fun h => ⟨h, fun _ => trivial⟩⟩

theorem State.Settled.modHistory {src : Source} {f : List WinRecord → List WinRecord} (hs : s.Settled) :
    (s.modHistory src f).Settled := Everywhere.modHistory hs src (fun _ => id) fun _ => id

theorem Filed.settled : Filed State.Settled where
  jobs _ h := ⟨h.lane, h.group⟩
  record _ _ _ _ h := h.modHistory
  alarm src a h := Everywhere.setAlarm h src a (fun _ => id) fun _ => id
  notify n h := Everywhere.notify h n

theorem State.holdReq_of_others_none {t : State} (h : t.others none = s.others none) (m : LaneNo) :
    (t.lane m).holdReq = (s.lane m).holdReq := by
  have hm := (State.others_none_iff s t).mp h m
  exact (congrArg Lane.holdReq hm :)

theorem State.requestHold_holdReq (l m : LaneNo) : ((s.requestHold l).lane m).holdReq = (s.lane m).holdReq := by
  unfold State.requestHold
  split
  · have h := State.groupRefresh_others (s.modLane l fun L => { L with hold := .held }) l (x := none)
    rw [State.holdReq_of_others_none h, State.lane_modLane]
    split
    · next e => rw [e]
    · rfl
  · rfl

theorem State.settleHold_holdReq (l m : LaneNo) :
    ((s.settleHold l).lane m).holdReq = if m = l then false else (s.lane m).holdReq := by
  unfold State.settleHold
  split
  · rw [State.requestHold_holdReq, State.lane_modLane]
    split <;> rfl
  · next h =>
    split
    · next e =>
      rw [e]
      exact Bool.not_eq_true _ ▸ h
    · rfl

theorem foldl_settleHold_holdReq (ls : List LaneNo) (m : LaneNo) : ∀ s : State,
    ((ls.foldl (fun s l => s.settleHold l) s).lane m).holdReq = if m ∈ ls then false else (s.lane m).holdReq := by
  induction ls with
  | nil => exact fun _ => rfl
  | cons l ls ih =>
    intro s
    rw [List.foldl_cons, ih, State.settleHold_holdReq]
    by_cases h1 : m = l <;> by_cases h2 : m ∈ ls <;> simp [h1, h2]

theorem mem_lanesAll (l : LaneNo) : l ∈ lanesAll := by
  revert l
  decide

theorem State.settleHolds_settled : s.settleHolds.Settled := by
  refine ⟨fun m => ?_, fun _ => trivial⟩
  have h := foldl_settleHold_holdReq lanesAll m s
  rw [if_pos (mem_lanesAll m)] at h
  exact h

theorem Loose.settled : Loose ⟨False, True⟩ State.Settled where
  aware h := h.elim
  bare h e := Everywhere.of_eq h (congrArg State.lanes e :) (congrArg State.groups e :)
  lanes h hv := ⟨fun l => ((hv l).request trivial).trans (h.lane l), h.group⟩
  group h _ := ⟨h.lane, fun _ => trivial⟩
  notify n h := Everywhere.notify h n
  capture c h := Everywhere.placeCapture h c
  append h _ := h.modHistory
  post src n q e b h := Filed.settled.postJob src n q e b h
  link h _ := ⟨h.lane, h.group⟩
  settle _ := State.settleHolds_settled
  captures h _ := ⟨h.lane, h.group⟩
  forget l h := ⟨h.modHistory.lane, h.group⟩
  complete h := Filed.settled.completeJob h
  queue r h _ := ⟨h.lane, h.group⟩
  send h := ⟨h.lane, h.group⟩
  writes h w := Everywhere.of_eq h (congrArg State.lanes w.rest :) (congrArg State.groups w.rest :)
  settings h _ := ⟨h.lane, h.group⟩
  sup h := ⟨h.lane, h.group⟩
  acts l _ h := Everywhere.modLane h l id
  restart h := by
    refine ⟨fun l => ?_, h.group⟩
    rw [State.lane, Eight.get_map]
    rfl
  configure h _ := ⟨h.lane, h.group⟩
  unconfigure h := ⟨h.lane, h.group⟩

theorem Serves.settled : Serves ⟨False, True⟩ State.Settled State.Settled :=
  Loose.settled.toKept.serves fun _ _ _ _ h => ⟨h.lane, h.group⟩

/-! ### Supervisor -/

/-- The part of a state on which it turns whether the supervisor is cleared while inactive. -/
structure State.SameWatch (s t : State) : Prop where
  chan : t.chan = s.chan
  sup : t.sup = s.sup
  remote : ∀ l, (t.lane l).remote = (s.lane l).remote

theorem State.supActive_congr {t : State} (hp : t.supPeriod = s.supPeriod)
    (hr : ∀ l, (t.lane l).remote = (s.lane l).remote) : t.supActive = s.supActive := by
  simp only [State.supActive, hp, hr]

theorem State.SameWatch.cleared {t : State} (h : s.SameWatch t) (hs : s.supCleared = true) : t.supCleared = true := by
  have hp : t.supPeriod = s.supPeriod := by rw [State.supPeriod, h.chan, State.supPeriod]
  rw [State.supCleared, State.supActive_congr hp h.remote, h.sup]
  exact hs

theorem State.sameWatch_of_others {t : State} (hf : t.fixed = s.fixed) (ho : t.others none = s.others none) :
    s.SameWatch t where
  chan := (congrArg Fixed.chan hf :)
  sup := (congrArg Fixed.sup hf :)
  remote l := (congrArg Lane.remote ((State.others_none_iff s t).mp ho l) :)

theorem State.modLane_sameWatch {l : LaneNo} {f : Lane → Lane} (hf : (f (s.lane l)).remote = (s.lane l).remote) :
    s.SameWatch (s.modLane l f) where
  chan := rfl
  sup := rfl
  remote m := by
    rw [State.lane_modLane]
    split
    · next e => rw [hf, e]
    · rfl

theorem State.sameWatch_of_lanes {t : State} (hc : t.chan = s.chan) (hsup : t.sup = s.sup) (hl : t.lanes = s.lanes) :
    s.SameWatch t := ⟨hc, hsup, fun l => by rw [State.lane, hl, State.lane]⟩

/-- R162: settled, an inactive supervisor is cleared. -/
theorem State.settleSup_cleared : s.settleSup.supCleared = true := by
  unfold State.settleSup
  split
  · next h => rw [State.supCleared, h, Bool.true_or]
  · rw [State.supCleared, Bool.or_eq_true]
    exact .inr rfl

theorem State.supCleared_of_active (h : s.supActive = true) : s.supCleared = true := by
  rw [State.supCleared, h, Bool.true_or]

theorem State.periodChanged_cleared {old : Nat}
    (h : s.supPeriod = old → s.supCleared = true) : (s.periodChanged old).supCleared = true := by
  unfold State.periodChanged
  split
  · next e => exact h e
  · exact State.settleSup_cleared

theorem Filed.cleared : Filed (fun s => s.supCleared = true) where
  jobs _ h := h
  record _ _ _ _ h := (State.sameWatch_of_others (by simp) (by simp)).cleared h
  alarm src a h := by
    cases src with
    | lane l => exact (State.modLane_sameWatch rfl).cleared h
    | group g => exact h
  notify _ h := (State.sameWatch_of_others (by simp) (by simp)).cleared h

theorem Basic.cleared : Basic ⟨False, False⟩ (fun s => s.supCleared = true) where
  aware h := h.elim
  bare h e := (State.sameWatch_of_lanes (congrArg State.chan e :) (congrArg State.sup e :)
    (congrArg State.lanes e :)).cleared h
  lanes {s} _ h hv := State.SameWatch.cleared (s := s) ⟨rfl, rfl, fun l => (hv l).remote⟩ h
  group h _ := h
  notify _ h := Filed.cleared.notify _ h
  capture _ h := (State.sameWatch_of_others (by simp) (by simp)).cleared h
  append h _ := (State.sameWatch_of_others (by simp) (by simp)).cleared h
  post _ _ _ _ _ h := Filed.cleared.postJob _ _ _ _ _ h
  link h _ := h

theorem State.rejudgeLink_sameWatch (moved : Bool) : s.SameWatch (s.rejudgeLink moved) := by
  have h1 : s.SameWatch (if s.link.up && (moved || !s.remoteEnable) then s.linkDepart else s) := by
    split
    · unfold State.linkDepart
      dsimp only
      split
      · have h := State.sameWatch_of_others
          (s := s.modLink fun k => { k with up := false, sendIdx := 0, asm := [], skipping := false })
          (State.notify_fixed _ (.protocolFault .channelDown none)) (State.notify_others _ _)
        exact ⟨h.chan, h.sup, h.remote⟩
      · exact ⟨rfl, rfl, fun _ => rfl⟩
    · exact ⟨rfl, rfl, fun _ => rfl⟩
  unfold State.rejudgeLink
  generalize (if s.link.up && (moved || !s.remoteEnable) then s.linkDepart else s) = u at h1
  dsimp only
  split
  · exact h1
  · split
    · exact ⟨h1.chan, h1.sup, h1.remote⟩
    · exact h1

theorem State.supExpire_cleared (h : s.supActive = true) : s.supExpire.supCleared = true := by
  have h0 : ({ s with sup := { s.sup with ticks := 0 } } : State).supActive = true := h
  unfold State.supExpire
  dsimp only
  split
  · exact State.supCleared_of_active h
  · split
    · refine Basic.cleared.joinOutbound _ (Basic.cleared.notify _ (State.supCleared_of_active h))
    · exact State.settleSup_cleared

theorem Kept.cleared : Kept ⟨False, False⟩ (fun s => s.supCleared = true) where
  toBasic := Basic.cleared
  captures h _ := h
  forget {s} l h :=
    have hm := State.modHistory_others s (.lane l) (fun _ => []) (x := none)
    have hd : ((s.modHistory (.lane l) (fun _ => [])).dropLaneJobs l).others none = s.others none := hm
    (State.sameWatch_of_others (by simp) hd).cleared h
  complete h := Filed.cleared.completeJob h
  queue _ h _ := h
  send h := h
  writes h w := (State.sameWatch_of_lanes (congrArg State.chan w.rest :) (congrArg State.sup w.rest :)
    (congrArg State.lanes w.rest :)).cleared h
  chan {s} e moved h := State.periodChanged_cleared fun hp => by
    have hw := State.rejudgeLink_sameWatch (s := { s with chan := some e }) moved
    rw [State.supCleared, State.supActive_congr hp hw.remote, hw.sup]
    exact h
  supervise {s} p a h := State.periodChanged_cleared fun hp => by
    rw [State.supCleared, State.supActive_congr (s := s) hp fun _ => rfl]
    exact h
  calm {s} h := by
    rw [State.supCleared, Bool.or_eq_true] at h ⊢
    refine h.imp_right fun h => ?_
    simp only [Bool.and_eq_true] at h ⊢
    exact ⟨⟨h.1.1, rfl⟩, rfl⟩
  beat _ ha := State.supCleared_of_active ha
  expire _ _ ha := State.supExpire_cleared ha
  remote _ _ _ := State.settleSup_cleared
  softReset {s} h := by
    rw [State.supCleared, Bool.or_eq_true]
    exact .inr rfl
  configure h _ := h
  unconfigure h := h

/-- Settles O58: an arrival ends with its hold requests settled, and each change of what keeps the supervisor active settles
it. -/
theorem nothingLeftUnsettled : Obligations.NothingLeftUnsettled := by
  intro s t hholds hsup hstep
  rw [← State.settled_iff] at hholds ⊢
  have V := Kept.cleared.serves fun _ _ _ _ h => h
  exact ⟨Serves.settled.step_keeps hholds hstep (fun h => ⟨h.lane, h.group⟩) (State.settled_iff.mpr rfl),
    V.step_keeps hsup hstep (fun h => h) rfl⟩

end Sys2Proof.Machine
end

section
/-! What an event of one lane, or of a group, leaves of another lane: everything but its group items and the status of its
records. -/

namespace Sys2Proof.Machine

variable {s t u : State} {l m : LaneNo}

/-! ### Histories but for the status of their records -/

/-- A record without its status, which a skipped job changes (R97). -/
def WinRecord.noStatus (r : WinRecord) : WinRecord := { r with status := .pending }

/-- The history of a lane, the status of its records apart. -/
def State.pastOf (s : State) (l : LaneNo) : List WinRecord := (s.lane l).hist.map WinRecord.noStatus

theorem State.pastOf_modLane {f : Lane → Lane} (hf : (f (s.lane m)).hist = (s.lane m).hist) :
    (s.modLane m f).pastOf l = s.pastOf l := by
  rw [State.pastOf, State.lane_modLane]
  split
  · next e => rw [e, hf, State.pastOf]
  · rfl

theorem State.pastOf_modHistory (src : Source) {f : List WinRecord → List WinRecord}
    (hf : src = .lane l → ∀ h, (f h).map WinRecord.noStatus = h.map WinRecord.noStatus) :
    (s.modHistory src f).pastOf l = s.pastOf l := by
  cases src with
  | lane m =>
    rw [State.pastOf, State.modHistory, State.lane_modLane]
    split
    · next e => rw [hf (by rw [e]), e, State.pastOf]
    · rfl
  | group g => rfl

@[simp] theorem State.pastOf_notify (n : Notice) : (s.notify n).pastOf l = s.pastOf l := by
  unfold State.notify
  split <;> rfl

@[simp] theorem State.pastOf_placeCapture (c : CapEntry) : (s.placeCapture c).pastOf l = s.pastOf l := by
  unfold State.placeCapture
  split <;> rfl

theorem State.pastOf_skipWaiting (src : Source) : (s.skipWaiting src).pastOf l = s.pastOf l := by
  unfold State.skipWaiting
  split
  · rfl
  · refine (State.pastOf_modHistory src fun _ h => ?_).trans rfl
    rw [List.map_map]
    refine List.map_congr_left fun r _ => ?_
    simp only [Function.comp_apply, WinRecord.noStatus]
    split <;> rfl

theorem State.pastOf_startHead : s.startHead.pastOf l = s.pastOf l := by
  unfold State.startHead
  split
  · rfl
  · split <;> rfl

/-- R97: a posted job leaves the records of a lane alone, but for the status of one that it skips. -/
@[simp] theorem State.pastOf_postJob (src : Source) (number : FrameSeq) (serial errs bits : Nat) :
    (s.postJob src number serial errs bits).pastOf l = s.pastOf l := by
  refine State.pastOf_startHead.trans ?_
  change State.pastOf (if s.hasWaiting src then s.skipWaiting src else _) l = _
  split
  · exact State.pastOf_skipWaiting src
  · split
    · split
      · exact State.pastOf_skipWaiting _
      · rfl
    · rfl

/-- A lane's past is its own: the group aligner leaves it alone. -/
theorem GroupKept.past (l : LaneNo) (h : List WinRecord) : GroupKept ⟨False, False⟩ (fun s => s.pastOf l = h) where
  aware h := h.elim
  mem _ _ h := (State.pastOf_modLane rfl).trans h
  group h _ := h
  notify _ h := (State.pastOf_notify _).trans h
  serial h := h
  append h _ := h
  post _ _ _ _ _ h := (State.pastOf_postJob ..).trans h

/-- So does every measuring operation of another lane. -/
theorem Measured.past (hm : m ≠ l) (h : List WinRecord) : Measured ⟨False, False⟩ m (fun s => s.pastOf l = h) where
  toGroupKept := .past l h
  lane {s} f h hf := (State.pastOf_modLane hf.hist).trans h
  capture _ h := (State.pastOf_placeCapture _).trans h
  appendLane h _ := (State.pastOf_modHistory _ fun e => absurd (Source.lane.inj e) hm).trans h
  postLane _ _ _ _ h := (State.pastOf_postJob ..).trans h
  faults _ h := h
  suspects {s} b h := by
    rw [State.pastOf, State.markSuspects, State.lane, Eight.get_map]
    split <;> exact h

@[simp] theorem State.pastOf_groupRefresh : (s.groupRefresh m).pastOf l = s.pastOf l :=
  (GroupKept.past l _).groupRefresh m rfl

theorem State.pastOf_windowTick (hm : m ≠ l) : (s.windowTick m).pastOf l = s.pastOf l :=
  (Measured.past hm _).windowTick not_false rfl

theorem State.pastOf_requestHold : (s.requestHold m).pastOf l = s.pastOf l := by
  unfold State.requestHold
  split
  · rw [State.pastOf_groupRefresh]
    exact State.pastOf_modLane rfl
  · rfl

theorem State.pastOf_settleHold : (s.settleHold m).pastOf l = s.pastOf l := by
  unfold State.settleHold
  split
  · rw [State.pastOf_requestHold]
    exact State.pastOf_modLane rfl
  · rfl

/-- The hold requests of an arrival leave every history as it was. -/
@[simp] theorem State.pastOf_settleHolds : s.settleHolds.pastOf l = s.pastOf l :=
  State.forLanes_keeps (P := fun t => t.pastOf l = s.pastOf l) (f := fun l s => s.settleHold l)
    (fun _ h => State.pastOf_settleHold.trans h) rfl

/-- The last record of a lane's history, its status apart. -/
theorem State.last_of_pastOf (h : t.pastOf l = s.pastOf l) {r : WinRecord} (hr : (s.lane l).hist.getLast? = some r) :
    ∃ x, (t.lane l).hist.getLast? = some x ∧ x.noStatus = r.noStatus := by
  have h' := congrArg List.getLast? h
  rw [State.pastOf, State.pastOf, List.getLast?_map, List.getLast?_map, hr, Option.map_some, Option.map_eq_some_iff] at h'
  exact h'

/-! ### A lane while other lanes act -/

/-- From `s` to `t` the fixed fields stand, and of lane `l` everything but its group items and the status of its records. -/
structure State.Near (l : LaneNo) (s t : State) : Prop where
  fixed : t.fixed = s.fixed
  still : (t.lane l).still = (s.lane l).still
  past : t.pastOf l = s.pastOf l

theorem State.Near.refl : s.Near l s := ⟨rfl, rfl, rfl⟩

theorem State.Near.trans (h : s.Near l t) (k : t.Near l u) : s.Near l u :=
  ⟨k.fixed.trans h.fixed, k.still.trans h.still, k.past.trans h.past⟩

theorem State.Near.win (h : s.Near l t) : (t.lane l).win = (s.lane l).win := (congrArg Lane.win h.still :)
theorem State.Near.hold (h : s.Near l t) : (t.lane l).hold = (s.lane l).hold := (congrArg Lane.hold h.still :)
theorem State.Near.tick (h : s.Near l t) : t.tick = s.tick := (congrArg Fixed.tick h.fixed :)

theorem State.Near.laneDesc (h : s.Near l t) : t.laneDesc = s.laneDesc := (congrArg Fixed.laneDesc h.fixed :)

theorem State.Near.desc (h : s.Near l t) (m : LaneNo) : t.desc m = s.desc m := by
  rw [State.desc, h.laneDesc, State.desc]

theorem State.Near.counting (h : s.Near l t) : t.counting l = s.counting l := by
  rw [State.counting, h.hold, h.desc, State.counting]

/-- An operation of all lanes in turn, each of which leaves the others near: lane `l` takes its own turn in a state near the
first, and what follows is near what its turn gave. -/
theorem State.forLanes_near {f : LaneNo → State → State} (hf : ∀ {s : State} (m), m ≠ l → s.Near l (f m s)) :
    ∃ u, s.Near l u ∧ (f l u).Near l (s.forLanes f) := by
  have skip : ∀ (ls : List LaneNo), l ∉ ls → ∀ s : State, s.Near l (ls.foldl (fun s m => f m s) s) := by
    intro ls
    induction ls with
    | nil => exact fun _ _ => .refl
    | cons m ls ih =>
      intro hl s
      rw [List.mem_cons, not_or] at hl
      exact (hf m (Ne.symm hl.1)).trans (ih hl.2 _)
  have split : ∀ l : LaneNo, ∃ as bs, lanesAll = as ++ l :: bs ∧ l ∉ as ∧ l ∉ bs := by
    intro l
    obtain ⟨as, bs, e⟩ := List.append_of_mem (mem_lanesAll l)
    have hn : lanesAll.Nodup := by decide
    rw [e, List.nodup_middle, List.nodup_cons, List.mem_append, not_or] at hn
    exact ⟨as, bs, e, hn.1⟩
  obtain ⟨as, bs, e, ha, hb⟩ := split l
  refine ⟨as.foldl (fun s m => f m s) s, skip as ha s, ?_⟩
  have : s.forLanes f = bs.foldl (fun s m => f m s) (f l (as.foldl (fun s m => f m s) s)) := by
    unfold State.forLanes
    rw [e, List.foldl_append, List.foldl_cons]
  rw [this]
  exact skip bs hb _

theorem State.windowTick_near (hm : m ≠ l) : s.Near l (s.windowTick m) where
  fixed := State.windowTick_fixed s m
  still := (State.others_iff s (s.windowTick m) m).mp (State.windowTick_others s m) l (Ne.symm hm)
  past := State.pastOf_windowTick hm

end Sys2Proof.Machine
end

section
/-! A lane window as it closes: what counting leaves of it, the record it files, the window that follows. -/

namespace Sys2Proof.Machine

variable {s t : State} {l m : LaneNo}

/-- A window without what counted blocks change. -/
def Win.uncounted (w : Win) : Win := { w with counts := Counts.zero, errTag := none }

theorem Win.count_uncounted (w : Win) (c : Checked) : (w.count c).uncounted = w.uncounted := by
  unfold Win.count
  split <;> rfl

theorem State.win_of_others (h : t.others none = s.others none) (l : LaneNo) : (t.lane l).win = (s.lane l).win :=
  (congrArg Lane.win ((State.others_none_iff s t).mp h l) :)

theorem State.lane_win_modLane {f : Lane → Lane} (hf : (f (s.lane m)).win = (s.lane m).win) :
    ((s.modLane m f).lane l).win = (s.lane l).win := by
  rw [State.lane_modLane]
  split
  · next e => rw [hf, e]
  · rfl

@[simp] theorem State.win_notify (n : Notice) : ((s.notify n).lane l).win = (s.lane l).win :=
  State.win_of_others (State.notify_others ..) l

@[simp] theorem State.win_groupRefresh : ((s.groupRefresh m).lane l).win = (s.lane l).win :=
  State.win_of_others (State.groupRefresh_others ..) l

@[simp] theorem State.win_placeCapture (c : CapEntry) : ((s.placeCapture c).lane l).win = (s.lane l).win :=
  State.win_of_others (State.placeCapture_others ..) l

@[simp] theorem State.win_giveEntry (c : CapEntry) : ((s.giveEntry m c).lane l).win = (s.lane l).win := by
  unfold State.giveEntry
  split
  · exact State.win_placeCapture c
  · exact State.lane_win_modLane rfl

@[simp] theorem State.win_fireTrigger (q : Option FrameSeq) (p : Nat) (x : Tick) :
    ((s.fireTrigger m q p x).lane l).win = (s.lane l).win := by
  unfold State.fireTrigger
  dsimp only
  rw [State.win_notify, State.win_giveEntry]
  exact State.lane_win_modLane rfl

/-- A counted block changes of its lane's window the counts alone. -/
theorem State.countBlock_uncounted (c : Checked) :
    ((s.countBlock m c).lane l).win.uncounted = (s.lane l).win.uncounted := by
  have h1 : ((s.modLane m fun L => { L with win := L.win.count c, run := L.run.count c }).lane l).win.uncounted
      = (s.lane l).win.uncounted := by
    rw [State.lane_modLane]
    split
    · next e => rw [e]; exact Win.count_uncounted _ c
    · rfl
  have h2 := State.win_of_others (State.groupCount_others (x := none)
    (s.modLane m fun L => { L with win := L.win.count c, run := L.run.count c }) m c) l
  rw [← h1, ← h2]
  unfold State.countBlock
  generalize s.modLane m (fun L => { L with win := L.win.count c, run := L.run.count c }) = u
  refine congrArg Win.uncounted ?_
  refine ite_keeps_of (P := fun t => (t.lane l).win = ((u.groupCount m c).lane l).win)
    (fun h => (State.win_fireTrigger ..).trans h) ((State.lane_win_modLane rfl).trans ?_)
  exact ite_keeps_of (P := fun t => (t.lane l).win = ((u.groupCount m c).lane l).win)
    (fun h => (State.win_giveEntry _).trans h) rfl

theorem State.releaseRun_uncounted : ((s.releaseRun m).lane l).win.uncounted = (s.lane l).win.uncounted := by
  have key : ∀ (run : List RunItem) (s : State),
      ((run.foldl (State.releaseItem m) s).lane l).win.uncounted = (s.lane l).win.uncounted := by
    intro run
    induction run with
    | nil => exact fun _ => rfl
    | cons it run ih =>
      intro s
      rw [List.foldl_cons, ih]
      cases it with
      | heavy r => exact State.countBlock_uncounted r
      | entry c => exact congrArg Win.uncounted (State.win_placeCapture c)
  unfold State.releaseRun
  dsimp only
  split
  · rfl
  · rw [State.win_groupRefresh, key]
    exact congrArg Win.uncounted (State.lane_win_modLane rfl)

/-- A filed record stands at the end of its lane's history, its status apart. -/
theorem State.fileRecord_last {r : WinRecord} (hr : r.source = .lane l) (post note : Bool) :
    ∃ x, ((s.fileRecord r post note).lane l).hist.getLast? = some x ∧ x.noStatus = r.noStatus := by
  have h0 : ((s.modHistory r.source fun h => appendHistory h r).lane l).hist.getLast? = some r := by
    rw [hr, State.modHistory, State.lane_modLane, if_pos rfl]
    exact appendHistory_last _ r
  refine State.last_of_pastOf ?_ h0
  unfold State.fileRecord
  dsimp only
  split
  · rw [State.pastOf_notify]
    split
    · rw [State.pastOf_postJob]
    · rfl
  · split
    · rw [State.pastOf_postJob]
    · rfl

theorem State.fileRecord_win (r : WinRecord) (post note : Bool) :
    ((s.fileRecord r post note).lane l).win = (s.lane l).win :=
  State.win_of_others (State.fileRecord_others ..) l

/-- The state in which a closing window's record is made: the pending heavy run is released before, but at a restart. -/
def State.released (s : State) (l : LaneNo) (r : CloseReason) : State := if r = .restart then s else s.releaseRun l

theorem State.released_uncounted (r : CloseReason) : ((s.released l r).lane l).win.uncounted = (s.lane l).win.uncounted := by
  unfold State.released
  split
  · rfl
  · exact State.releaseRun_uncounted

theorem State.released_fixed (r : CloseReason) : (s.released l r).fixed = s.fixed := by
  unfold State.released
  split
  · rfl
  · exact State.releaseRun_fixed s l

/-- The state with the record of a closing window filed, the window itself ended. -/
def State.windowFiled (s : State) (l : LaneNo) (r : CloseReason) : State :=
  ({ s.released l r with serial := (s.released l r).serial + 1 }.fileRecord ((s.released l r).laneRecord l r)
    (r != CloseReason.restart) ((s.released l r).desc l).notices).modWin l (fun w => { w with isOpen := false })

/-- R82. -/
theorem State.closeWindow_of_open (h : (s.lane l).win.isOpen = true) (r : CloseReason) :
    s.closeWindow l r =
      if r == CloseReason.length && ((s.windowFiled l r).desc l).rep then (s.windowFiled l r).openWindow l
      else s.windowFiled l r := by
  unfold State.closeWindow
  rw [h, if_neg (by simp)]
  rfl

theorem State.closeWindow_of_closed (h : (s.lane l).win.isOpen = false) (r : CloseReason) : s.closeWindow l r = s := by
  unfold State.closeWindow
  rw [h, if_pos (by simp)]

theorem State.windowFiled_fixed (r : CloseReason) : (s.windowFiled l r).fixed = s.fixed :=
  (State.fileRecord_fixed ..).trans (State.released_fixed r)

theorem State.windowFiled_win (r : CloseReason) :
    ((s.windowFiled l r).lane l).win = { ((s.released l r).lane l).win with isOpen := false } := by
  rw [State.windowFiled, State.modWin, State.lane_modLane, if_pos rfl, State.fileRecord_win]
  rfl

theorem State.windowFiled_last (r : CloseReason) :
    ∃ x, ((s.windowFiled l r).lane l).hist.getLast? = some x ∧ x.noStatus = ((s.released l r).laneRecord l r).noStatus := by
  obtain ⟨x, hx, e⟩ := State.fileRecord_last (s := { s.released l r with serial := (s.released l r).serial + 1 }) (l := l)
    (r := (s.released l r).laneRecord l r) rfl (r != CloseReason.restart) ((s.released l r).desc l).notices
  exact State.last_of_pastOf (State.pastOf_modLane rfl) hx |>.imp fun y hy => ⟨hy.1, hy.2.trans e⟩

theorem State.desc_of_fixed (h : t.fixed = s.fixed) (l : LaneNo) : t.desc l = s.desc l := by
  rw [State.desc, show t.laneDesc = s.laneDesc from (congrArg Fixed.laneDesc h :), State.desc]

theorem State.tick_of_fixed (h : t.fixed = s.fixed) : t.tick = s.tick := (congrArg Fixed.tick h :)

/-- R83: what the record of a closing window says, its counts and status apart. -/
theorem State.closedRecord (r : CloseReason) {x : WinRecord}
    (hx : x.noStatus = ((s.released l r).laneRecord l r).noStatus) :
    x.number = (s.lane l).win.number ∧ x.reason = r ∧ x.openTick = (s.lane l).win.openTick ∧ x.closeTick = s.tick ∧
      x.frames = (s.lane l).win.frames := by
  have hw := State.released_uncounted (s := s) (l := l) r
  refine ⟨?_, ?_, ?_, ?_, ?_⟩
  · exact (congrArg WinRecord.number hx :).trans (congrArg Win.number hw :)
  · exact (congrArg WinRecord.reason hx :)
  · exact (congrArg WinRecord.openTick hx :).trans (congrArg Win.openTick hw :)
  · exact (congrArg WinRecord.closeTick hx :).trans (State.tick_of_fixed (State.released_fixed r))
  · exact (congrArg WinRecord.frames hx :).trans (congrArg Win.frames hw :)

/-- R82, R83: a window that closes with LENGTH files its record; a repeating one opens the next. -/
theorem State.closeWindow_length (hopen : (s.lane l).win.isOpen = true) :
    ((s.closeWindow l .length).lane l).win.isOpen = (s.desc l).rep ∧
    ((s.desc l).rep = true → ((s.closeWindow l .length).lane l).win.number = (s.lane l).win.nextNumber ∧
      ((s.closeWindow l .length).lane l).win.openTick = s.tick ∧ ((s.closeWindow l .length).lane l).win.ticks = 0 ∧
      ((s.closeWindow l .length).lane l).win.counts = Counts.zero) ∧
    ∃ r, ((s.closeWindow l .length).lane l).hist.getLast? = some r ∧ r.number = (s.lane l).win.number ∧
      r.reason = .length ∧ r.openTick = (s.lane l).win.openTick ∧ r.closeTick = s.tick ∧
      r.frames = (s.lane l).win.frames := by
  have hfix := State.windowFiled_fixed (s := s) (l := l) .length
  obtain ⟨x, hlast, hx⟩ := State.windowFiled_last (s := s) (l := l) .length
  have hrec := State.closedRecord .length hx
  have hnext : ((s.windowFiled l .length).lane l).win.nextNumber = (s.lane l).win.nextNumber := by
    rw [State.windowFiled_win]
    exact (congrArg Win.nextNumber (State.released_uncounted (s := s) (l := l) .length) :)
  rw [State.closeWindow_of_open hopen, State.desc_of_fixed hfix, beq_self_eq_true, Bool.true_and]
  cases hrep : (s.desc l).rep with
  | false =>
    rw [if_neg Bool.false_ne_true, State.windowFiled_win]
    exact ⟨rfl, fun h => absurd h Bool.false_ne_true, x, hlast, hrec⟩
  | true =>
    rw [if_pos rfl, State.openWindow, State.modWin, State.lane_modLane, if_pos rfl]
    exact ⟨rfl, fun _ => ⟨hnext, State.tick_of_fixed hfix, rfl, rfl⟩, x, hlast, hrec⟩

end Sys2Proof.Machine
end

section
/-! A tick arrival (O4): what it counts, and that the tick counter moves at no other event. -/

namespace Sys2Proof.Machine

variable {s t u : State} {l m : LaneNo}

/-! ### The supervisor at a tick -/

/-- The fixed fields but for the settings of the marker channel, the channel and the supervisor. -/
def Fixed.unsupervised (f : Fixed) : Fixed := { f with chan := none, link := Link.reset, sup := Supervisor.reset }

theorem State.joinOutbound_unsupervised (r : PeerRec) :
    (s.joinOutbound r).fixed.unsupervised = s.fixed.unsupervised := by
  unfold State.joinOutbound
  split <;> rfl

theorem State.releaseLane_fixed : (State.releaseLane l s).fixed = s.fixed := by
  have h1 : (match (s.lane l).remote.echoSet with
      | none => s
      | some m => s.modTx l (Tx.askMode m)).fixed = s.fixed := by
    split <;> rfl
  exact ite_keeps_of (P := fun t => (t.modLane l fun L => { L with remote := RemoteActs.reset }).fixed = s.fixed)
    (fun h => (State.stopChecker_fixed _ l).trans h) (ite_keeps_of (P := fun t => t.fixed = s.fixed) (fun h => h) h1)

theorem State.supAct_fixed (a : SupAction) : (s.supAct a).fixed = s.fixed := by
  cases a with
  | none => rfl
  | release => exact State.forLanes_fixed _ (fun _ _ => State.releaseLane_fixed) s
  | hold =>
    refine State.forLanes_fixed _ (fun l s => ?_) s
    unfold State.holdRemote
    split
    · exact State.requestHold_fixed s l
    · rfl

theorem State.settleSup_unsupervised : s.settleSup.fixed.unsupervised = s.fixed.unsupervised := by
  unfold State.settleSup
  split <;> rfl

theorem State.supTakeAction_unsupervised : s.supTakeAction.fixed.unsupervised = s.fixed.unsupervised := by
  unfold State.supTakeAction
  dsimp only
  rw [State.settleSup_unsupervised, State.notify_fixed]
  exact (congrArg Fixed.unsupervised (State.supAct_fixed s.supAction) :)

theorem State.supExpire_unsupervised : s.supExpire.fixed.unsupervised = s.fixed.unsupervised := by
  unfold State.supExpire
  dsimp only
  split
  · rfl
  · split
    · unfold State.supWarn
      dsimp only
      rw [State.joinOutbound_unsupervised, State.notify_fixed]
      rfl
    · exact State.supTakeAction_unsupervised

theorem State.supTick_unsupervised : s.supTick.fixed.unsupervised = s.fixed.unsupervised := by
  unfold State.supTick
  split
  · exact State.supExpire_unsupervised
  · split <;> rfl

/-! ### The arrival, part by part -/

/-- The part after the windows have been reached by a tick. -/
def State.windowsTicked (s : State) : State := { s with tick := s.tick + 1 }.forLanes fun l s => s.windowTick l

theorem State.windowsTicked_fixed : s.windowsTicked.fixed = ({ s with tick := s.tick + 1 } : State).fixed :=
  State.forLanes_fixed _ (fun l s => State.windowTick_fixed s l) _

/-- The part after the injection channels have been reached too. -/
def State.channelsTicked (s : State) : State := { s.windowsTicked with inj := s.windowsTicked.inj.map InjChan.onTick }

theorem exec_tickArrival : exec .tickArrival s = .next s.channelsTicked.supTick.settleHolds := rfl

/-- The windows of all lanes are reached in turn; lane `l` in a state that is near the one before the arrival. -/
theorem State.windowsTicked_near (l : LaneNo) :
    ∃ u, ({ s with tick := s.tick + 1 } : State).Near l u ∧ (u.windowTick l).Near l s.windowsTicked :=
  State.forLanes_near fun _ hm => State.windowTick_near hm

theorem State.SameWatch.trans (h : s.SameWatch t) (k : t.SameWatch u) : s.SameWatch u :=
  ⟨k.chan.trans h.chan, k.sup.trans h.sup, fun l => (k.remote l).trans (h.remote l)⟩

/-- A measuring operation leaves what the supervisor watches. -/
theorem Measured.sameWatch (s : State) (m : LaneNo) : Measured ⟨False, False⟩ m s.SameWatch where
  aware h := h.elim
  mem _ _ h := h.trans (State.modLane_sameWatch rfl)
  group h _ := h.trans ⟨rfl, rfl, fun _ => rfl⟩
  notify _ h := h.trans (State.sameWatch_of_others (by simp) (by simp))
  serial h := h.trans ⟨rfl, rfl, fun _ => rfl⟩
  append h _ := h.trans (State.sameWatch_of_others (by simp) (by simp))
  post _ _ _ _ _ h := h.trans (State.sameWatch_of_others (by simp) (by simp))
  lane h hf := h.trans (State.modLane_sameWatch hf.remote)
  capture _ h := h.trans (State.sameWatch_of_others (by simp) (by simp))
  appendLane h _ := h.trans (State.sameWatch_of_others (by simp) (by simp))
  postLane _ _ _ _ h := h.trans (State.sameWatch_of_others (by simp) (by simp))
  faults _ h := h.trans ⟨rfl, rfl, fun _ => rfl⟩
  suspects b h := h.trans ⟨rfl, rfl, fun l => by
    rw [State.markSuspects, State.lane, Eight.get_map]
    split <;> rfl⟩

theorem State.channelsTicked_sameWatch : s.SameWatch s.channelsTicked := by
  have h : s.SameWatch s.windowsTicked :=
    State.forLanes_keeps (fun l h => (Measured.sameWatch s l).windowTick not_false h) ⟨rfl, rfl, fun _ => rfl⟩
  exact h.trans ⟨rfl, rfl, fun _ => rfl⟩

theorem State.SameWatch.active (h : s.SameWatch t) : t.supActive = s.supActive :=
  State.supActive_congr (by rw [State.supPeriod, h.chan, State.supPeriod]) h.remote

theorem State.SameWatch.period (h : s.SameWatch t) : t.supPeriod = s.supPeriod := by
  rw [State.supPeriod, h.chan, State.supPeriod]

theorem State.SameWatch.due (h : s.SameWatch t) : t.supDue = s.supDue := by
  rw [State.supDue, h.active, h.period, h.sup, State.supDue]

theorem State.sup_settleHolds : s.settleHolds.sup = s.sup := (congrArg Fixed.sup (State.settleHolds_fixed s) :)
theorem State.inj_settleHolds : s.settleHolds.inj = s.inj := (congrArg Fixed.inj (State.settleHolds_fixed s) :)

/-! ### What an arrival leaves of the fixed fields -/

theorem State.tickArrival_unsupervised :
    s.channelsTicked.supTick.settleHolds.fixed.unsupervised
      = ({ s with tick := s.tick + 1, inj := s.inj.map InjChan.onTick } : State).fixed.unsupervised := by
  have hinj : s.windowsTicked.inj = s.inj := (congrArg Fixed.inj s.windowsTicked_fixed :)
  rw [State.settleHolds_fixed, State.supTick_unsupervised]
  have h := congrArg (fun f : Fixed => { f.unsupervised with inj := s.inj.map InjChan.onTick }) s.windowsTicked_fixed
  rw [State.channelsTicked, hinj]
  exact (h :)

theorem State.inj_tickArrival : s.channelsTicked.supTick.settleHolds.inj = s.inj.map InjChan.onTick :=
  (congrArg Fixed.inj s.tickArrival_unsupervised :)

theorem InjChan.onTick_still {ch : InjChan}
    (h : ch.state = .idle ∨ ∀ n, ch.settings.map InjSettings.source ≠ some (.ticks n)) : ch.onTick = ch := by
  unfold InjChan.onTick
  split
  · rfl
  · next n _ hsrc hst =>
    rcases h with h | h
    · exact absurd h hst
    · exact absurd hsrc (h _)
  · rfl

theorem InjChan.onTick_counts {ch : InjChan} {n : Nat} (hst : ch.state ≠ .idle)
    (hsrc : ch.settings.map InjSettings.source = some (.ticks n)) : ch.onTick = ch.countActivation n := by
  unfold InjChan.onTick
  rw [hsrc]
  split
  · contradiction
  · next n' _ e _ =>
    cases e
    rfl
  · next h => exact absurd rfl (h n)

theorem InjChan.activate_eq (ch : InjChan) :
    ch.activate = { ch with state := if ch.state = .waiting then .active else ch.state } := by
  unfold InjChan.activate
  split <;> rfl

/-! ### The window of a lane at a tick -/

theorem State.win_requestHold : ((s.requestHold m).lane l).win = (s.lane l).win := by
  unfold State.requestHold
  split
  · rw [State.win_groupRefresh]
    exact State.lane_win_modLane rfl
  · rfl

@[simp] theorem State.win_settleHolds : (s.settleHolds.lane l).win = (s.lane l).win := by
  refine State.forLanes_keeps (P := fun t => (t.lane l).win = (s.lane l).win) (f := fun l s => s.settleHold l)
    (fun m h => ?_) rfl
  refine ite_keeps (P := fun t => (t.lane l).win = (s.lane l).win) (fun _ => ?_) fun _ => h
  rw [State.win_requestHold, State.lane_win_modLane rfl, h]

/-- Without an expiry of the supervisor an arrival leaves each lane as its windows' ticks do. -/
theorem State.lane_supTick (h : s.supDue = false) : s.supTick.lane l = s.lane l := by
  unfold State.supTick
  rw [h, if_neg Bool.false_ne_true]
  split <;> rfl

theorem State.tickArrival_lane (hdue : s.supDue = false) :
    (s.channelsTicked.supTick.settleHolds.lane l).win = (s.windowsTicked.lane l).win ∧
      s.channelsTicked.supTick.settleHolds.pastOf l = s.windowsTicked.pastOf l := by
  have h := State.lane_supTick (l := l) (State.channelsTicked_sameWatch.due.trans hdue)
  refine ⟨?_, ?_⟩
  · rw [State.win_settleHolds, h]
    rfl
  · rw [State.pastOf_settleHolds, State.pastOf, h]
    rfl

theorem State.windowTick_of_still (h : (s.lane l).win.isOpen = false ∨ s.counting l = false) : s.windowTick l = s := by
  unfold State.windowTick
  rcases h with h | h <;> rw [h] <;> simp

theorem State.windowTick_of_counting (hopen : (s.lane l).win.isOpen = true) (hc : s.counting l = true) :
    s.windowTick l =
      if (s.modWin l Win.addTick).ticksDue l then (s.modWin l Win.addTick).closeWindow l .length
      else s.modWin l Win.addTick := by
  unfold State.windowTick
  rw [hopen, hc, Bool.and_self, if_pos rfl]

theorem State.lane_modWin_same (f : Win → Win) : ((s.modWin l f).lane l).win = f (s.lane l).win := by
  rw [State.modWin, State.lane_modLane, if_pos rfl]

theorem State.ticksDue_addTick_of_lt (h : ∀ n, (s.desc l).spec = .ticks n → (s.lane l).win.ticks + 1 < n) :
    (s.modWin l Win.addTick).ticksDue l = false := by
  unfold State.ticksDue
  rw [State.lane_modWin_same]
  split
  · next n hn =>
    have := h n hn
    exact decide_eq_false fun hle => absurd (hle.trans (Nat.min_le_left _ _)) (by simpa using this)
  · rfl

theorem State.ticksDue_addTick_of_le {n : Nat} (hspec : (s.desc l).spec = .ticks n)
    (hle : n ≤ (s.lane l).win.ticks + 1) (hmax : n ≤ 16777215) : (s.modWin l Win.addTick).ticksDue l = true := by
  have hs : ((s.modWin l Win.addTick).desc l).spec = .ticks n := hspec
  unfold State.ticksDue
  rw [State.lane_modWin_same, hs]
  exact decide_eq_true (Nat.le_min.mpr ⟨hle, hmax.trans (by decide)⟩)

/-- Settles O4: the arrival is its windows' ticks, its channels' and its supervisor's; no other row but a hard reset writes the
counter. -/
theorem onlyTicksMoveTickCounter : Obligations.OnlyTicksMoveTickCounter := by
  refine ⟨fun s => ?_, ?_, ?_, ?_, ?_⟩
  · have h := s.tickArrival_unsupervised
    refine ⟨_, exec_tickArrival, (congrArg Fixed.tick h :), ?_⟩
    exact (congrArg (fun f : Fixed => { f with tick := s.tick, inj := s.inj, chan := s.chan, link := s.link, sup := s.sup }) h :)
  · intro c s t hc hr h
    have V : Serves ⟨False, False⟩ (fun u => u.tick = s.tick) fun u => u.tick = s.tick :=
      .of_stored (fun h e => (congrArg State.tick e :).trans h) (fun h w => (congrArg State.tick w.rest :).trans h)
        (fun h _ => h) (fun h _ => h) fun h => h
    exact V.exec_keeps c hc hr rfl t h
  · intro s t l h hdue
    cases exec_tickArrival.symm.trans h
    obtain ⟨hwin, hpast⟩ := State.tickArrival_lane (l := l) hdue
    obtain ⟨u, hu, hv⟩ := s.windowsTicked_near l
    have huwin : (u.lane l).win = (s.lane l).win := hu.win
    have hucount : u.counting l = s.counting l := hu.counting
    have hudesc : u.desc l = s.desc l := hu.desc l
    rw [hwin, hv.win]
    refine ⟨fun hstill => ?_, fun hopen hcount => ⟨fun hnot => ?_, fun n hspec hle hmax => ?_⟩⟩
    · rw [← huwin, ← hucount] at hstill
      rw [State.windowTick_of_still hstill, huwin]
    · rw [← huwin] at hopen ⊢
      rw [State.windowTick_of_counting hopen (hucount.trans hcount), if_neg, State.lane_modWin_same]
      · rfl
      · rw [Bool.not_eq_true]
        exact State.ticksDue_addTick_of_lt fun n hn => by
          rw [huwin]
          exact hnot n (hudesc ▸ hn)
    · rw [← huwin] at hopen hle ⊢
      have hdue : (u.modWin l Win.addTick).ticksDue l = true := State.ticksDue_addTick_of_le (hudesc ▸ hspec) hle hmax
      rw [State.windowTick_of_counting hopen (hucount.trans hcount), if_pos hdue] at hv ⊢
      have hopen' : ((u.modWin l Win.addTick).lane l).win.isOpen = true := by
        rw [State.lane_modWin_same]
        exact hopen
      obtain ⟨h1, h2, r, hlast, hnum, hreas, hot, hct, hfr⟩ := State.closeWindow_length hopen'
      have hd : (u.modWin l Win.addTick).desc l = s.desc l := hudesc
      have ht : (u.modWin l Win.addTick).tick = s.tick + 1 := hu.tick
      rw [hd, ht] at h2
      rw [hd] at h1
      rw [ht] at hct
      rw [State.lane_modWin_same] at h2 hnum hot hfr
      obtain ⟨x, hx, e⟩ := State.last_of_pastOf (hpast.trans hv.past) hlast
      refine ⟨h1, h2, x, hx, ?_, ?_, ?_, ?_, ?_⟩
      · exact (congrArg WinRecord.number e :).trans hnum
      · exact (congrArg WinRecord.reason e :).trans hreas
      · exact (congrArg WinRecord.openTick e :).trans hot
      · exact (congrArg WinRecord.closeTick e :).trans hct
      · exact (congrArg WinRecord.frames e :).trans hfr
  · intro s t c h
    cases exec_tickArrival.symm.trans h
    rw [State.inj_tickArrival, Four.get_map]
    refine ⟨InjChan.onTick_still, fun n hst hsrc => ?_⟩
    rw [InjChan.onTick_counts hst hsrc]
    unfold InjChan.countActivation
    refine ⟨fun hlt => if_pos hlt, fun hle => ?_⟩
    rw [if_neg (by omega), InjChan.activate_eq]
  · intro s t h
    cases exec_tickArrival.symm.trans h
    have hw := s.channelsTicked_sameWatch
    rw [State.sup_settleHolds, ← hw.active, ← hw.period, ← hw.sup]
    generalize s.channelsTicked = u
    unfold State.supTick State.supDue
    refine ⟨fun ha => ?_, fun ha hlt => ?_, fun ha hle harm => ?_⟩
    · simp [ha]
    · rw [ha, Bool.true_and, if_neg (by simpa using hlt), if_pos rfl]
    · rw [ha, Bool.true_and, if_pos (by simpa using hle)]
      simp [State.supExpire, harm]

end Sys2Proof.Machine
end

section
/-! LOCAL commands of a CONFIGURED part, answered: one lemma for each shape of command. -/

namespace Sys2Proof.Machine

variable {s t : State} {rest : List CmdRec} {code tag target : Octet} {l : LaneNo} {body : List Block}

/-- A reply whose state has the command queue and the wait of the state in which its command was taken. -/
theorem Reply.give_of_takes {r : CmdRec} (h : s.takes r rest) (hr : r.origin = .localPort) {a : Reply}
    (hq : a.s.cmdQ = s.cmdQ) (hw : a.s.waiting = s.waiting) : a.give r = a.s.answered r rest a.status a.body :=
  Reply.give_answered hr (hq.trans h.2.2) (hw.trans h.1)

theorem State.cmdQ_of_fixed (h : t.fixed = s.fixed) : t.cmdQ = s.cmdQ := (congrArg Fixed.cmdQ h :)
theorem State.waiting_of_fixed (h : t.fixed = s.fixed) : t.waiting = s.waiting := (congrArg Fixed.waiting h :)

/-- A command with parameters, or with none, whose row is named by its code. -/
theorem State.answer_command {τ β : Type} {free : Bool} {tgt : Nat → Option τ} {x : τ} {read : CmdRec → Option β} {b : β}
    {own : CmdRec → τ → β → Reply} (h : s.takes (localCmd code tag target body) rest)
    (hc : s.configured = true ∨ free = true) (ht : tgt target.toNat = some x)
    (hb : read (localCmd code tag target body) = some b) {st : Status} {bd : Body}
    (hown : own (localCmd code tag target body) x b = ⟨t, st, bd⟩)
    (hq : t.cmdQ = s.cmdQ := by rfl) (hw : t.waiting = s.waiting := by rfl) :
    Host.Outcome.next (s.command code free tgt read own)
      = (.next (t.answered (localCmd code tag target body) rest st bd) : Out) := by
  rw [State.command_own h hc ht hb own, hown]
  exact congrArg _ (Reply.give_of_takes h rfl hq hw)

theorem State.answer_lane {own : CmdRec → LaneNo → Reply} (hc : s.configured = true)
    (h : s.takes (localCmd code tag (laneOctet l) []) rest) {st : Status} {bd : Body}
    (hown : own (localCmd code tag (laneOctet l) []) l = ⟨t, st, bd⟩)
    (hq : t.cmdQ = s.cmdQ := by rfl) (hw : t.waiting = s.waiting := by rfl) :
    Host.Outcome.next (s.laneCommand code own)
      = (.next (t.answered (localCmd code tag (laneOctet l) []) rest st bd) : Out) :=
  State.answer_command h (.inl hc) (x := l) (by simp) (b := ()) rfl hown hq hw

theorem State.answer_group {own : GroupId → Reply} {g : GroupId} (hc : s.configured = true)
    (h : s.takes (localCmd code tag (groupOctet g) []) rest) {st : Status} {bd : Body} (hown : own g = ⟨t, st, bd⟩)
    (hq : t.cmdQ = s.cmdQ := by rfl) (hw : t.waiting = s.waiting := by rfl) :
    Host.Outcome.next (s.groupCommand code own)
      = (.next (t.answered (localCmd code tag (groupOctet g) []) rest st bd) : Out) :=
  State.answer_command h (.inl hc) (x := g) (by simp) (b := ()) rfl hown hq hw

theorem State.answer_chan {own : ChanNo → Reply} {c : ChanNo} (hc : s.configured = true)
    (h : s.takes (localCmd code tag (fourOctet c) []) rest) {st : Status} {bd : Body} (hown : own c = ⟨t, st, bd⟩)
    (hq : t.cmdQ = s.cmdQ := by rfl) (hw : t.waiting = s.waiting := by rfl) :
    Host.Outcome.next (s.chanCommand code own)
      = (.next (t.answered (localCmd code tag (fourOctet c) []) rest st bd) : Out) :=
  State.answer_command h (.inl hc) (x := c) (by simp) (b := ()) rfl hown hq hw

/-- A WRITE_ENTRY of the row's own table. -/
theorem State.answer_write {α : Type} {table : Nat} {write : Nat → α → Status × State} {a : WriteArg α}
    (hc : s.configured = true) (hb : body ≠ []) (h : s.takes (localCmd 0x05 tag target body) rest)
    (ht : target.toNat = table) (hn : table < 10) {st : Status} (hw : write a.index a.entry = (st, t))
    (hq : t.cmdQ = s.cmdQ := by rfl) (hwait : t.waiting = s.waiting := by rfl) :
    Host.Outcome.next (s.writeCommand table (.params a) write)
      = (.next (t.answered (localCmd 0x05 tag target body) rest st .empty) : Out) := by
  rw [State.writeCommand_own hc hb ht hn h a write, hw]
  exact congrArg _ (Reply.give_of_takes h rfl hq hwait)

/-- A command whose row needs a body of another length. -/
theorem State.answer_badLength {τ β : Type} {free : Bool} {tgt : Nat → Option τ} {x : τ} {read : CmdRec → Option β}
    {own : CmdRec → τ → β → Reply} (h : s.takes (localCmd code tag target body) rest)
    (hc : s.configured = true ∨ free = true) (ht : tgt target.toNat = some x)
    (hb : read (localCmd code tag target body) = none) :
    Host.Outcome.next (s.command code free tgt read own)
      = (.next (s.answered (localCmd code tag target body) rest .badLength .empty) : Out) := by
  have hc' : ¬(!s.configured && !free) = true := by rcases hc with h | h <;> simp [h]
  have ht' : tgt (localCmd code tag target body).target.toNat = some x := ht
  have hj : s.judgeCommand (localCmd code tag target body) free tgt read own = Reply.of s .badLength := by
    unfold State.judgeCommand
    rw [ht']
    dsimp only
    rw [if_neg hc', if_neg (by simp [localCmd]), hb]
  have e := State.command_of_takes h free tgt read own
  refine congrArg _ (e.trans ?_)
  rw [hj]
  exact Reply.give_of_takes h rfl rfl rfl

theorem bodyOf_wrongLength {α : Type} (r : CmdRec) : bodyOf (.wrongLength : BodyReading α) r = none := by
  unfold bodyOf
  split <;> rfl

/-! ### One lane, one channel replaced -/

theorem State.modLane_eq_putLane (f : Lane → Lane) : s.modLane l f = s.putLane l (f (s.lane l)) := rfl

theorem State.putLane_self : s.putLane l (s.lane l) = s := by
  rw [State.putLane, State.lane, Eight.set_get]

theorem State.modLane_modLane (f g : Lane → Lane) : (s.modLane l f).modLane l g = s.modLane l fun L => g (f L) := by
  simp only [State.modLane, State.lane, Eight.get_set, if_true, Eight.set_set]

theorem State.modInj_eq_putInj (c : ChanNo) (f : InjChan → InjChan) : s.modInj c f = s.putInj c (f (s.inj.get c)) := rfl

theorem State.modInj_modInj (c : ChanNo) (f g : InjChan → InjChan) :
    (s.modInj c f).modInj c g = s.modInj c fun ch => g (f ch) := by
  simp only [State.modInj, Four.get_set, if_true, Four.set_set]

theorem State.putInj_self (c : ChanNo) : s.putInj c (s.inj.get c) = s := by
  rw [State.putInj, Four.set_get]

theorem State.modTx_modRemote (f : Tx → Tx) (g : RemoteActs → RemoteActs) :
    (s.modTx l f).modRemote l g =
      (s.putLane l { s.lane l with tx := f (s.lane l).tx, remote := g (s.lane l).remote }).settleSup := by
  rw [State.modTx, State.modRemote, State.modLane_modLane]
  rfl

theorem State.settleSup_cmdQ : s.settleSup.cmdQ = s.cmdQ := by
  unfold State.settleSup
  split <;> rfl

theorem State.settleSup_waiting : s.settleSup.waiting = s.waiting := by
  unfold State.settleSup
  split <;> rfl

/-! ### Transmit commands -/

theorem State.startTx_idle (r : CmdRec) (h : (s.lane l).tx.state = .idle) :
    s.startTx r l = Reply.ok (s.putLane l { s.lane l with
      tx := { (s.lane l).tx with pendStart := true }
      remote := { (s.lane l).remote with txStarted := r.origin == .remote } }).settleSup := by
  unfold State.startTx
  rw [h]
  exact congrArg Reply.ok (State.modTx_modRemote _ _)

theorem State.startTx_running (r : CmdRec) (h : (s.lane l).tx.state = .running) :
    s.startTx r l = Reply.of s .busy := by
  unfold State.startTx
  rw [h]

theorem Tx.askStop_eq (t : Tx) :
    t.askStop = if t.state = .idle then { t with pendStart := false } else { t with pendStop := true } := by
  unfold Tx.askStop
  cases t.state <;> rfl

theorem State.stopTx_eq :
    s.stopTx l = (s.putLane l { s.lane l with
      tx := if (s.lane l).tx.state = .idle then { (s.lane l).tx with pendStart := false }
        else { (s.lane l).tx with pendStop := true }
      remote := { (s.lane l).remote with txStarted := false } }).settleSup := by
  rw [State.stopTx, State.modTx_modRemote, Tx.askStop_eq]

theorem State.setTxMode_local {r : CmdRec} (hr : r.origin = .localPort) (m : TxMode) :
    s.setTxMode r l (some m) = Reply.ok (s.putLane l { s.lane l with
      tx := { (s.lane l).tx with pendMode := some m }
      remote := { (s.lane l).remote with echoSet := none } }).settleSup := by
  refine congrArg Reply.ok ((State.modTx_modRemote _ _).trans ?_)
  simp [echoAfter, hr, Tx.askMode]

/-- Settles O14: the three commands write what is pending and take back their entry of the remote action set. -/
theorem transmitCommandsSetPending : Obligations.TransmitCommandsSetPending := by
  intro s rest tag l hc
  refine ⟨fun h => ⟨fun hst => ?_, fun hst => ?_⟩, fun h => ?_, fun body hb h => ⟨fun m => ?_, ?_, ?_⟩⟩
  · exact State.answer_lane hc h (State.startTx_idle _ hst) State.settleSup_cmdQ State.settleSup_waiting
  · exact State.answer_lane hc h (State.startTx_running _ hst)
  · exact State.answer_lane hc h (congrArg Reply.ok State.stopTx_eq) State.settleSup_cmdQ State.settleSup_waiting
  · exact State.answer_command h (.inl hc) (x := l) (by simp) (bodyOf_params (some m) hb) (State.setTxMode_local rfl m)
      State.settleSup_cmdQ State.settleSup_waiting
  · exact State.answer_command h (.inl hc) (x := l) (by simp) (bodyOf_params none hb) rfl
  · exact State.answer_badLength h (.inl hc) (x := l) (by simp) (bodyOf_wrongLength _)

/-! ### Injection channels -/

theorem isContinuous_eq (src : InjSource) : isContinuous src = decide (src = .continuous) := by
  cases src <;> rfl

theorem InjChan.sourceIs_continuous (ch : InjChan) :
    ch.sourceIs isContinuous = decide (ch.settings.map InjSettings.source = some .continuous) := by
  unfold InjChan.sourceIs
  cases ch.settings with
  | none => rfl
  | some p => simp [isContinuous_eq]

/-- R114: a channel that enters WAITING is ACTIVE at once with source CONTINUOUS. -/
theorem InjChan.toWaiting_eq (ch : InjChan) :
    ch.toWaiting = { ch with
      state := if ch.settings.map InjSettings.source = some .continuous then .active else .waiting } := by
  unfold InjChan.toWaiting
  dsimp only
  rw [InjChan.sourceIs_continuous]
  by_cases h : ch.settings.map InjSettings.source = some .continuous <;> simp [h, InjChan.activate]

theorem InjChan.arm_eq (p : InjSettings) (sched : Nat → SchedEntry) :
    InjChan.arm p sched =
      { state := if p.source = .continuous then .active else .waiting, settings := some p, remaining := p.count,
        actCount := 0, rateLeft := p.rateK, entry := p.schedFirst, gap := (sched p.schedFirst).gap,
        blocks := (sched p.schedFirst).blocks, runOver := false, resume := .waiting, deferred := Eight.all none } := by
  unfold InjChan.arm
  rw [InjChan.toWaiting_eq]
  simp [InjChan.reset]

theorem countIn_eq_some {top n k : Nat} : countIn top n = some k ↔ k = max n 1 ∧ n ≤ top := by
  unfold countIn
  split
  · simp only [reduceCtorEq, false_iff, not_and]
    omega
  · rw [Option.some_inj]
    constructor
    · rintro rfl
      exact ⟨rfl, by omega⟩
    · exact fun h => h.1.symm

theorem guardSome_eq_some {α : Type} {p : Bool} {x y : α} : guardSome p x = some y ↔ p = true ∧ x = y := by
  unfold guardSome
  cases p <;> simp

theorem inRange_iff (src : InjSource) :
    InjSource.inRange src = true ↔ (∀ n, src = .ticks n → 1 ≤ n ∧ n ≤ 65535) ∧ ∀ n, src = .frames n → 1 ≤ n ∧ n ≤ 65535 := by
  cases src <;> simp [InjSource.inRange]

/-- R112: the settings an ARM_CHANNEL loads, and what it is refused for. -/
theorem ArmArg.settings_eq_some (a : ArmArg) (p : InjSettings) :
    ArmArg.settings a = some p ↔
      a.mode = some p.mode ∧ a.kind = some p.kind ∧ a.source = some p.source ∧ a.notify = some p.notify ∧
      a.targets = p.targets ∧ a.pos = p.pos ∧ a.count = p.count ∧ a.schedFirst = p.schedFirst ∧
      a.schedLast = p.schedLast ∧ p.bits = max a.bits 1 ∧ p.rateK = max a.rateK 1 ∧
      (∃ l, a.targets.get l = true) ∧ a.bits ≤ 64 ∧ a.pos ≤ 63 ∧ a.count ≤ 16777215 ∧ a.rateK ≤ 16777215 ∧
      a.schedFirst ≤ a.schedLast ∧ a.schedLast ≤ 63 ∧
      (∀ n, p.source = .ticks n → 1 ≤ n ∧ n ≤ 65535) ∧ (∀ n, p.source = .frames n → 1 ≤ n ∧ n ≤ 65535) := by
  unfold ArmArg.settings
  simp only [Option.bind_eq_bind, Option.bind_eq_some_iff, countIn_eq_some, guardSome_eq_some, Option.filter_eq_some_iff,
    Bool.and_eq_true, decide_eq_true_eq, lanesAll_any, inRange_iff]
  constructor
  · rintro ⟨mode, hmode, kind, hkind, bits, ⟨rfl, hbits⟩, src, ⟨hsrc, hrange⟩, k, ⟨rfl, hk⟩, note, hnote,
      ⟨⟨⟨⟨hlane, hpos⟩, hcount⟩, hfirst⟩, hlast⟩, rfl⟩
    exact ⟨hmode, hkind, hsrc, hnote, rfl, rfl, rfl, rfl, rfl, rfl, rfl, hlane, hbits, hpos, hcount, hk, hfirst, hlast,
      hrange⟩
  · rintro ⟨hmode, hkind, hsrc, hnote, htarget, hpos', hcount', hfirst', hlast', hbits', hk', hlane, hbits, hpos, hcount,
      hk, hfirst, hlast, hrange⟩
    refine ⟨_, hmode, _, hkind, _, ⟨rfl, hbits⟩, _, ⟨hsrc, hrange⟩, _, ⟨rfl, hk⟩, _, hnote,
      ⟨⟨⟨⟨hlane, hpos⟩, hcount⟩, hfirst⟩, hlast⟩, ?_⟩
    rw [htarget, hpos', hcount', hfirst', hlast', ← hbits', ← hk']

/-- Settles O16: a refused setting, a channel at work or the QUIET pin refuse; else the channel is armed. -/
theorem armChannelLoads : Obligations.ArmChannelLoads := by
  refine ⟨fun s rest tag c body a hc hb h => ?_, ArmArg.settings_eq_some⟩
  have answer : ∀ {t : State} {st : Status}, s.armChannel c a = ⟨t, st, .empty⟩ → t.cmdQ = s.cmdQ → t.waiting = s.waiting →
      exec (.armChannel (.params a)) s = .next (t.answered (localCmd 0x18 tag (fourOctet c) body) rest st .empty) :=
    fun ha hq hw => State.answer_command h (.inl hc) (tgt := fourOf) (x := c) (by simp) (bodyOf_params a hb) ha hq hw
  unfold State.armChannel at answer
  refine ⟨fun hnone => answer ?_ rfl rfl, fun p hp => ⟨fun hbusy => answer ?_ rfl rfl, fun hidle hquiet => answer ?_ rfl rfl⟩⟩
  · rw [hnone]
    rfl
  · rw [hp]
    exact if_pos hbusy
  · rw [hp]
    refine (if_neg ?_).trans (congrArg Reply.ok (congrArg (s.putInj c) (InjChan.arm_eq p s.schedAt)))
    simp [hidle, hquiet]

theorem InjChan.resumeRun_suspended {ch : InjChan} (h : ch.state = .suspended) :
    ch.resumeRun = { ch with
      state := if ch.resume = .active ∨ ch.settings.map InjSettings.source = some .continuous then .active
        else .waiting } := by
  unfold InjChan.resumeRun
  rw [h]
  cases hr : ch.resume with
  | waiting =>
    dsimp only
    rw [InjChan.toWaiting_eq]
    simp [hr]
  | active => simp

theorem InjChan.resumeRun_of_not_suspended {ch : InjChan} (h : ch.state ≠ .suspended) : ch.resumeRun = ch := by
  unfold InjChan.resumeRun
  cases hs : ch.state with
  | suspended => exact absurd hs h
  | idle | waiting | active => rfl

/-- Settles O17: suspending keeps where the channel stood, and a run command returns it there. -/
theorem suspendedChannelsResume : Obligations.SuspendedChannelsResume := by
  intro s rest tag target c hc
  refine ⟨fun h => ⟨fun hst => ?_, fun hst => ?_⟩, fun h => ⟨s.inj.map InjChan.suspend, ?_, fun d => ?_⟩,
    fun h => ⟨fun hq => ?_, fun hq hst => ?_, fun hq hst => ?_⟩⟩
  · refine State.answer_chan hc h (congrArg Reply.ok (congrArg (s.putInj c) ?_))
    rcases hst with hst | hst
    · rw [InjChan.suspend_waiting hst, hst]
      rfl
    · rw [InjChan.suspend_active hst, hst]
      rfl
  · refine State.answer_chan hc h (congrArg Reply.ok ?_)
    rw [State.modInj_eq_putInj, InjChan.suspend_of_stopped hst, State.putInj_self]
  · exact State.answer_command h (.inl hc) (x := ()) rfl (b := ()) rfl rfl
  · rw [Four.get_map]
    exact ⟨InjChan.suspend_waiting, InjChan.suspend_active, InjChan.suspend_of_stopped⟩
  · exact State.answer_chan hc h (if_pos hq)
  · refine State.answer_chan hc h ((if_neg (by simp [hq])).trans (congrArg Reply.ok ?_))
    rw [State.modInj_eq_putInj, InjChan.resumeRun_suspended hst]
  · refine State.answer_chan hc h ((if_neg (by simp [hq])).trans (congrArg Reply.ok ?_))
    rw [State.modInj_eq_putInj, InjChan.resumeRun_of_not_suspended hst, State.putInj_self]

theorem InjChan.fireCommand_eq (ch : InjChan) :
    ch.fireCommand = if ch.state = .waiting ∧ ch.settings.map InjSettings.source = some .command then
      { ch with state := .active } else ch := by
  rw [InjChan.fireCommand, InjChan.sourceIs_beq, InjChan.activate]
  by_cases hw : ch.state = .waiting <;> by_cases hp : ch.settings.map InjSettings.source = some .command <;> simp [hw, hp]

theorem State.fireOne_eq (c : ChanNo) :
    s.fireOne c =
      if (s.inj.get c).state = .idle ∨ (s.inj.get c).settings.map InjSettings.source ≠ some .command then
        Reply.of s .badTarget
      else if (s.inj.get c).state = .waiting then Reply.ok (s.putInj c { s.inj.get c with state := .active })
      else Reply.of s .busy := by
  unfold State.fireOne
  dsimp only
  rw [State.modInj_eq_putInj, InjChan.fireCommand_eq, InjChan.sourceIs_beq]
  by_cases hp : (s.inj.get c).settings.map InjSettings.source = some .command <;>
    by_cases hw : (s.inj.get c).state = .waiting <;> simp [hp, hw]

theorem fireTarget_fourOctet (c : ChanNo) : fireTarget (fourOctet c).toNat = some (some c) := by
  rw [fourOctet_toNat]
  unfold fireTarget
  rw [if_neg (by omega), fourOf_val]
  rfl

/-- R126, R127: a channel disarmed without a notice, and with one. -/
theorem State.disarm_eq {c : ChanNo} {p : InjSettings} (hst : (s.inj.get c).state ≠ .idle)
    (hp : (s.inj.get c).settings = some p) :
    s.disarm c = if p.notify then
        (s.putInj c (s.inj.get c).toIdle).notify
          (.injectionEnd c .aborted (if p.count = 0 then 0 else (s.inj.get c).remaining) s.tick)
      else s.putInj c (s.inj.get c).toIdle := by
  unfold State.disarm
  rw [if_neg hst]
  unfold State.endChannel
  simp only [hp, reduceCtorEq, false_or]
  rfl

/-- Settles O18: a fire activates a WAITING channel of source COMMAND, and a disarm returns any channel to IDLE. -/
theorem fireAndDisarm : Obligations.FireAndDisarm := by
  intro s rest tag c hc
  refine ⟨fun h => ?_, fun h => ⟨s.inj.map InjChan.fireCommand, ?_, fun d => ?_⟩, fun h => ⟨fun hst => ?_, fun p hst hp => ?_⟩⟩
  · have answer : ∀ {t : State} {st : Status}, s.fireOne c = ⟨t, st, .empty⟩ → t.cmdQ = s.cmdQ → t.waiting = s.waiting →
        exec .fire s = .next (t.answered (localCmd 0x1C tag (fourOctet c) []) rest st .empty) :=
      fun ha hq hw => by
        refine State.answer_command h (.inl hc) (fireTarget_fourOctet c) (b := ()) rfl ?_ hq hw
        exact ha
    rw [State.fireOne_eq] at answer
    refine ⟨fun hst hsrc => answer ?_ rfl rfl, fun hst hsrc => answer ?_ rfl rfl, fun hno => answer ?_ rfl rfl⟩
    · rw [if_neg (by simp [hst, hsrc]), if_pos hst]
      rfl
    · rw [if_neg (by rcases hst with hst | hst <;> simp [hst, hsrc]),
        if_neg (by rcases hst with hst | hst <;> simp [hst])]
      rfl
    · rw [if_pos hno]
      rfl
  · exact State.answer_command h (.inl hc) (x := none) rfl (b := ()) rfl rfl
  · rw [Four.get_map, InjChan.fireCommand_eq]
  · exact State.answer_chan hc h (congrArg Reply.ok (if_pos hst))
  · refine ⟨fun hn => State.answer_chan hc h (congrArg Reply.ok ?_),
      fun hn hroom => State.answer_chan hc h (congrArg Reply.ok ?_)⟩
    · rw [State.disarm_eq hst hp, hn, if_neg Bool.false_ne_true]
      rfl
    · rw [State.disarm_eq hst hp, hn, if_pos rfl]
      exact State.notify_of_room (s := s.putInj c (s.inj.get c).toIdle) hroom _

end Sys2Proof.Machine
end

section
/-! WRITE_ENTRY of the tables that no lane follows at once: pattern memory, schedule, confidence table, alarm profiles, group
descriptors and the permit set. -/

namespace Sys2Proof.Machine

variable {s t : State} {rest : List CmdRec} {tag target : Octet} {l : LaneNo} {body : List Block}

theorem guardSome_of_true {α : Type} {p : Bool} {x : α} (h : p = true) : guardSome p x = some x := if_pos h

theorem guardSome_of_false {α : Type} {p : Bool} {x : α} (h : ¬p = true) : guardSome p x = none := if_neg h

theorem someLane_iff (f : LaneNo → Bool) : someLane f = true ↔ ∃ l, f l = true := lanesAll_any f

theorem mem_chansAll (c : ChanNo) : c ∈ chansAll := by
  fin_cases c <;> decide

theorem chansAll_any (f : ChanNo → Bool) : chansAll.any f = true ↔ ∃ c, f c = true := by
  rw [List.any_eq_true]
  exact ⟨fun ⟨c, _, h⟩ => ⟨c, h⟩, fun ⟨c, h⟩ => ⟨c, mem_chansAll c, h⟩⟩

/-! ### Pattern memory -/

theorem State.writePatMem_in_use (i : Nat) (b : Block)
    (h : ∃ l, (s.sendsPattern l = true ∧ (s.txPat l).holds i = true) ∨
      (s.checksUnheld l = true ∧ (s.rxPat l).holds i = true)) : s.writePatMem i b = (.notHeld, s) := by
  unfold State.writePatMem
  rw [if_pos]
  obtain ⟨l, h | h⟩ := h
  · exact Bool.or_eq_true _ _ |>.mpr (.inl ((someLane_iff _).mpr ⟨l, by rw [h.1, h.2]; rfl⟩))
  · exact Bool.or_eq_true _ _ |>.mpr (.inr ((someLane_iff _).mpr ⟨l, by rw [h.1, h.2]; rfl⟩))

theorem State.writePatMem_free (i : Nat) (b : Block)
    (h : ∀ l, (s.sendsPattern l = false ∨ (s.txPat l).holds i = false) ∧
      (s.checksUnheld l = false ∨ (s.rxPat l).holds i = false)) :
    s.writePatMem i b = (.ok, { s with patMem := patWrite s.patMem i ⟨b, true⟩ }) := by
  unfold State.writePatMem
  rw [if_neg]
  rw [Bool.or_eq_true, someLane_iff, someLane_iff]
  rintro (⟨l, hl⟩ | ⟨l, hl⟩)
  · rcases (h l).1 with h | h <;> simp [h] at hl
  · rcases (h l).2 with h | h <;> simp [h] at hl

theorem bankTarget_fourOctet (k : BankNo) : bankTarget (fourOctet k).toNat = some (some k) := by
  rw [fourOctet_toNat]
  unfold bankTarget
  rw [if_neg (by omega), fourOf_val]
  rfl

theorem bankTarget_eq_none {n : Nat} (h : 4 < n) : bankTarget n = none := by
  unfold bankTarget fourOf
  rw [if_neg (by omega), dif_neg (by omega)]
  rfl

/-- A command whose target names nothing of its row. -/
theorem State.answer_badTarget {τ β : Type} {free : Bool} {tgt : Nat → Option τ} {read : CmdRec → Option β}
    {own : CmdRec → τ → β → Reply} {r : CmdRec} (h : s.takes r rest) (hr : r.origin = .localPort)
    (ht : tgt r.target.toNat = none) :
    Host.Outcome.next (s.command r.code free tgt read own) = (.next (s.answered r rest .badTarget .empty) : Out) := by
  have hj : s.judgeCommand r free tgt read own = Reply.of s .badTarget := by
    unfold State.judgeCommand
    rw [ht]
  refine congrArg _ ((State.command_of_takes h free tgt read own).trans ?_)
  rw [hj]
  exact Reply.give_of_takes h hr rfl rfl

/-- Settles O47: an entry in use is not written, any other is, and a memory fault is cleared bank by bank or whole. -/
theorem patternMemoryWritten : Obligations.PatternMemoryWritten := by
  refine ⟨fun s rest tag body i b hc hb h => ⟨fun hi => ?_, fun hi => ⟨fun hu => ?_, fun hf hm => ?_⟩⟩,
    fun s rest tag target h => ⟨?_, ?_, fun ht => ?_⟩⟩
  · refine State.answer_write hc hb h rfl (by decide) (t := s) ?_
    rw [patIndex, if_neg (Nat.not_lt.mpr hi)]
    rfl
  · refine State.answer_write hc hb h rfl (by decide) ?_
    rw [patIndex, if_pos (Nat.lt_succ_of_le hi)]
    exact State.writePatMem_in_use i b hu
  · refine ⟨patWrite s.patMem i ⟨b, true⟩, State.answer_write hc hb h rfl (by decide) ?_,
      patWrite_wf _ i _ (by omega) hm, fun k => patRead_patWrite i _ k _ hm⟩
    rw [patIndex, if_pos (Nat.lt_succ_of_le hi)]
    exact State.writePatMem_free i b hf
  · rintro k rfl
    exact State.answer_command h (.inr rfl) (bankTarget_fourOctet k) (b := ()) rfl rfl
  · rintro rfl
    exact State.answer_command h (.inr rfl) (x := none) rfl (b := ()) rfl rfl
  · exact State.answer_badTarget h rfl (bankTarget_eq_none ht)

/-! ### Schedule, confidence table, permit set -/

theorem InjChan.protects_iff (ch : InjChan) (i : Nat) :
    ch.protects i = true ↔ ∃ p, ch.settings = some p ∧ ch.state ≠ .idle ∧ p.schedFirst ≤ i ∧ i ≤ p.schedLast := by
  unfold InjChan.protects
  cases ch.settings with
  | none => simp
  | some p => simp [and_assoc]

theorem SchedArg.entry_refused {e : SchedArg}
    (h : 65535 < e.gap ∨ e.blocks = 0 ∨ 255 < e.blocks ∨ e.bits = 0 ∨ 64 < e.bits ∨ 63 < e.pos) : SchedArg.entry e = none := by
  refine guardSome_of_false fun k => ?_
  simp only [Bool.and_eq_true, decide_eq_true_eq] at k
  omega

theorem SchedArg.entry_taken {e : SchedArg} (h : e.gap ≤ 65535 ∧ 1 ≤ e.blocks ∧ e.blocks ≤ 255 ∧ 1 ≤ e.bits ∧ e.bits ≤ 64 ∧
    e.pos ≤ 63) : SchedArg.entry e = some e := by
  refine guardSome_of_true ?_
  simp only [Bool.and_eq_true, decide_eq_true_eq]
  omega

theorem State.writeSched_refused {i : Nat} {e : SchedArg}
    (h : 63 < i ∨ 65535 < e.gap ∨ e.blocks = 0 ∨ 255 < e.blocks ∨ e.bits = 0 ∨ 64 < e.bits ∨ 63 < e.pos) :
    s.writeSched i e = (.badField, s) := by
  unfold State.writeSched
  by_cases hi : i < 64
  · rw [dif_pos hi, SchedArg.entry_refused (h.resolve_left (by omega))]
  · rw [dif_neg hi]

theorem State.writeSched_taken {i : Nat} {e : SchedArg} (hi : i < 64) (he : SchedArg.entry e = some e) :
    s.writeSched i e = if chansAll.any (fun c => (s.inj.get c).protects i) then (.busy, s)
      else (.ok, { s with sched := s.sched.set i (some e) hi }) := by
  unfold State.writeSched
  rw [dif_pos hi, he]

/-- Each code once: the list has as many places as the codes are different. -/
theorem mem_distinct (c : Octet) (cs : List Octet) : c ∈ distinct cs ↔ c ∈ cs := by
  induction cs with
  | nil => exact Iff.rfl
  | cons d cs ih =>
    rw [distinct, List.mem_cons, List.mem_filter, ih, List.mem_cons, bne_iff_ne]
    by_cases h : c = d <;> simp [h]

theorem distinct_nodup (cs : List Octet) : (distinct cs).Nodup := by
  induction cs with
  | nil => exact List.nodup_nil
  | cons c cs ih => exact List.nodup_cons.mpr ⟨by simp [List.mem_filter], ih.filter _⟩

theorem distinct_length (cs : List Octet) : (distinct cs).length = cs.toFinset.card := by
  rw [← List.toFinset_card_of_nodup (distinct_nodup cs)]
  congr 1
  ext c
  rw [List.mem_toFinset, List.mem_toFinset, mem_distinct]

theorem isCommandCode_iff (c : Octet) : isCommandCode c = true ↔ c ≠ 0 ∧ c.toNat ≤ 0x28 := by
  have h : c = 0 ↔ c.toNat = 0 := by rw [← BitVec.toNat_inj]; rfl
  rw [isCommandCode, Bool.and_eq_true, decide_eq_true_eq, decide_eq_true_eq, Ne, h]
  omega

theorem isForbiddenCode_iff (c : Octet) :
    isForbiddenCode c = true ↔ c ∈ [(0x02 : Octet), 0x03, 0x05, 0x26, 0x27, 0x28] := by
  simp only [isForbiddenCode, Bool.or_eq_true, beq_iff_eq, List.mem_cons, List.not_mem_nil, or_false]
  tauto

/-- R153: a set that is taken names command codes that it may name, 16 at most. -/
theorem permit_checked_iff (cs : List Octet) :
    (cs.all isCommandCode && !cs.any isForbiddenCode && decide ((distinct cs).length ≤ 16)) = true ↔
      (∀ c ∈ cs, c ≠ 0 ∧ c.toNat ≤ 0x28 ∧ c ∉ [(0x02 : Octet), 0x03, 0x05, 0x26, 0x27, 0x28]) ∧ cs.toFinset.card ≤ 16 := by
  rw [Bool.and_eq_true, Bool.and_eq_true, List.all_eq_true, Bool.not_eq_true', List.any_eq_false, decide_eq_true_eq,
    distinct_length, ← forall₂_and]
  simp only [isCommandCode_iff, isForbiddenCode_iff, and_assoc]

/-- Settles O48: each table's own range, then the entry stored. -/
theorem plainTablesWritten : Obligations.PlainTablesWritten := by
  refine ⟨fun s rest tag body hc hb => ⟨fun i e h => ⟨fun hbad => ?_, fun hi h1 h2 h3 h4 h5 h6 => ?_⟩,
    fun i u h => ⟨fun hbad => ?_, fun hi hu => ?_⟩⟩, fun s rest tag body cs hc hb h => ⟨fun hbad => ?_, fun hok hlen => ?_⟩⟩
  · exact State.answer_write hc hb h rfl (by decide) (State.writeSched_refused hbad)
  · have hw := State.writeSched_taken (s := s) hi (SchedArg.entry_taken ⟨h1, h2, h3, h4, h5, h6⟩)
    refine ⟨fun ⟨c, p, hst, hp, hf, hl⟩ => ?_, fun hfree => ?_⟩
    · exact State.answer_write hc hb h rfl (by decide)
        (hw.trans (if_pos ((chansAll_any _).mpr ⟨c, (InjChan.protects_iff _ i).mpr ⟨p, hp, hst, hf, hl⟩⟩)))
    · refine State.answer_write hc hb h rfl (by decide) (hw.trans (if_neg fun hany => ?_))
      obtain ⟨c, hprot⟩ := (chansAll_any _).mp hany
      obtain ⟨p, hp, hst, hf, hl⟩ := (InjChan.protects_iff _ i).mp hprot
      have := hfree c p hp
      simp only [hst, false_or] at this
      omega
  · refine State.answer_write hc hb h rfl (by decide) (t := s) ?_
    unfold State.writeConf
    dsimp only
    split
    · rw [if_neg (by omega)]
    · rfl
  · refine State.answer_write hc hb h rfl (by decide) ?_
    unfold State.writeConf
    rw [dif_pos hi, if_pos hu]
  · refine State.answer_write hc hb h rfl (by decide) (t := s) ?_
    have : permitEntry cs = none := guardSome_of_false fun k => by
      obtain ⟨hok, hlen⟩ := (permit_checked_iff cs).mp k
      rcases hbad with ⟨c, hc, hbad⟩ | hbad
      · obtain ⟨h0, h1, h2⟩ := hok c hc
        rcases hbad with hbad | hbad | hbad
        · exact h0 hbad
        · omega
        · exact h2 hbad
      · omega
    change s.writePermit cs = _
    rw [State.writePermit, this]
  · have : permitEntry cs = some (distinct cs) := guardSome_of_true ((permit_checked_iff cs).mpr ⟨hok, hlen⟩)
    refine ⟨distinct cs, State.answer_write hc hb h rfl (by decide) ?_, distinct_nodup cs,
      (distinct_length cs).trans_le hlen, fun c => mem_distinct c cs⟩
    change s.writePermit cs = _
    rw [State.writePermit, this]

/-! ### Alarm profiles and group descriptors -/

theorem ProfileArg.entry_eq (a : ProfileArg) :
    ProfileArg.entry a = if (∀ d ∈ [a.degradeSet, a.degradeClear, a.failSet, a.failClear, a.target],
          100 ≤ d.m ∧ d.m ≤ 999 ∧ d.x ≤ 19) ∧
        a.degradeClear.m * 10 ^ a.degradeSet.x ≤ a.degradeSet.m * 10 ^ a.degradeClear.x ∧
        a.degradeSet.m * 10 ^ a.failSet.x ≤ a.failSet.m * 10 ^ a.degradeSet.x ∧
        a.degradeClear.m * 10 ^ a.failClear.x ≤ a.failClear.m * 10 ^ a.degradeClear.x ∧
        a.failClear.m * 10 ^ a.failSet.x ≤ a.failSet.m * 10 ^ a.failClear.x then some a else none := by
  refine if_congr ?_ rfl rfl
  simp only [Bool.and_eq_true, List.all_eq_true, decimalInRange, decimalLe, decide_eq_true_eq, and_assoc]

theorem GroupDescArg.entry_eq {a : GroupDescArg} {sp : WinSpec} {rp nt : Bool} {pr : Fin 4} (hs : a.spec = some sp)
    (hr : a.rep = some rp) (hn : a.notices = some nt) (hp : a.profile = pr.val) :
    GroupDescArg.entry a = if WinSpec.inGroup sp then some ⟨sp, rp, pr, nt⟩ else none := by
  unfold GroupDescArg.entry
  rw [hs, hr, hn, hp, fourOf_val, Option.filter_some]
  split <;> rfl

/-- Settles O49: a profile whose values are in range and in order is stored; so is a group descriptor, while its group has no
open window. -/
theorem profileAndGroupDescriptorWritten : Obligations.ProfileAndGroupDescriptorWritten := by
  intro s rest tag body hc hb
  refine ⟨fun i a h => ⟨fun h1 h2 h3 h4 h5 => ?_, fun hbad => ?_⟩, fun i g a sp rp nt pr h hi hs hr hn hp => ?_⟩
  · refine State.answer_write hc hb h rfl (by decide) ?_
    dsimp only
    rw [fourOf_val]
    change s.writeProfile i a = _
    rw [State.writeProfile, ProfileArg.entry_eq, if_pos ⟨h1, h2, h3, h4, h5⟩]
  · refine State.answer_write hc hb h rfl (by decide) (t := s) ?_
    dsimp only
    rw [fourOf_val]
    change s.writeProfile i a = _
    rw [State.writeProfile, ProfileArg.entry_eq, if_neg]
    rintro ⟨hin, hle⟩
    rcases hbad with ⟨d, hd, hbad⟩ | hbad
    · have := hin d hd
      omega
    · omega
  · have hg : groupIndex i = some g := by
      rcases hi with ⟨rfl, rfl⟩ | ⟨rfl, rfl⟩ <;> rfl
    have write : ∀ {st : Status} {t : State}, s.writeGroupDesc g a = (st, t) → t.cmdQ = s.cmdQ → t.waiting = s.waiting →
        exec (.writeGroupDescriptor (.params ⟨i, a⟩)) s = .next (t.answered (localCmd 0x05 tag 7 body) rest st .empty) := by
      intro st t hw hq hwt
      refine State.answer_write hc hb h rfl (by decide) ?_ hq hwt
      dsimp only
      rw [hg]
      exact hw
    rw [State.writeGroupDesc, GroupDescArg.entry_eq hs hr hn hp] at write
    refine ⟨fun hbad => write ?_ rfl rfl, fun hok => ?_⟩
    · rw [if_neg]
      rcases hbad with ⟨n, rfl⟩ | rfl | ⟨n, rfl, hn⟩
      · exact Bool.false_ne_true
      · decide
      · simp only [WinSpec.inGroup, Bool.and_eq_true, decide_eq_true_eq]
        omega
    · have hsp : WinSpec.inGroup sp = true := by
        rcases hok with rfl | ⟨n, rfl, h1, h2⟩
        · rfl
        · simp only [WinSpec.inGroup, Bool.and_eq_true, decide_eq_true_eq]
          exact ⟨h1, h2⟩
      rw [if_pos hsp] at write
      refine ⟨fun ho => write (if_pos ho) rfl rfl, fun hw => write (if_neg ?_) rfl rfl⟩
      rw [hw]
      exact Bool.false_ne_true

end Sys2Proof.Machine
end

section
/-! The bits of a block: fields apart from each other, the marker block and the context record that are made of them; and the bits
of a PRBS generator. -/

namespace Sys2Proof.Machine

variable {s : State} {l : LaneNo}

/-! ### Fields -/

theorem testBit_fieldAt (b : Block) (lo n i : Nat) : (fieldAt b lo n).testBit i = (decide (i < n) && b.getLsbD (lo + i)) := by
  rw [fieldAt, Nat.testBit_mod_two_pow, ← Nat.shiftRight_eq_div_pow, Nat.testBit_shiftRight]
  rfl

theorem getLsbD_field (lo n v : Nat) {i : Nat} (hi : i < 64) :
    (field lo n v).getLsbD i = (decide (lo ≤ i) && decide (i < lo + n) && v.testBit (i - lo)) := by
  rw [field, BitVec.getLsbD_shiftLeft, BitVec.getLsbD_ofNat, Nat.testBit_mod_two_pow]
  by_cases h : i < lo
  · simp [h]
  · have h1 : i - lo < 64 := by omega
    have h2 : i - lo < n ↔ i < lo + n := by omega
    simp [hi, h1, h2, Nat.le_of_not_lt h]

theorem getLsbD_field_apart {lo n v k : Nat} (h : k < lo ∨ lo + n ≤ k) : (field lo n v).getLsbD k = false := by
  by_cases hk : k < 64
  · rw [getLsbD_field lo n v hk]
    rcases h with h | h
    · simp [Nat.not_le.mpr h]
    · simp [Nat.not_lt.mpr h]
  · exact BitVec.getLsbD_of_ge _ _ (Nat.le_of_not_lt hk)

theorem getLsbD_flag_apart {lo k : Nat} {v : Bool} (h : k < lo ∨ lo + 1 ≤ k) : (flag lo v).getLsbD k = false := by
  cases v with
  | false => exact BitVec.getLsbD_zero
  | true => exact getLsbD_field_apart h

theorem getLsbD_flag_same {k : Nat} {v : Bool} (h : k < 64) : (flag k v).getLsbD k = v := by
  cases v with
  | false => exact BitVec.getLsbD_zero
  | true =>
    change (field k 1 1).getLsbD k = true
    rw [getLsbD_field k 1 1 h]
    simp

theorem fieldAt_or (a b : Block) (lo n : Nat) : fieldAt (a ||| b) lo n = fieldAt a lo n ||| fieldAt b lo n := by
  refine Nat.eq_of_testBit_eq fun i => ?_
  rw [Nat.testBit_or, testBit_fieldAt, testBit_fieldAt, testBit_fieldAt, BitVec.getLsbD_or, Bool.and_or_distrib_left]

theorem fieldAt_field_same {lo n v : Nat} (hn : lo + n ≤ 64) (hv : v < 2 ^ n) : fieldAt (field lo n v) lo n = v := by
  refine Nat.eq_of_testBit_eq fun i => ?_
  rw [testBit_fieldAt]
  by_cases hi : i < n
  · rw [getLsbD_field lo n v (by omega), Nat.add_sub_cancel_left]
    simp [hi]
  · have : v.testBit i = false := Nat.testBit_lt_two_pow (hv.trans_le (Nat.pow_le_pow_right (by decide) (Nat.le_of_not_lt hi)))
    simp [hi, this]

/-- Bits that a block has none of give a field of 0. -/
theorem fieldAt_eq_zero {b : Block} {lo n : Nat} (h : ∀ i, lo ≤ i → i < lo + n → b.getLsbD i = false) :
    fieldAt b lo n = 0 := by
  refine Nat.eq_of_testBit_eq fun i => ?_
  rw [testBit_fieldAt, Nat.zero_testBit]
  by_cases hi : i < n
  · rw [h (lo + i) (by omega) (by omega), Bool.and_false]
  · simp [hi]

theorem fieldAt_field_apart {lo n lo' n' v : Nat} (h : lo' + n' ≤ lo ∨ lo + n ≤ lo') : fieldAt (field lo' n' v) lo n = 0 :=
  fieldAt_eq_zero fun _ _ _ => getLsbD_field_apart (by omega)

theorem fieldAt_flag_apart {lo n lo' : Nat} {v : Bool} (h : lo' + 1 ≤ lo ∨ lo + n ≤ lo') : fieldAt (flag lo' v) lo n = 0 :=
  fieldAt_eq_zero fun _ _ _ => getLsbD_flag_apart (by omega)

theorem octetOf_eq (b : Block) (k : Nat) : octetOf b k = BitVec.ofNat 8 (fieldAt b (8 * k) 8) := by
  refine BitVec.eq_of_toNat_eq ?_
  rw [octetOf, BitVec.extractLsb'_toNat, BitVec.toNat_ofNat, Nat.shiftRight_eq_div_pow, fieldAt, Nat.mod_mod]

/-! ### The marker block (R5, R7, R113) -/

theorem markerFields_fieldAt_octet (m : Marker) : fieldAt (markerFields m) 0 8 = 0xB4 ∧ fieldAt (markerFields m) 56 8 = 0 := by
  constructor <;> simp [markerFields, fieldAt_or, fieldAt_field_same, fieldAt_field_apart, fieldAt_flag_apart]

theorem buildMarker_octet {m : Marker} {k : Nat} (hk : k < 7) : octetOf (buildMarker m) k = octetOf (markerFields m) k := by
  rw [octetOf_eq, octetOf_eq, buildMarker, fieldAt_or, fieldAt_field_apart (.inr (by omega)), Nat.or_zero]

theorem buildMarker_check (m : Marker) : octetOf (buildMarker m) 7 = 255 - markerSum (markerFields m) := by
  rw [octetOf_eq, buildMarker, fieldAt_or, (markerFields_fieldAt_octet m).2,
    fieldAt_field_same (by decide) (BitVec.isLt _), Nat.zero_or, BitVec.ofNat_toNat, BitVec.setWidth_eq]

theorem goodMarker_buildMarker (m : Marker) : goodMarker (buildMarker m) = true := by
  have sum : markerSum (buildMarker m) = markerSum (markerFields m) := by
    unfold markerSum
    rw [buildMarker_octet (by decide), buildMarker_octet (by decide), buildMarker_octet (by decide),
      buildMarker_octet (by decide), buildMarker_octet (by decide), buildMarker_octet (by decide),
      buildMarker_octet (by decide)]
  have start : octetOf (buildMarker m) 0 = 0xB4 := by
    rw [buildMarker_octet (by decide), octetOf_eq, (markerFields_fieldAt_octet m).1]
    rfl
  have spare : (buildMarker m).getLsbD 55 = false := by
    simp only [buildMarker, markerFields, BitVec.getLsbD_or, getLsbD_field_apart, getLsbD_flag_apart, Bool.or_false, Nat.reduceLT,
      Nat.reduceAdd, Nat.reduceLeDiff, true_or, or_true]
  rw [goodMarker, start, spare, buildMarker_check, sum]
  simp

theorem farAlarmOf_code (a : FarAlarm) : farAlarmOf a.code = a := by
  cases a <;> rfl

theorem FarAlarm.code_lt (a : FarAlarm) : a.code < 2 ^ 2 := by
  cases a <;> decide

theorem readMarker_buildMarker {m : Marker} (h : m.phase < 4096) : readMarker (buildMarker m) = m := by
  have hid : fieldAt (buildMarker m) 8 3 = m.id.val := by
    simp [buildMarker, markerFields, fieldAt_or, fieldAt_field_same, fieldAt_field_apart, fieldAt_flag_apart]
  have halarm : fieldAt (buildMarker m) 12 2 = m.alarm.code := by
    simp [buildMarker, markerFields, fieldAt_or, fieldAt_field_apart, fieldAt_flag_apart,
      fieldAt_field_same (by decide : 12 + 2 ≤ 64) m.alarm.code_lt]
  have hseq : (buildMarker m).extractLsb' 16 16 = m.seq := by
    have : fieldAt (buildMarker m) 16 16 = m.seq.toNat := by
      simp [buildMarker, markerFields, fieldAt_or, fieldAt_field_same, fieldAt_field_apart, fieldAt_flag_apart, m.seq.isLt]
    refine BitVec.eq_of_toNat_eq ?_
    rw [← this, BitVec.extractLsb'_toNat, Nat.shiftRight_eq_div_pow, fieldAt]
  have hoctet : octetOf (buildMarker m) 4 = m.octet := by
    rw [octetOf_eq]
    simp [buildMarker, markerFields, fieldAt_or, fieldAt_field_same, fieldAt_field_apart, fieldAt_flag_apart, m.octet.isLt]
  have hphase : fieldAt (buildMarker m) 40 12 = m.phase := by
    simp [buildMarker, markerFields, fieldAt_or, fieldAt_field_same, fieldAt_field_apart, fieldAt_flag_apart, h]
  cases m with
  | mk id lock alarm word toggle seq octet phase recordEnd resume resumeToggle =>
    rw [readMarker, Marker.mk.injEq]
    refine ⟨Fin.ext hid, ?_, by rw [halarm]; exact farAlarmOf_code _, ?_, ?_, hseq, hoctet, hphase, ?_, ?_, ?_⟩ <;>
      simp only [buildMarker, markerFields, BitVec.getLsbD_or, getLsbD_field_apart, getLsbD_flag_apart, getLsbD_flag_same,
        Bool.or_false, Bool.false_or, Nat.reduceLT, Nat.reduceAdd, Nat.reduceLeDiff, true_or, or_true]

theorem octetOf_xor (a b : Block) (k : Nat) : octetOf (a ^^^ b) k = octetOf a k ^^^ octetOf b k := BitVec.extractLsb'_xor

/-- Settles O12: the fields of a marker lie apart, so each reads back; and a complemented check octet is another one. -/
theorem markersBuildAndRead : Obligations.MarkersBuildAndRead := by
  refine ⟨fun m hm => ⟨goodMarker_buildMarker m, readMarker_buildMarker hm⟩, fun b hb n p => ?_⟩
  have low : ∀ k < 7, octetOf (b ^^^ (Injection.mask ⟨.marker, n, p⟩)) k = octetOf b k := by
    intro k hk
    have : octetOf (field 56 8 255) k = 0 := by
      rw [octetOf_eq, fieldAt_field_apart (.inr (by omega))]
      rfl
    rw [octetOf_xor, Injection.mask, this]
    exact BitVec.xor_zero
  have sum : markerSum (b ^^^ (Injection.mask ⟨.marker, n, p⟩)) = markerSum b := by
    unfold markerSum
    rw [low 0 (by decide), low 1 (by decide), low 2 (by decide), low 3 (by decide), low 4 (by decide), low 5 (by decide),
      low 6 (by decide)]
  have check : octetOf (b ^^^ (Injection.mask ⟨.marker, n, p⟩)) 7 = octetOf b 7 ^^^ 255 := by
    have : octetOf (field 56 8 255) 7 = 255 := by decide
    rw [octetOf_xor, Injection.mask, this]
  simp only [goodMarker, Bool.and_eq_true, beq_iff_eq] at hb
  rw [goodMarker, sum, check, ← hb.2, Bool.and_eq_false_iff, beq_eq_false_iff_ne]
  refine .inr fun h => ?_
  have := congrArg (octetOf b 7 ^^^ ·) h
  rw [← BitVec.xor_assoc, BitVec.xor_self] at this
  exact absurd this (by decide)

/-! ### The context record (R144, R149) -/

theorem Counts.goodOthers_iff (c : Counts) : c.goodOthers = true ↔ c.errors ≤ capBlocks ∧ c.erroredBlocks ≤ capBlocks ∧
    c.erroredFrames ≤ capFrames ∧ c.syncLosses ≤ cap32 ∧ c.unsynced ≤ capBlocks ∧ c.held ≤ capBlocks ∧
    c.markerErrors ≤ cap32 ∧ c.injBits ≤ capBits ∧ c.injBlocks ≤ capBlocks := by
  simp only [Counts.goodOthers, Bool.and_eq_true, decide_eq_true_eq, and_assoc]

/-- Counts within their caps have a place in a count block. -/
theorem Counts.list_lt {c : Counts} (ho : c.goodOthers = true) (hb : c.bits ≤ capBits) : ∀ v ∈ c.list, v < 2 ^ 56 := by
  have := (Counts.goodOthers_iff c).mp ho
  simp only [capBlocks, capFrames, cap32, capBits] at this hb
  simp only [Counts.list, List.forall_mem_cons, List.not_mem_nil, false_imp_iff, implies_true, and_true]
  omega

theorem countsOf_fields {c : Counts} (h : ∀ v ∈ c.list, v < 2 ^ 56) (rest : List Block) :
    countsOf (c.list.map (field 0 56) ++ rest) c.sat = c := by
  simp only [Counts.list, List.forall_mem_cons, List.not_mem_nil, false_imp_iff, implies_true, and_true] at h
  obtain ⟨h0, h1, h2, h3, h4, h5, h6, h7, h8, h9⟩ := h
  cases c with
  | mk =>
    simp only [countsOf, Counts.list, List.map_cons, List.map_nil, List.cons_append, List.nil_append, List.getD_cons_succ,
      List.getD_cons_zero, Counts.mk.injEq, and_true]
    refine ⟨?_, ?_, ?_, ?_, ?_, ?_, ?_, ?_, ?_, ?_⟩ <;> exact fieldAt_field_same (by decide) (by assumption)

/-- The blocks of a record whose values fit their fields read back as the record. -/
theorem readContext_blocks {c : ContextRecord} (hv : c.version < 2 ^ 8) (hl : c.lane < 2 ^ 8) (hp : c.winPresent < 2 ^ 8)
    (ha : c.alarm < 2 ^ 8) (hk : c.ckState < 2 ^ 8) (hf : c.frames < 2 ^ 32) (ht : c.ticks < 2 ^ 32)
    (hr : ∀ v ∈ c.run.list, v < 2 ^ 56) (hw : ∀ v ∈ c.win.list, v < 2 ^ 56) (hrs : c.run.sat = c.runSat)
    (hws : c.win.sat = c.winSat) (hm : c.mbz = true) : readContext c.blocks = c := by
  have hn := c.number.isLt
  have counts : ∀ x : Counts, ∀ b ∈ x.list.map (field 0 56), fieldAt b 56 8 = 0 := by
    intro x b hb
    obtain ⟨v, -, rfl⟩ := List.mem_map.mp hb
    exact fieldAt_field_apart (.inl (by decide))
  have hdrop : c.blocks.drop 2 = c.run.list.map (field 0 56) ++ c.win.list.map (field 0 56) := rfl
  have hdrop' : c.blocks.drop 12 = c.win.list.map (field 0 56) ++ [] := by simp [ContextRecord.blocks, Counts.list]
  have h0 : c.blocks.getD 0 0 = field 0 8 c.version ||| field 8 8 c.lane ||| field 16 8 c.winPresent ||| field 24 8 c.alarm
      ||| field 32 8 c.ckState ||| flag 40 c.runSat ||| flag 41 c.winSat ||| flag 42 c.winSuspect
      ||| field 48 16 c.number.toNat := rfl
  have h1 : c.blocks.getD 1 0 = field 0 32 c.frames ||| field 32 32 c.ticks := rfl
  have hrun : (c.blocks.getD 0 0).getLsbD 40 = c.runSat := by
    simp only [h0, BitVec.getLsbD_or, getLsbD_field_apart, getLsbD_flag_apart, getLsbD_flag_same, Bool.or_false, Bool.false_or,
      Nat.reduceLT, Nat.reduceAdd, Nat.reduceLeDiff, true_or, or_true]
  have hwin : (c.blocks.getD 0 0).getLsbD 41 = c.winSat := by
    simp only [h0, BitVec.getLsbD_or, getLsbD_field_apart, getLsbD_flag_apart, getLsbD_flag_same, Bool.or_false, Bool.false_or,
      Nat.reduceLT, Nat.reduceAdd, Nat.reduceLeDiff, true_or, or_true]
  have hsuspect : (c.blocks.getD 0 0).getLsbD 42 = c.winSuspect := by
    simp only [h0, BitVec.getLsbD_or, getLsbD_field_apart, getLsbD_flag_apart, getLsbD_flag_same, Bool.or_false, Bool.false_or,
      Nat.reduceLT, Nat.reduceAdd, Nat.reduceLeDiff, true_or, or_true]
  have hmbz : (fieldAt (c.blocks.getD 0 0) 43 5 == 0 && (c.blocks.drop 2).all fun b => fieldAt b 56 8 == 0) = true := by
    rw [hdrop, Bool.and_eq_true, List.all_eq_true, beq_iff_eq, h0]
    refine ⟨by simp [fieldAt_or, fieldAt_field_apart, fieldAt_flag_apart], fun b hb => beq_iff_eq.mpr ?_⟩
    rw [List.mem_append] at hb
    exact hb.elim (counts _ b) (counts _ b)
  have hver : fieldAt (c.blocks.getD 0 0) 0 8 = c.version := by
    rw [h0]
    simp [fieldAt_or, fieldAt_field_apart, fieldAt_flag_apart, fieldAt_field_same (by decide : 0 + 8 ≤ 64) hv]
  have hlane : fieldAt (c.blocks.getD 0 0) 8 8 = c.lane := by
    rw [h0]
    simp [fieldAt_or, fieldAt_field_apart, fieldAt_flag_apart, fieldAt_field_same (by decide : 8 + 8 ≤ 64) hl]
  have hpres : fieldAt (c.blocks.getD 0 0) 16 8 = c.winPresent := by
    rw [h0]
    simp [fieldAt_or, fieldAt_field_apart, fieldAt_flag_apart, fieldAt_field_same (by decide : 16 + 8 ≤ 64) hp]
  have halarm : fieldAt (c.blocks.getD 0 0) 24 8 = c.alarm := by
    rw [h0]
    simp [fieldAt_or, fieldAt_field_apart, fieldAt_flag_apart, fieldAt_field_same (by decide : 24 + 8 ≤ 64) ha]
  have hck : fieldAt (c.blocks.getD 0 0) 32 8 = c.ckState := by
    rw [h0]
    simp [fieldAt_or, fieldAt_field_apart, fieldAt_flag_apart, fieldAt_field_same (by decide : 32 + 8 ≤ 64) hk]
  have hnum : BitVec.ofNat 16 (fieldAt (c.blocks.getD 0 0) 48 16) = c.number := by
    rw [h0]
    simp [fieldAt_or, fieldAt_field_apart, fieldAt_flag_apart, fieldAt_field_same (by decide : 48 + 16 ≤ 64) hn]
  have hframes : fieldAt (c.blocks.getD 1 0) 0 32 = c.frames := by
    rw [h1, fieldAt_or, fieldAt_field_same (by decide) hf, fieldAt_field_apart (by decide), Nat.or_zero]
  have hticks : fieldAt (c.blocks.getD 1 0) 32 32 = c.ticks := by
    rw [h1, fieldAt_or, fieldAt_field_same (by decide) ht, fieldAt_field_apart (by decide), Nat.zero_or]
  unfold readContext
  dsimp only
  rw [hmbz, hrun, hwin, hsuspect, hdrop, hdrop', ← hrs, countsOf_fields hr, ← hws, countsOf_fields hw, hver, hlane, hpres, halarm,
    hck, hnum, hframes, hticks, hrs, hws, ← hm]

theorem Alarm.code_bounds (a : Alarm) : 1 ≤ a.code ∧ a.code ≤ 3 := by
  cases a <;> decide

theorem CkState.code_le (k : CkState) : k.code ≤ 4 := by
  cases k <;> decide

theorem Counts.goodBits_of_sound {c : Counts} (h : c.sound = true) : c.goodBits = true ∧ c.errors ≤ c.bits := by
  rwa [Counts.sound, Bool.and_eq_true, decide_eq_true_eq] at h

/-- What a record says of the window of a lane that has none. -/
theorem State.contextOf_win (s : State) (l : LaneNo) :
    (s.contextOf l).win = (if (s.lane l).win.isOpen then (s.lane l).win.counts else Counts.zero) := rfl

/-- A set of counts, or the counts of no window. -/
theorem Counts.present_of {P : Counts → Prop} {p : Bool} {c : Counts} (h0 : P Counts.zero) (hc : P c) :
    P (if p then c else Counts.zero) := by
  split
  · exact hc
  · exact h0

theorem State.contextOf_failed (hr : (s.lane l).run.counts.sound = true) (hro : (s.lane l).run.counts.goodOthers = true)
    (hw : (s.lane l).win.counts.sound = true) (hwo : (s.lane l).win.counts.goodOthers = true) :
    (s.contextOf l).failed = none := by
  obtain ⟨hrb, hre⟩ := Counts.goodBits_of_sound hr
  have hwin : (s.contextOf l).win.sound = true := Counts.present_of (P := fun c => c.sound = true) (by decide) hw
  have hwino : (s.contextOf l).win.goodOthers = true := Counts.present_of (P := fun c => c.goodOthers = true) (by decide) hwo
  obtain ⟨hwb, hwe⟩ := Counts.goodBits_of_sound hwin
  have hnames : (s.contextOf l).goodNames = true := by
    have hl : (s.contextOf l).lane ≤ 7 := Nat.le_of_lt_succ l.isLt
    have ha : 1 ≤ (s.contextOf l).alarm ∧ (s.contextOf l).alarm ≤ 3 := Alarm.code_bounds _
    have hp : (s.contextOf l).winPresent ≤ 1 := Bool.toNat_le _
    have hk : (s.contextOf l).ckState ≤ 4 := CkState.code_le _
    simp [ContextRecord.goodNames, hl, ha, hp, hk]
  have habsent : (s.contextOf l).goodAbsent = true := by
    cases hopen : (s.lane l).win.isOpen <;> simp [ContextRecord.goodAbsent, State.contextOf, hopen, Counts.zero, Counts.list]
  have hrb' : (s.contextOf l).run.goodBits = true := hrb
  have hre' : ¬(s.contextOf l).run.bits < (s.contextOf l).run.errors := Nat.not_lt.mpr hre
  have hro' : (s.contextOf l).run.goodOthers = true := hro
  have hver : ¬(s.contextOf l).version ≠ 1 := fun h => h rfl
  have hmbz : (s.contextOf l).mbz = true := rfl
  unfold ContextRecord.failed
  simp only [hver, hmbz, hnames, habsent, hrb', hwb, hro', hwino, hre', Nat.not_lt.mpr hwe, Bool.not_true, Bool.or_false,
    Bool.false_eq_true, or_false, if_false]

/-- Settles O38: every value of a lane's record has its place in the 22 blocks, and meets the seven checks. -/
theorem contextRecordRoundTrip : Obligations.ContextRecordRoundTrip := by
  refine ⟨fun s l hro hrb hwo hwb hf ht => ⟨rfl, ?_⟩, fun s l hr hro hw hwo => State.contextOf_failed hr hro hw hwo⟩
  have h8 : (2 : Nat) ^ 8 = 256 := rfl
  have h32 : (2 : Nat) ^ 32 = 4294967296 := rfl
  refine readContext_blocks (by decide : (1 : Nat) < 2 ^ 8) ?_ ?_ ?_ ?_ ?_ ?_ (Counts.list_lt hro hrb) ?_ rfl ?_ rfl
  · have := l.isLt
    change l.val < _
    omega
  · have := Bool.toNat_le (s.lane l).win.isOpen
    change Bool.toNat _ < _
    omega
  · have := Alarm.code_bounds (s.lane l).alarm
    change Alarm.code _ < _
    omega
  · have := CkState.code_le (s.lane l).ck.state
    change CkState.code _ < _
    omega
  · change (if (s.lane l).win.isOpen then (s.lane l).win.frames else 0) < _
    split <;> omega
  · change (if (s.lane l).win.isOpen then (s.lane l).win.ticks else 0) < _
    split <;> omega
  · exact Counts.present_of (P := fun c : Counts => ∀ v ∈ c.list, v < 2 ^ 56) (by decide) (Counts.list_lt hwo hwb)
  · rw [State.contextOf_win]
    change _ = ((s.lane l).win.isOpen && (s.lane l).win.counts.sat)
    cases (s.lane l).win.isOpen <;> rfl

/-! ### PRBS generators (R20, R41) -/

/-- The stages after `n` bits. -/
def prbsAfter (k t : Nat) : Nat → Stages → Stages
  | 0, st => st
  | n + 1, st => (prbsBit k t (prbsAfter k t n st)).2

/-- Bit `n` of the output. -/
def prbsOut (k t n : Nat) (st : Stages) : Bool := (prbsBit k t (prbsAfter k t n st)).1

theorem prbsAfter_step (k t n : Nat) (st : Stages) : prbsAfter k t n (prbsBit k t st).2 = prbsAfter k t (n + 1) st := by
  induction n with
  | zero => rfl
  | succ n ih =>
    rw [prbsAfter, ih]
    rfl

theorem prbsRun_stages (k t n : Nat) (st : Stages) : (prbsRun k t n st).2 = prbsAfter k t n st := by
  induction n generalizing st with
  | zero => rfl
  | succ n ih => rw [prbsRun, ih, prbsAfter_step]

theorem prbsRun_bit (k t : Nat) {n i : Nat} (st : Stages) (hn : i < n) (hi : i < 64) :
    (prbsRun k t n st).1.getLsbD i = prbsOut k t i st := by
  induction n generalizing st i with
  | zero => omega
  | succ n ih =>
    have last : ∀ (p : Bool) (i : Nat), (if p then (1 : Block) else 0).getLsbD i = (p && decide (i = 0)) := by
      intro p i
      cases p <;> simp
    rw [prbsRun, BitVec.getLsbD_or, BitVec.getLsbD_shiftLeft, last]
    cases i with
    | zero => simp [prbsOut, prbsAfter]
    | succ i =>
      rw [Nat.add_sub_cancel, ih _ (by omega) (by omega), prbsOut, prbsAfter_step]
      simp [hi, prbsOut]

/-- A stage after a bit holds the stage below it, stage 1 the new bit. -/
theorem prbsBit_getLsbD (k t : Nat) (hk : k ≤ 31) (st : Stages) (j : Nat) : (prbsBit k t st).2.getLsbD j =
    (decide (j < k) && if j = 0 then (prbsBit k t st).1 else st.getLsbD (j - 1)) := by
  have last : ∀ (p : Bool) (i : Nat), (if p then (1 : Stages) else 0).getLsbD i = (p && decide (i = 0)) := by
    intro p i
    cases p <;> simp
  rw [prbsBit, BitVec.getLsbD_and, BitVec.getLsbD_or, BitVec.getLsbD_shiftLeft, last, BitVec.getLsbD_ofNat,
    Nat.testBit_two_pow_sub_one]
  by_cases hj : j < k
  · have : j < 31 := by omega
    cases j with
    | zero => simp [hj]
    | succ j => simp [hj, this]
  · simp [hj]

theorem prbsAfter_getLsbD (k t : Nat) (hk : k ≤ 31) (st : Stages) {n j : Nat} (hj : j < k) :
    (prbsAfter k t n st).getLsbD j = if j < n then prbsOut k t (n - 1 - j) st else st.getLsbD (j - n) := by
  induction n generalizing j with
  | zero => rfl
  | succ n ih =>
    rw [prbsAfter, prbsBit_getLsbD k t hk, decide_eq_true hj, Bool.true_and]
    cases j with
    | zero => simp [prbsOut]
    | succ j =>
      rw [if_neg (Nat.succ_ne_zero j), Nat.add_sub_cancel, ih (by omega)]
      simp only [Nat.add_lt_add_iff_right, Nat.add_sub_add_right]
      congr 2
      omega

theorem prbsOut_eq (k t : Nat) (hk : k ≤ 31) (h1 : 1 ≤ t) (ht : t ≤ k) (st : Stages) (i : Nat) :
    prbsOut k t i st =
      ((if i < k then st.getLsbD (k - 1 - i) else prbsOut k t (i - k) st) ^^
        (if i < t then st.getLsbD (t - 1 - i) else prbsOut k t (i - t) st)) := by
  have stage : ∀ j, 1 ≤ j → j ≤ k → (prbsAfter k t i st).getLsbD (j - 1) =
      if i < j then st.getLsbD (j - 1 - i) else prbsOut k t (i - j) st := by
    intro j h1 hj
    rw [prbsAfter_getLsbD k t hk st (by omega)]
    by_cases hi : i < j
    · rw [if_neg (by omega), if_pos hi]
    · rw [if_pos (by omega), if_neg hi]
      congr 1
      omega
  rw [← stage k (by omega) le_rfl, ← stage t h1 ht]
  rfl

theorem seedStages_getLsbD (b : Block) {k : Nat} (hk : k ≤ 31) (j : Nat) :
    (seedStages k b).getLsbD j = (decide (j < k) && b.getLsbD (63 - j)) := by
  induction k with
  | zero => simp [seedStages]
  | succ k ih =>
    have last : (if b.getLsbD (63 - k) then BitVec.ofNat 31 (2 ^ k) else 0).getLsbD j =
        (decide (j = k) && b.getLsbD (63 - k)) := by
      split
      · next h =>
        rw [BitVec.getLsbD_ofNat, Nat.testBit_two_pow, h, Bool.and_true]
        by_cases hj : j = k
        · subst hj
          simp
          omega
        · simp [hj, Ne.symm hj]
      · next h => simp [h]
    rw [seedStages, BitVec.getLsbD_or, ih (by omega), last]
    by_cases hj : j = k
    · subst hj
      simp
    · have : j < k + 1 ↔ j < k := by omega
      simp [hj, this]

theorem patKind_bounds {kind : PatKind} (h : kind ≠ .user) :
    1 ≤ patTap kind ∧ patTap kind < patOrder kind ∧ patOrder kind ≤ 31 := by
  cases kind with
  | user => exact absurd rfl h
  | _ => decide

theorem prbsBlock_bit (kind : PatKind) (st : Stages) {i : Nat} (hi : i < 64) :
    (prbsBlock kind st).1.getLsbD i = prbsOut (patOrder kind) (patTap kind) i st := prbsRun_bit _ _ st hi hi

/-- R20: bit `i` of a block by the two stages as they then stand. -/
theorem prbsBlock_getLsbD {kind : PatKind} (h : kind ≠ .user) (st : Stages) {i : Nat} (hi : i < 64) :
    (prbsBlock kind st).1.getLsbD i =
      ((if i < patOrder kind then st.getLsbD (patOrder kind - 1 - i) else (prbsBlock kind st).1.getLsbD (i - patOrder kind)) ^^
        (if i < patTap kind then st.getLsbD (patTap kind - 1 - i) else (prbsBlock kind st).1.getLsbD (i - patTap kind))) := by
  obtain ⟨h1, ht, hk⟩ := patKind_bounds h
  rw [prbsBlock_bit kind st hi, prbsBlock_bit kind st (i := i - patOrder kind) (by omega),
    prbsBlock_bit kind st (i := i - patTap kind) (by omega)]
  exact prbsOut_eq _ _ hk h1 (Nat.le_of_lt ht) st i

theorem prbsBlock_stages {kind : PatKind} (h : kind ≠ .user) (st : Stages) :
    (prbsBlock kind st).2 = seedStages (patOrder kind) (prbsBlock kind st).1 := by
  obtain ⟨-, -, hk⟩ := patKind_bounds h
  refine BitVec.eq_of_getLsbD_eq fun j _ => ?_
  rw [seedStages_getLsbD _ hk, prbsBlock, prbsRun_stages]
  by_cases hj : j < patOrder kind
  · rw [prbsAfter_getLsbD _ _ hk st hj, if_pos (by omega), prbsRun_bit _ _ st (by omega) (by omega), decide_eq_true hj,
      Bool.true_and]
  · rw [decide_eq_false hj, Bool.false_and, prbsAfter, prbsBit_getLsbD _ _ hk, decide_eq_false hj, Bool.false_and]

theorem prbsBit_lt (k t : Nat) (hk : k ≤ 31) (st : Stages) : (prbsBit k t st).2.toNat < 2 ^ k := by
  have hpow : 2 ^ k ≤ 2 ^ 31 := Nat.pow_le_pow_right (by decide) hk
  have hpos : 0 < 2 ^ k := Nat.two_pow_pos k
  refine Nat.lt_of_le_of_lt (m := 2 ^ k - 1) ?_ (by omega)
  rw [prbsBit, BitVec.toNat_and]
  refine Nat.and_le_right.trans ?_
  rw [BitVec.toNat_ofNat]
  exact Nat.mod_le _ _

/-- Stages that are not all zero never become so: the new bit brings back the stage that left. -/
theorem prbsBit_ne_zero {k t : Nat} (hk : k ≤ 31) (h1 : 1 ≤ t) (ht : t < k) {st : Stages} (hst : st.toNat < 2 ^ k)
    (h : st ≠ 0) : (prbsBit k t st).2 ≠ 0 := by
  intro hz
  have bits : ∀ j, j < k → (if j = 0 then (prbsBit k t st).1 else st.getLsbD (j - 1)) = false := by
    intro j hj
    have := prbsBit_getLsbD k t hk st j
    rw [hz, decide_eq_true hj, Bool.true_and] at this
    exact this.symm.trans BitVec.getLsbD_zero
  have low : ∀ j, j + 1 < k → st.getLsbD j = false := fun j hj => bits (j + 1) hj
  have new : (st.getLsbD (k - 1) ^^ st.getLsbD (t - 1)) = false := bits 0 (by omega)
  rw [low (t - 1) (by omega), Bool.xor_false] at new
  refine h (BitVec.eq_of_getLsbD_eq fun j _ => ?_)
  refine Eq.trans ?_ BitVec.getLsbD_zero.symm
  rcases Nat.lt_trichotomy (j + 1) k with hj | hj | hj
  · exact low j hj
  · rw [← new]
    congr 1
    omega
  · exact Nat.testBit_lt_two_pow (hst.trans_le (Nat.pow_le_pow_right (by decide) (by omega)))

theorem prbsAfter_ne_zero {k t : Nat} (hk : k ≤ 31) (h1 : 1 ≤ t) (ht : t < k) (n : Nat) {st : Stages}
    (hst : st.toNat < 2 ^ k) (h : st ≠ 0) : (prbsAfter k t n st) ≠ 0 ∧ (prbsAfter k t n st).toNat < 2 ^ k := by
  induction n with
  | zero => exact ⟨h, hst⟩
  | succ n ih => exact ⟨prbsBit_ne_zero hk h1 ht ih.2 ih.1, prbsBit_lt k t hk _⟩

/-- Settles O13: the bits by the stages they leave, and the stages by the bits they have taken. -/
theorem prbsStagesFollowBlock : Obligations.PrbsStagesFollowBlock := by
  refine ⟨fun p hp st i hi => ?_, fun kind st h => ⟨prbsBlock_stages h st, fun hst hlt => ?_⟩⟩
  · have hp' : p.1 ≠ .user ∧ patOrder p.1 = p.2.1 ∧ patTap p.1 = p.2.2 := by
      revert p
      decide
    obtain ⟨hu, hk, ht⟩ := hp'
    rw [← hk, ← ht]
    exact prbsBlock_getLsbD hu st hi
  · obtain ⟨h1, ht, hk⟩ := patKind_bounds h
    rw [prbsBlock, prbsRun_stages]
    exact prbsAfter_ne_zero hk h1 ht 64 hlt hst

end Sys2Proof.Machine
end

section
/-! The command processor: its checks in their order, answers of REMOTE commands, the reads, START_RX, SEND_PEER and
SET_SUPERVISOR. -/

namespace Sys2Proof.Machine

variable {s t : State} {rest : List CmdRec} {code tag target : Octet} {l : LaneNo} {body : List Block} {r : CmdRec}

/-! ### The checks -/

theorem laneOf_eq_none {n : Nat} (h : 7 < n) : laneOf n = none := dif_neg (by omega)

theorem laneOf_of_le {n : Nat} (h : n ≤ 7) : ∃ l, laneOf n = some l := ⟨⟨n, by omega⟩, dif_pos (by omega)⟩

/-- A reply that changes nothing, given to a LOCAL command. -/
theorem State.give_of (h : s.takes r rest) (hr : r.origin = .localPort) (st : Status) :
    (Reply.of s st).give r = s.answered r rest st .empty := Reply.give_of_takes h hr rfl rfl

/-- R167: the checks of a LOCAL command that names a lane and has no parameters, wherever its row judges it by them. -/
theorem State.lane_checks {read : CmdRec → Option Unit} {own : CmdRec → LaneNo → Unit → Reply} {out : Out}
    (h : s.takes r rest) (hr : r.origin = .localPort) (hread : r.body ≠ [] → read r = none)
    (hout : 7 < r.target.toNat ∨ s.configured = false ∨ r.mbz5 ≠ 0 ∨ r.mbz6 ≠ 0 ∨ r.body ≠ [] →
      out = .next (s.command r.code false laneOf read own)) :
    (7 < r.target.toNat → out = .next (s.answered r rest .badTarget .empty)) ∧
    (r.target.toNat ≤ 7 → s.configured = false → out = .next (s.answered r rest .unconfigured .empty)) ∧
    (r.target.toNat ≤ 7 → s.configured = true → r.mbz5 ≠ 0 ∨ r.mbz6 ≠ 0 →
      out = .next (s.answered r rest .badField .empty)) ∧
    (r.target.toNat ≤ 7 → s.configured = true → r.mbz5 = 0 → r.mbz6 = 0 → r.body ≠ [] →
      out = .next (s.answered r rest .badLength .empty)) := by
  have judged : ∀ {st : Status}, s.judgeCommand r false laneOf read own = Reply.of s st →
      (out = .next (s.command r.code false laneOf read own)) → out = .next (s.answered r rest st .empty) := by
    intro st hj ho
    rw [ho, State.command_of_takes h, hj, State.give_of h hr]
  refine ⟨fun ht => judged ?_ (hout (.inl ht)), fun ht hc => judged ?_ (hout (.inr (.inl hc))),
    fun ht hc hz => judged ?_ (hout (.inr (.inr (or_assoc.mp (.inl hz))))),
    fun ht hc h5 h6 hb => judged ?_ (hout (.inr (.inr (.inr (.inr hb)))))⟩
  · unfold State.judgeCommand
    rw [laneOf_eq_none ht]
  all_goals
    obtain ⟨k, hk⟩ := laneOf_of_le ht
    unfold State.judgeCommand
    simp only [hk, hc, Bool.not_false, Bool.not_true, Bool.and_self, Bool.false_and, if_true, Bool.false_eq_true, if_false]
  · rw [if_pos hz]
  · rw [if_neg (by simp [h5, h6]), hread hb]

theorem noBody_of_body (h : r.body ≠ []) : noBody r = none :=
  if_neg (by simpa [List.isEmpty_iff] using h)

theorem contextBody_of_body {code : Octet} (hc : code ≠ 0x26) (h : r.body ≠ []) : contextBody code r = none := by
  rw [contextBody, if_neg hc, if_neg]
  simpa [List.length_eq_zero_iff] using h

/-- A context command that one of the checks refuses does not wait. -/
theorem State.contextCommand_of_refused (h : s.takes r rest) (hc : r.code ≠ 0x26)
    (hno : 7 < r.target.toNat ∨ s.configured = false ∨ r.mbz5 ≠ 0 ∨ r.mbz6 ≠ 0 ∨ r.body ≠ [] ∨ refusesRemote r = true) :
    s.contextCommand r.code = s.command r.code false laneOf (contextBody r.code) fun r l _ =>
      if refusesRemote r then Reply.of s .badLength else s.actContext r l := by
  have hw : s.mustWait r.code r = false := by
    unfold State.mustWait
    rcases hno with h | h | h | h | h | h
    · simp [laneOf_eq_none h]
    · simp [h]
    · rw [beq_eq_false_iff_ne.mpr h]
      simp
    · rw [beq_eq_false_iff_ne.mpr h]
      simp
    · simp [contextBody_of_body hc h]
    · simp [h]
  unfold State.contextCommand
  simp [State.takeCommand_of_takes h, hw]

/-! ### REMOTE commands -/

theorem State.joinOutbound_of_room (h : s.link.outbound.length < 4) (p : PeerRec) :
    s.joinOutbound p = { s with link := { s.link with outbound := s.link.outbound ++ [p] } } := if_pos h

theorem State.joinOutbound_of_full (h : 4 ≤ s.link.outbound.length) (p : PeerRec) :
    s.joinOutbound p = { s with link := { s.link with peerLost := true } } := if_neg (Nat.not_lt.mpr h)

/-- R160: a REMOTE command answered without a body, where the outbound queue has room. -/
theorem Reply.give_answeredRemotely {a : Reply} (hr : r.origin = .remote) (hb : a.body = .empty) (h : s.takes r rest)
    (hq : a.s.cmdQ = s.cmdQ) (hw : a.s.waiting = s.waiting) (hroom : a.s.link.outbound.length < 4) :
    a.give r = a.s.answeredRemotely r rest a.status := by
  rw [Reply.give_remote a r hr, State.joinOutbound_of_room (by exact hroom), hb, hq, h.2.2, State.answeredRemotely]
  have : a.s.waiting = false := hw.trans h.1
  rw [← this]
  rfl

/-- A REMOTE command judged by its own rule. -/
theorem State.command_own_remote {τ β : Type} (h : s.takes r rest) (hz : r.mbz5 = 0 ∧ r.mbz6 = 0) {free : Bool}
    (hc : s.configured = true) {tgt : Nat → Option τ} {x : τ} (ht : tgt r.target.toNat = some x)
    {read : CmdRec → Option β} {b : β} (hb : read r = some b) (own : CmdRec → τ → β → Reply) :
    s.command r.code free tgt read own = (own r x b).give r := by
  rw [State.command_of_takes h]
  unfold State.judgeCommand
  simp [ht, hc, hz, hb]

/-- Settles O8: a row judges its command by the checks in their order; STATUS and unknown codes are judged by none. -/
theorem commandsJudgedInOrder : Obligations.CommandsJudgedInOrder := by
  refine ⟨?_, ?_, fun s rest code tag target body => ⟨fun h => ?_, fun h hcode => ?_⟩⟩
  · simp only [List.forall_mem_cons, List.not_mem_nil, false_imp_iff, implies_true, and_true]
    refine ⟨?_, ?_, ?_, ?_, ?_, ?_, ?_, ?_, ?_, ?_, ?_, ?_, ?_, ?_, ?_, ?_⟩ <;> intro s rest tag target z5 z6 body h
    case refine_15 | refine_16 =>
      exact State.lane_checks h rfl (contextBody_of_body (by dsimp only; decide)) fun hno =>
        congrArg _ (State.contextCommand_of_refused h (by dsimp only; decide) (by tauto))
    all_goals exact State.lane_checks h rfl noBody_of_body fun _ => rfl
  · have refused : ∀ {s : State} {r : CmdRec} {rest : List CmdRec}, s.takes r rest → r.origin = .remote →
        r.mbz5 = 0 ∧ r.mbz6 = 0 → s.configured = true → r.target.toNat ≤ 7 → r.code ≠ 0x26 → refusesRemote r = true →
        (s.link.outbound.length < 4 → s.contextCommand r.code = s.answeredRemotely r rest .badLength) ∧
        (4 ≤ s.link.outbound.length →
          s.contextCommand r.code = { s with cmdQ := rest, link := { s.link with peerLost := true } }) := by
      intro s r rest h hr hz hc ht h26 hrem
      obtain ⟨k, hk⟩ := laneOf_of_le ht
      have hj : s.judgeCommand r false laneOf (contextBody r.code) (fun r l _ =>
          if refusesRemote r then Reply.of s .badLength else s.actContext r l) = Reply.of s .badLength := by
        unfold State.judgeCommand
        simp only [hk, hc, hz.1, hz.2, hrem, if_true, Bool.not_true, Bool.false_and, Bool.false_eq_true, if_false, ne_eq,
          not_true_eq_false, or_self]
        split <;> rfl
      rw [State.contextCommand_of_refused h h26 (by simp [hrem]), State.command_of_takes h, hj]
      refine ⟨fun hroom => Reply.give_answeredRemotely hr rfl h rfl rfl hroom, fun hfull => ?_⟩
      rw [Reply.give_remote _ _ hr, State.joinOutbound_of_full (by exact hfull)]
      have hw : s.waiting = false := h.1
      have hq : s.cmdQ.drop 1 = rest := by
        rw [h.2.2]
        rfl
      dsimp only [Reply.of]
      rw [hq, ← hw]
    simp only [List.forall_mem_cons, List.not_mem_nil, false_imp_iff, implies_true, and_true]
    refine ⟨?_, ?_⟩ <;> intro s rest tag target body h hc ht <;>
      obtain ⟨hroom, hfull⟩ := refused h rfl ⟨rfl, rfl⟩ hc ht (by dsimp only; decide) rfl <;>
      exact ⟨fun ho => congrArg _ (hroom ho), fun ho => congrArg _ (hfull ho)⟩
  · exact State.answer_command h (.inr rfl) (x := ()) rfl (b := ()) rfl rfl
  · have hcmd : isCommandCode code = false := by
      rw [isCommandCode, Bool.and_eq_false_iff, decide_eq_false_iff_not, decide_eq_false_iff_not]
      omega
    change execUnknownCommand s = _
    unfold execUnknownCommand
    simp only [State.nextCommand_of_takes h]
    rw [if_neg (by simp [localCmd, hcmd])]
    exact congrArg _ (State.give_of h rfl .unknownCode)

/-! ### Reads -/

theorem sourceOf_laneOctet (l : LaneNo) : sourceOf (laneOctet l).toNat = some (.lane l) := by
  simp [sourceOf]

theorem sourceOf_groupOctet (g : GroupId) : sourceOf (groupOctet g).toNat = some (.group g) := by
  cases g <;> rfl

theorem tableOf_of_lt {n : Nat} (h : n < 10) : tableOf n = some n := if_pos h

theorem tableOf_eq_none {n : Nat} (h : 10 ≤ n) : tableOf n = none := if_neg (Nat.not_lt.mpr h)

theorem viewOf_eq {α : Type} (f : α → EntryView) (o : Option α) :
    (o = none → viewOf f o = .empty) ∧ ∀ a, o = some a → viewOf f o = f a := by
  cases o with
  | none => exact ⟨fun _ => rfl, nofun⟩
  | some a => exact ⟨nofun, fun b h => by rw [Option.some.injEq] at h; rw [← h]; rfl⟩

theorem State.entryView_lane (s : State) (l : LaneNo) : s.entryView 0 l.val = viewOf .laneMap (s.laneMap.get l) ∧
    s.entryView 1 l.val = viewOf .laneDesc (s.laneDesc.get l) ∧ s.entryView 2 l.val = viewOf .patDesc (s.patDesc.get l) := by
  refine ⟨?_, ?_, ?_⟩ <;> simp [State.entryView]

/-- Settles O28: a read answers with what stands, and its state is the one it was taken in. -/
theorem readsChangeNothing : Obligations.ReadsChangeNothing := by
  refine ⟨fun s rest tag hc => ⟨fun l h => State.answer_lane hc h rfl, fun l h => State.answer_lane hc h rfl,
      fun g h => State.answer_group hc h rfl, fun l k body hb h => ?_, fun g k body hb h => ?_⟩,
    fun s rest tag table body hb => ⟨fun i h => ⟨fun ht hi => ?_, fun ht hi => ?_, fun ht => ?_⟩,
      fun a h => ⟨fun ht => ?_, fun ht => ?_⟩⟩, fun s l i => ?_⟩
  · exact State.answer_command h (.inl hc) (sourceOf_laneOctet l) (bodyOf_params k hb) rfl
  · exact State.answer_command h (.inl hc) (sourceOf_groupOctet g) (bodyOf_params k hb) rfl
  · exact State.answer_command h (.inr rfl) (tableOf_of_lt ht) (bodyOf_params i hb) (if_pos hi)
  · exact State.answer_command h (.inr rfl) (tableOf_of_lt ht) (bodyOf_params i hb) (if_neg (Nat.not_lt.mpr hi))
  · exact State.answer_badTarget h rfl (tableOf_eq_none ht)
  · refine ⟨s.dump table.toNat a, State.answer_command h (.inr rfl) (tableOf_of_lt ht) (bodyOf_params a hb) rfl, ?_,
      fun k hk => ?_⟩
    · simp [State.dump]
    · rw [List.getElem?_eq_getElem hk]
      simp [State.dump]
  · exact State.answer_badTarget h rfl (tableOf_eq_none ht)
  · obtain ⟨h0, h1, h2⟩ := s.entryView_lane l
    rw [h0, h1, h2]
    exact ⟨viewOf_eq _ _, viewOf_eq _ _, viewOf_eq _ _, rfl, rfl⟩

/-! ### START_RX -/

theorem patIsUser_iff (k : PatKind) : patIsUser k = true ↔ k = .user := by
  cases k <;> decide

theorem State.aligned_iff : s.aligned l = true ↔ (s.lane l).al.state = .aligned := beq_iff_eq

theorem State.ckOff_iff : s.ckOff l = true ↔ (s.lane l).ck.state = .off := beq_iff_eq

theorem State.ckOff_of_ne (h : (s.lane l).ck.state ≠ .off) : s.ckOff l = false := beq_eq_false_iff_ne.mpr h

/-- R40: the reason of a hunt that has a phase source. -/
theorem State.huntReason_eq (h : s.rxFramed l = true ∨ (s.rxPat l).kind ≠ .user) :
    s.huntReason l = if s.rxFramed l = true ∧ (s.lane l).al.state ≠ .aligned then .waitAlign
      else if (s.rxPat l).kind = .user then .waitPhase else .waitSeed := by
  have ha : s.aligned l = decide ((s.lane l).al.state = .aligned) := rfl
  unfold State.huntReason
  by_cases hf : s.rxFramed l = true
  · by_cases ha' : (s.lane l).al.state = .aligned <;> simp [hf, ha, ha', patIsUser_iff]
  · have hu := h.resolve_left hf
    have hp : patIsUser (s.rxPat l).kind = false := by
      rw [← Bool.not_eq_true, patIsUser_iff]
      exact hu
    simp [hf, hu, hp]

theorem State.openSeq_eq : s.openSeq l =
    if s.rxFramed l = true ∧ (s.lane l).al.state = .aligned then some (s.lane l).al.seq else none := by
  unfold State.openSeq
  simp only [Bool.and_eq_true, State.aligned_iff]

/-- R37: the whole effect of a start, as one change of the lane. -/
theorem State.beginRx_eq : s.beginRx l = s.putLane l { s.lane l with
    ck := { (s.lane l).ck with
      state := .hunt, reason := s.huntReason l, confirmRun := 0, run := [], sinceLock := 0, lastLoss := .none }
    firstErr := false
    run := ⟨Counts.zero, s.tick, 0, none, if s.rxFramed l then (s.lane l).run.tag else (s.lane l).run.tag + 1⟩
    win :=
      { isOpen := true, nextNumber := (s.lane l).win.nextNumber + 1, number := (s.lane l).win.nextNumber,
        counts := Counts.zero, frames := 0, ticks := 0, pseudo := 0, openTick := s.tick, first := s.openSeq l,
        last := s.openSeq l, suspect := false, banks := Four.all false, errTag := none,
        tag := if s.rxFramed l then (s.lane l).win.tag else (s.lane l).win.tag + 1 }
    alarm := .clear, alarmKnown := false } := by
  have same : ∀ (f : Lane → Lane), (f (s.lane l)).al = (s.lane l).al →
      (s.modLane l f).openSeq l = s.openSeq l ∧ (s.modLane l f).huntReason l = s.huntReason l := by
    intro f hf
    have hl : (s.modLane l f).lane l = f (s.lane l) := by rw [State.lane_modLane, if_pos rfl]
    have ha : (s.modLane l f).aligned l = s.aligned l := by rw [State.aligned, State.aligned, hl, hf]
    constructor
    · unfold State.openSeq
      rw [ha, hl, hf]
      rfl
    · unfold State.huntReason
      rw [ha]
      rfl
  unfold State.beginRx State.enterHunt State.modCk State.clearRun State.openWindow State.modWin State.forgetAlarm
  dsimp only
  rw [(same _ rfl).2]
  simp only [State.modLane_modLane]
  rw [(same _ rfl).1]
  rfl

theorem State.startRx_passing (h : s.rxMode l = some .pass) : s.startRx r l = Reply.of s .badTarget :=
  if_pos (by simp [h])

theorem State.startRx_running (hm : s.rxMode l ≠ some .pass) (h : (s.lane l).ck.state ≠ .off) :
    s.startRx r l = Reply.of s .busy := by
  rw [State.startRx, if_neg (by simp [hm]), if_pos (by simp [State.ckOff_of_ne h])]

theorem State.startRx_noPhase (hm : s.rxMode l ≠ some .pass) (h : (s.lane l).ck.state = .off)
    (hf : s.rxFramed l = false) (hu : (s.rxPat l).kind = .user) : s.startRx r l = Reply.of s .noPhase := by
  rw [State.startRx, if_neg (by simp [hm]), if_neg (by simp [State.ckOff_iff.mpr h]), if_pos (by simp [hf, hu, patIsUser])]

theorem State.startRx_taken (hm : s.rxMode l ≠ some .pass) (h : (s.lane l).ck.state = .off)
    (hp : s.rxFramed l = true ∨ (s.rxPat l).kind ≠ .user) :
    s.startRx r l = Reply.ok ((s.beginRx l).modRemote l fun a =>
      { a with rxStarted := a.rxStarted || r.origin == .remote }) := by
  rw [State.startRx, if_neg (by simp [hm]), if_neg (by simp [State.ckOff_iff.mpr h]), if_neg]
  rw [Bool.and_eq_true, patIsUser_iff]
  rcases hp with hp | hp <;> simp [hp]

theorem State.modRemote_putLane (L : Lane) (f : RemoteActs → RemoteActs) :
    (s.putLane l L).modRemote l f = (s.putLane l { L with remote := f L.remote }).settleSup := by
  have : (s.putLane l L) = s.modLane l fun _ => L := rfl
  rw [this, State.modRemote, State.modLane_modLane]
  rfl

/-- A change that leaves a lane's entries as they stand. -/
theorem State.modRemote_of_same {f : RemoteActs → RemoteActs} (h : f (s.lane l).remote = (s.lane l).remote) :
    s.modRemote l f = s.settleSup := by
  have : s.modLane l (fun L => { L with remote := f L.remote }) = s := by
    rw [State.modLane_eq_putLane]
    rw [h]
    exact State.putLane_self
  rw [State.modRemote, this]

/-- Settles O25: the four answers, and a start as one change of its lane. -/
theorem startRxBegins : Obligations.StartRxBegins := by
  intro s rest tag l hc h
  refine ⟨fun hm => State.answer_lane hc h (State.startRx_passing hm),
    fun hm hst => State.answer_lane hc h (State.startRx_running hm hst),
    fun hm hst hf hu => State.answer_lane hc h (State.startRx_noPhase hm hst hf hu), fun hm hst hp => ?_⟩
  refine State.answer_lane hc h ((State.startRx_taken hm hst hp).trans (congrArg Reply.ok ?_)) State.settleSup_cmdQ
    State.settleSup_waiting
  have hlocal : ((localCmd 0x0B tag (laneOctet l) []).origin == Origin.remote) = false := rfl
  rw [State.modRemote_of_same (by rw [hlocal, Bool.or_false]), State.beginRx_eq, State.huntReason_eq hp, State.openSeq_eq]

/-! ### REMOTE origin -/

theorem State.settleSup_link : s.settleSup.link = s.link := by
  unfold State.settleSup
  split <;> rfl

theorem State.settleSup_lanes : s.settleSup.lanes = s.lanes := by
  unfold State.settleSup
  split <;> rfl

theorem State.settleSup_eq : s.settleSup = { s with sup := s.settleSup.sup } := by
  unfold State.settleSup
  split <;> rfl

/-- A REMOTE lane command that is taken, its answer without a body. -/
theorem State.answer_remote {β : Type} {own : CmdRec → LaneNo → β → Reply} {read : CmdRec → Option β} {b : β}
    (hc : s.configured = true) (h : s.takes ⟨.remote, code, tag, laneOctet l, 0, 0, body⟩ rest)
    (hb : read ⟨.remote, code, tag, laneOctet l, 0, 0, body⟩ = some b)
    (hown : own ⟨.remote, code, tag, laneOctet l, 0, 0, body⟩ l b = Reply.ok t) (hq : t.cmdQ = s.cmdQ)
    (hw : t.waiting = s.waiting) (hroom : t.link.outbound.length < 4) :
    Host.Outcome.next (s.command code false laneOf read own)
      = (.next (t.answeredRemotely ⟨.remote, code, tag, laneOctet l, 0, 0, body⟩ rest .ok) : Out) := by
  have e := State.command_own_remote h ⟨rfl, rfl⟩ hc (free := false) (tgt := laneOf) (x := l) (by simp) hb own
  refine congrArg _ (e.trans ?_)
  rw [hown]
  exact Reply.give_answeredRemotely rfl rfl h hq hw hroom

theorem State.setTxMode_remote_echo (hr : r.origin = .remote) :
    s.setTxMode r l (some .echo) = Reply.ok (s.putLane l { s.lane l with
      tx := { (s.lane l).tx with pendMode := some .echo }
      remote := { (s.lane l).remote with
        echoSet := some ((s.lane l).remote.echoSet.getD ((s.lane l).tx.pendMode.getD (s.lane l).tx.mode)) } }).settleSup := by
  have entry : ∀ (a : RemoteActs) (x : Tx),
      echoAfter r.origin .echo x a = { a with echoSet := some (a.echoSet.getD (x.pendMode.getD x.mode)) } := by
    rintro ⟨echo, _, _⟩ x
    unfold echoAfter
    rw [if_pos ⟨hr, rfl⟩]
    cases echo <;> rfl
  refine congrArg Reply.ok ((State.modTx_modRemote _ _).trans ?_)
  rw [entry]
  rfl

/-- Settles O15: each adds its entry, and its PEER_RESPONSE joins the outbound queue. -/
theorem remoteCommandsRecorded : Obligations.RemoteCommandsRecorded := by
  intro s rest tag l hc hroom
  refine ⟨fun h hst => ?_, fun body hb h => ?_, fun h hm hoff hp => ?_⟩
  · exact State.answer_remote (b := ()) hc h rfl (State.startTx_idle _ hst) State.settleSup_cmdQ State.settleSup_waiting
      (by rw [State.settleSup_link]; exact hroom)
  · have hread : bodyOf (.params (some TxMode.echo)) ⟨.remote, 0x0A, tag, laneOctet l, 0, 0, body⟩ = some (some .echo) := by
      cases body with
      | nil => exact absurd rfl hb
      | cons => rfl
    exact State.answer_remote hc h hread (State.setTxMode_remote_echo rfl) State.settleSup_cmdQ State.settleSup_waiting
      (by rw [State.settleSup_link]; exact hroom)
  · have hst : (s.lane l).ck.state = .off := State.ckOff_iff.mp hoff
    have hrow := State.startRx_taken (r := ⟨.remote, 0x0B, tag, laneOctet l, 0, 0, []⟩) hm hst hp
    rw [State.beginRx_eq, State.modRemote_putLane] at hrow
    refine ⟨_, State.answer_remote (b := ()) hc h rfl hrow State.settleSup_cmdQ State.settleSup_waiting
      (by rw [State.settleSup_link]; exact hroom), ?_, ?_, ?_⟩
    · rw [State.lane, State.settleSup_lanes]
      simp [State.putLane]
    · rw [State.lane, State.settleSup_lanes]
      simp [State.putLane]
    · rw [State.settleSup_eq]
      exact ⟨rfl, (State.others_iff _ _ l).mp (State.modLane_others s l fun _ => _)⟩

/-! ### SEND_PEER and SET_SUPERVISOR -/

theorem State.supPeriod_of_chan {c : ChanSettings} (h : s.chan = some c) : s.supPeriod = c.period := by
  rw [State.supPeriod, h]
  rfl

theorem State.periodChanged_eq (old : Nat) :
    s.periodChanged old = if s.supPeriod = old then s else { s with sup := { s.sup with ticks := 0 } }.settleSup := rfl

theorem State.setSupervisor_taken {a : SupervisorArg} {act : SupAction} {c : ChanSettings} (hc : s.chan = some c)
    (ha : a.action = some act) (hp : a.period ≤ 65535) :
    s.setSupervisor a = Reply.ok
      ({ s with chan := some { c with action := act, period := a.period } }.periodChanged c.period) := by
  unfold State.setSupervisor
  simp only [ha]
  rw [if_neg (Nat.not_lt.mpr hp), State.supPeriod_of_chan hc, hc]
  rfl

theorem State.sendPeer_eq (a : PeerArg) :
    s.sendPeer a = if a.kind ≠ 1 ∧ a.kind ≠ 3 ∧ a.kind ≠ 4 then Reply.of s .badField
      else if 59 < a.body.length then Reply.of s .badLength
      else if 4 ≤ s.link.outbound.length then Reply.of s .busy
      else Reply.ok (s.joinOutbound ⟨BitVec.ofNat 8 a.kind, a.code, a.tag, a.target, a.body⟩) := rfl

/-- Settles O41: a peer record is judged by kind, length and room; a supervisor by action and period. -/
theorem peerAndSupervisorCommands : Obligations.PeerAndSupervisorCommands := by
  intro s rest tag target body hc hb
  refine ⟨fun a h => ?_, fun a c hchan h => ?_⟩
  · have answer : ∀ {t : State} {st : Status}, s.sendPeer a = ⟨t, st, .empty⟩ → t.cmdQ = s.cmdQ → t.waiting = s.waiting →
        exec (.sendPeer (.params a)) s = .next (t.answered (localCmd 0x27 tag target body) rest st .empty) :=
      fun ha hq hw => State.answer_command h (.inl hc) (tgt := anyTarget) (x := ()) rfl (bodyOf_params a hb) ha hq hw
    rw [State.sendPeer_eq] at answer
    refine ⟨fun h1 h3 h4 => answer (if_pos ⟨h1, h3, h4⟩) rfl rfl, fun hk => ?_⟩
    rw [if_neg (by omega)] at answer
    refine ⟨fun hl => answer (if_pos hl) rfl rfl, fun hl hf => answer ?_ rfl rfl, fun hl hr => answer ?_ rfl rfl⟩
    · rw [if_neg (Nat.not_lt.mpr hl), if_pos hf]
      rfl
    · rw [if_neg (Nat.not_lt.mpr hl), if_neg (Nat.not_le.mpr hr), State.joinOutbound_of_room hr]
      rfl
  · have answer : ∀ {t : State} {st : Status}, s.setSupervisor a = ⟨t, st, .empty⟩ → t.cmdQ = s.cmdQ →
        t.waiting = s.waiting →
        exec (.setSupervisor (.params a)) s = .next (t.answered (localCmd 0x28 tag target body) rest st .empty) :=
      fun ha hq hw => State.answer_command h (.inl hc) (tgt := anyTarget) (x := ()) rfl (bodyOf_params a hb) ha hq hw
    refine ⟨fun hbad => answer ?_ rfl rfl, fun act ha hp => ?_⟩
    · unfold State.setSupervisor
      cases hact : a.action with
      | none => rfl
      | some act => exact if_pos (hbad.resolve_left (by simp [hact]))
    · rw [State.setSupervisor_taken hchan ha hp, State.periodChanged_eq] at answer
      refine ⟨fun he => answer ?_ rfl rfl, fun hne => answer ?_ State.settleSup_cmdQ State.settleSup_waiting⟩
      · rw [if_pos (by exact he), he]
        rfl
      · rw [if_neg (by exact hne)]
        rfl

end Sys2Proof.Machine
end

section
/-! What one lane is after an operation of its own: a lane that "stands as" a record does so up to its group items and history, which
the group aligner and the ratio engine may change at the same time. Each measuring operation then changes that record by one
function. -/

namespace Sys2Proof.Machine

variable {s t u : State} {l m : LaneNo} {X Y : Lane}

/-- From `s` the state `t` has the fixed fields, and its lane `l` stands as `X`, group items and history apart. -/
structure State.As (l : LaneNo) (s t : State) (X : Lane) : Prop where
  fixed : t.fixed = s.fixed
  stands : (t.lane l).still = X.still

theorem State.still_of_others (h : t.others none = s.others none) (l : LaneNo) : (t.lane l).still = (s.lane l).still :=
  (State.others_none_iff s t).mp h l

theorem State.still_of_others_ne (h : t.others (some m) = s.others (some m)) (hm : l ≠ m) :
    (t.lane l).still = (s.lane l).still := (State.others_iff s t m).mp h l hm

namespace State.As

theorem refl : s.As l s (s.lane l) := ⟨rfl, rfl⟩

theorem rebase (h : s.As l t X) : t.As l t X := ⟨rfl, h.stands⟩

theorem trans (h : s.As l t X) (k : t.As l u Y) : s.As l u Y := ⟨k.fixed.trans h.fixed, k.stands⟩

theorem congr (h : s.As l t X) (e : X.still = Y.still) : s.As l t Y := ⟨h.fixed, h.stands.trans e⟩

/-! ### What the lane holds -/

theorem tx (h : s.As l t X) : (t.lane l).tx = X.tx := (congrArg Lane.tx h.stands :)
theorem al (h : s.As l t X) : (t.lane l).al = X.al := (congrArg Lane.al h.stands :)
theorem ck (h : s.As l t X) : (t.lane l).ck = X.ck := (congrArg Lane.ck h.stands :)
theorem win (h : s.As l t X) : (t.lane l).win = X.win := (congrArg Lane.win h.stands :)
theorem run (h : s.As l t X) : (t.lane l).run = X.run := (congrArg Lane.run h.stands :)
theorem alarm (h : s.As l t X) : (t.lane l).alarm = X.alarm := (congrArg Lane.alarm h.stands :)
theorem alarmKnown (h : s.As l t X) : (t.lane l).alarmKnown = X.alarmKnown := (congrArg Lane.alarmKnown h.stands :)
theorem hold (h : s.As l t X) : (t.lane l).hold = X.hold := (congrArg Lane.hold h.stands :)
theorem stepCount (h : s.As l t X) : (t.lane l).stepCount = X.stepCount := (congrArg Lane.stepCount h.stands :)
theorem armed (h : s.As l t X) : (t.lane l).armed = X.armed := (congrArg Lane.armed h.stands :)
theorem firstErr (h : s.As l t X) : (t.lane l).firstErr = X.firstErr := (congrArg Lane.firstErr h.stands :)
theorem holdReq (h : s.As l t X) : (t.lane l).holdReq = X.holdReq := (congrArg Lane.holdReq h.stands :)
theorem idm (h : s.As l t X) : (t.lane l).idm = X.idm := (congrArg Lane.idm h.stands :)
theorem rxBuf (h : s.As l t X) : (t.lane l).rxBuf = X.rxBuf := (congrArg Lane.rxBuf h.stands :)
theorem rxDrops (h : s.As l t X) : (t.lane l).rxDrops = X.rxDrops := (congrArg Lane.rxDrops h.stands :)
theorem remote (h : s.As l t X) : (t.lane l).remote = X.remote := (congrArg Lane.remote h.stands :)

/-! ### What stands around it -/

theorem tick (h : s.As l t X) : t.tick = s.tick := (congrArg Fixed.tick h.fixed :)
theorem configured (h : s.As l t X) : t.configured = s.configured := (congrArg Fixed.configured h.fixed :)
theorem laneMap (h : s.As l t X) : t.laneMap = s.laneMap := (congrArg Fixed.laneMap h.fixed :)
theorem laneDesc (h : s.As l t X) : t.laneDesc = s.laneDesc := (congrArg Fixed.laneDesc h.fixed :)
theorem patDesc (h : s.As l t X) : t.patDesc = s.patDesc := (congrArg Fixed.patDesc h.fixed :)
theorem chan (h : s.As l t X) : t.chan = s.chan := (congrArg Fixed.chan h.fixed :)
theorem link (h : s.As l t X) : t.link = s.link := (congrArg Fixed.link h.fixed :)
theorem cmdQ (h : s.As l t X) : t.cmdQ = s.cmdQ := (congrArg Fixed.cmdQ h.fixed :)
theorem waiting (h : s.As l t X) : t.waiting = s.waiting := (congrArg Fixed.waiting h.fixed :)

theorem desc (h : s.As l t X) (m : LaneNo) : t.desc m = s.desc m := State.desc_of_fixed h.fixed m

theorem map (h : s.As l t X) (m : LaneNo) : t.map m = s.map m := by
  rw [State.map, h.laneMap, State.map]

theorem memberOf (h : s.As l t X) (m : LaneNo) : t.memberOf m = s.memberOf m := by
  rw [State.memberOf, h.map, State.memberOf]

theorem rxPat (h : s.As l t X) (m : LaneNo) : t.rxPat m = s.rxPat m := by
  rw [State.rxPat, State.pat, h.map, h.patDesc, State.rxPat, State.pat]

theorem rxFramed (h : s.As l t X) (m : LaneNo) : t.rxFramed m = s.rxFramed m := by
  rw [State.rxFramed, h.configured, h.desc, State.rxFramed]

theorem rxMode (h : s.As l t X) (m : LaneNo) : t.rxMode m = s.rxMode m := by
  rw [State.rxMode, h.laneDesc, State.rxMode]

/-! ### What follows from both -/

theorem ckOff (h : s.As l t X) : t.ckOff l = (X.ck.state == .off) := by
  rw [State.ckOff, h.ck]

theorem aligned (h : s.As l t X) : t.aligned l = (X.al.state == .aligned) := by
  rw [State.aligned, h.al]

theorem counting (h : s.As l t X) (hX : X.hold = (s.lane l).hold) : t.counting l = s.counting l := by
  rw [State.counting, h.hold, hX, h.desc, State.counting]

theorem huntReason (h : s.As l t X) (hX : X.al.state = (s.lane l).al.state) : t.huntReason l = s.huntReason l := by
  unfold State.huntReason
  rw [h.rxPat, h.rxFramed, h.aligned, hX]
  rfl

/-! ### Operations that leave the lane as it stands -/

theorem of_others (h : s.As l t X) (hf : u.fixed = t.fixed) (ho : u.others none = t.others none) : s.As l u X :=
  ⟨hf.trans h.fixed, (State.still_of_others ho l).trans h.stands⟩

theorem of_others_ne (h : s.As l t X) (hm : l ≠ m) (hf : u.fixed = t.fixed) (ho : u.others (some m) = t.others (some m)) :
    s.As l u X := ⟨hf.trans h.fixed, (State.still_of_others_ne ho hm).trans h.stands⟩

theorem notify (h : s.As l t X) (n : Notice) : s.As l (t.notify n) X :=
  h.of_others (State.notify_fixed ..) (State.notify_others ..)

theorem groupRefresh (h : s.As l t X) (m : LaneNo) : s.As l (t.groupRefresh m) X :=
  h.of_others (State.groupRefresh_fixed ..) (State.groupRefresh_others ..)

theorem groupLeft (h : s.As l t X) (m : LaneNo) : s.As l (t.groupLeft m) X :=
  h.of_others (State.groupLeft_fixed ..) (State.groupLeft_others ..)

theorem groupBoundary (h : s.As l t X) (m : LaneNo) (q : FrameSeq) : s.As l (t.groupBoundary m q) X :=
  h.of_others (State.groupBoundary_fixed ..) (State.groupBoundary_others ..)

theorem groupEvent (h : s.As l t X) (g : GroupId) (b : Option (LaneNo × FrameSeq)) : s.As l (t.groupEvent g b) X :=
  h.of_others (State.groupEvent_fixed ..) (State.groupEvent_others ..)

theorem groupCount (h : s.As l t X) (m : LaneNo) (c : Checked) : s.As l (t.groupCount m c) X :=
  h.of_others (State.groupCount_fixed ..) (State.groupCount_others ..)

theorem placeCapture (h : s.As l t X) (c : CapEntry) : s.As l (t.placeCapture c) X :=
  h.of_others (State.placeCapture_fixed ..) (State.placeCapture_others ..)

theorem fileRecord (h : s.As l t X) (r : WinRecord) (p n : Bool) : s.As l (t.fileRecord r p n) X :=
  h.of_others (State.fileRecord_fixed ..) (State.fileRecord_others ..)

theorem modHistory (h : s.As l t X) (src : Source) (f : List WinRecord → List WinRecord) : s.As l (t.modHistory src f) X :=
  h.of_others (State.modHistory_fixed ..) (State.modHistory_others ..)

theorem foldl {α : Type} {f : State → α → State} (hf : ∀ {t : State} (a : α), s.As l t X → s.As l (f t a) X) (xs : List α)
    (h : s.As l t X) : s.As l (xs.foldl f t) X :=
  foldl_keeps (P := fun v => s.As l v X) (fun a => hf a) xs h

/-! ### Changes of the lane -/

/-- A change that does not read the lane's group items and history. -/
theorem modLane (h : s.As l t X) {f : Lane → Lane} (hf : ∀ L, (f L).still = (f L.still).still := by exact fun _ => rfl) :
    s.As l (t.modLane l f) (f X) := by
  refine ⟨h.fixed, ?_⟩
  rw [State.lane_modLane, if_pos rfl, hf, h.stands, ← hf]

theorem modCk (h : s.As l t X) (f : Checker → Checker) : s.As l (t.modCk l f) { X with ck := f X.ck } := h.modLane
theorem modAl (h : s.As l t X) (f : Aligner → Aligner) : s.As l (t.modAl l f) { X with al := f X.al } := h.modLane
theorem modWin (h : s.As l t X) (f : Win → Win) : s.As l (t.modWin l f) { X with win := f X.win } := h.modLane
theorem modTx (h : s.As l t X) (f : Tx → Tx) : s.As l (t.modTx l f) { X with tx := f X.tx } := h.modLane

end State.As

/-- A report to the window unit, in one lane (R94). -/
def Lane.report (f : Counts → Counts) (L : Lane) : Lane :=
  { L with
    win := if L.win.isOpen then { L.win with counts := f L.win.counts } else L.win
    run := { L.run with counts := f L.run.counts } }

theorem State.report_eq (f : Counts → Counts) : s.report l f = s.modLane l (Lane.report f) := rfl

/-- A discarded pending heavy run, in one lane (R39). -/
def Lane.discarded (count : Bool) (L : Lane) : Lane :=
  if L.ck.run = [] then L
  else if count then Lane.report (Counts.addUnsynced (heavyCount L.ck.run)) { L with ck := { L.ck with run := [] } }
  else { L with ck := { L.ck with run := [] } }

/-- An entry to HUNT, in one lane (R40). -/
def Lane.hunting (r : HuntReason) (L : Lane) : Lane :=
  { L with ck := { L.ck with state := .hunt, reason := r, confirmRun := 0 } }

/-- A lane's hold request made (R136 step 4, R138). -/
def Lane.settled (L : Lane) : Lane :=
  { L with holdReq := false, hold := if L.holdReq ∧ L.hold = .run then .held else L.hold }

/-- A lane without a hold request stays as it is. -/
theorem Lane.settled_of_none (h : X.holdReq = false) : X.settled = X := by
  rw [Lane.settled, if_neg (by simp [h]), ← h]

section discarded
variable (c : Bool) (L : Lane)

theorem Lane.discarded_of_nil {L : Lane} (h : L.ck.run = []) : L.discarded c = L := if_pos h

theorem Lane.discarded_ck : (L.discarded c).ck = { L.ck with run := [] } := by
  unfold Lane.discarded
  split
  · next h => rw [← h]
  · split <;> rfl

/-- The rest of the lane, its counts and its run apart. -/
theorem Lane.discarded_rest : L.discarded c = { L with
    ck := (L.discarded c).ck, win := (L.discarded c).win, run := (L.discarded c).run } := by
  unfold Lane.discarded
  split
  · rfl
  · split <;> rfl

theorem Lane.discarded_uncounted : L.discarded false = { L with ck := { L.ck with run := [] } } := by
  unfold Lane.discarded
  split
  · next h => rw [← h]
  · rfl

end discarded

namespace State.As

theorem report (h : s.As l t X) (f : Counts → Counts) : s.As l (t.report l f) (X.report f) := h.modLane

theorem discardItem (h : s.As l t X) (it : RunItem) : s.As l (t.discardItem it) X := by
  cases it with
  | heavy r => exact h
  | entry c => exact h.placeCapture c

theorem discardRun (h : s.As l t X) (count give : Bool) : s.As l (t.discardRun l count give) (X.discarded count) := by
  unfold State.discardRun
  dsimp only
  rw [h.ck]
  by_cases hr : X.ck.run = []
  · rw [if_pos (by simp [hr]), Lane.discarded_of_nil count hr]
    exact h
  · rw [if_neg (by simpa [List.isEmpty_iff] using hr), Lane.discarded, if_neg hr]
    refine State.As.groupRefresh ?_ l
    have hcleared := h.modCk fun k => { k with run := [] }
    have hcounted : s.As l (if count then (t.modCk l fun k => { k with run := [] }).report l
          (Counts.addUnsynced (heavyCount X.ck.run)) else t.modCk l fun k => { k with run := [] })
        (if count then Lane.report (Counts.addUnsynced (heavyCount X.ck.run)) { X with ck := { X.ck with run := [] } }
          else { X with ck := { X.ck with run := [] } }) := by
      cases count with
      | true => exact hcleared.report _
      | false => exact hcleared
    cases give with
    | true => exact State.As.foldl (fun it h => h.discardItem it) _ hcounted
    | false => exact hcounted

theorem enterHunt (h : s.As l t X) (hX : X.al.state = (s.lane l).al.state) :
    s.As l (t.enterHunt l) (X.hunting (s.huntReason l)) := by
  rw [← h.huntReason hX]
  exact h.modCk fun k => { k with state := .hunt, reason := t.huntReason l, confirmRun := 0 }

/-- R39: a checker that is not OFF, forced into HUNT. -/
theorem forceHunt (h : s.As l t X) (hon : X.ck.state ≠ .off) (hX : X.al.state = (s.lane l).al.state) (cause : SyncCause)
    (count give : Bool) :
    s.As l (t.forceHunt l cause count give) ((X.discarded count).hunting (s.huntReason l)) := by
  unfold State.forceHunt
  rw [h.ckOff, if_neg (by simpa using hon)]
  have hal : (X.discarded count).al.state = (s.lane l).al.state := by
    rw [Lane.discarded_rest]
    exact hX
  refine State.As.groupRefresh ?_ l
  have hunts := (h.discardRun count give).enterHunt hal
  exact ite_keeps_of (P := fun v => s.As l v _) (fun h => h.notify _) hunts

theorem requestHold (h : s.As l t X) : s.As l (t.requestHold l) { X with hold := if X.hold = .run then .held else X.hold } := by
  unfold State.requestHold
  rw [h.hold]
  by_cases hr : X.hold = .run
  · rw [if_pos (by simp [hr]), if_pos hr]
    exact (h.modLane (f := fun L => { L with hold := .held })).groupRefresh l
  · rw [if_neg (by simpa using hr), if_neg hr]
    exact h

theorem settleHold (h : s.As l t X) : s.As l (t.settleHold l) X.settled := by
  unfold State.settleHold
  rw [h.holdReq]
  by_cases hr : X.holdReq = true
  · rw [if_pos hr]
    have := (h.modLane (f := fun L => { L with holdReq := false })).requestHold
    rw [Lane.settled, hr]
    simpa using this
  · rw [if_neg hr, Lane.settled_of_none (Bool.eq_false_iff.mpr hr)]
    exact h

/-- The hold requests of an arrival: lane `l` gets its own (R136 step 4). -/
theorem settleHolds (h : s.As l t X) : s.As l t.settleHolds X.settled := by
  have other : ∀ {v : State} (m : LaneNo), m ≠ l → v.Near l (v.settleHold m) := fun {v} m hm =>
    ⟨State.settleHold_fixed v m, State.still_of_others_ne (State.settleHold_others v m) (Ne.symm hm), State.pastOf_settleHold⟩
  obtain ⟨v, hv, hw⟩ := State.forLanes_near (s := t) (f := fun l s => s.settleHold l) other
  have hv' : s.As l v X := ⟨hv.fixed.trans h.fixed, hv.still.trans h.stands⟩
  have hs := hv'.settleHold
  exact ⟨hw.fixed.trans hs.fixed, hw.still.trans hs.stands⟩

end State.As

theorem State.settleHolds_of_settled (h : s.holdsSettled = true) : s.settleHolds = s := by
  have key : ∀ (ls : List LaneNo), ls.foldl (fun s l => s.settleHold l) s = s := by
    intro ls
    induction ls with
    | nil => rfl
    | cons m ls ih =>
      rw [List.foldl_cons, State.settleHold_eq s m (State.holdReq_of_settled h m)]
      exact ih
  exact key lanesAll

theorem State.forceHunt_of_off (h : (s.lane l).ck.state = .off) (c : SyncCause) (k g : Bool) : s.forceHunt l c k g = s :=
  if_pos (State.ckOff_iff.mpr h)

/-! ### Pattern descriptors (R18, R19) -/

theorem State.sendsPattern_iff : s.sendsPattern l = true ↔ (s.lane l).tx.state = .running ∧ (s.lane l).tx.mode = .pattern := by
  simp [State.sendsPattern]

theorem State.checksUnheld_iff : s.checksUnheld l = true ↔ (s.lane l).ck.state ≠ .off ∧ (s.lane l).hold ≠ .held := by
  simp [State.checksUnheld, State.ckOff]

theorem State.writePatDesc_refused {a : PatDescArg} (d : LaneNo) (h : PatDescArg.entry a = none) :
    s.writePatDesc d a = (.badField, s) := by
  rw [State.writePatDesc, h]

theorem State.writePatDesc_taken {a : PatDescArg} {e : PatDesc} (d : LaneNo) (h : PatDescArg.entry a = some e) :
    s.writePatDesc d a = if someLane (fun l => s.sendsPattern l && (s.map l).txId == d) ||
        someLane (fun l => s.checksUnheld l && (s.map l).rxId == d) then (.notHeld, s)
      else (.ok, { s with patDesc := s.patDesc.set d (some e) }.forLanes (State.rewrittenPat d)) := by
  rw [State.writePatDesc, h]

/-- A descriptor is in use on some lane. -/
theorem State.patInUse_iff (d : LaneNo) :
    (someLane (fun l => s.sendsPattern l && (s.map l).txId == d) ||
      someLane (fun l => s.checksUnheld l && (s.map l).rxId == d)) = true ↔
    ∃ l, ((s.lane l).tx.state = .running ∧ (s.lane l).tx.mode = .pattern ∧ (s.map l).txId = d) ∨
      ((s.lane l).ck.state ≠ .off ∧ (s.lane l).hold ≠ .held ∧ (s.map l).rxId = d) := by
  simp only [Bool.or_eq_true, someLane_iff, Bool.and_eq_true, State.sendsPattern_iff, State.checksUnheld_iff, beq_iff_eq,
    and_assoc, exists_or]

theorem State.rewrittenPat_near (d : LaneNo) (hm : m ≠ l) : s.Near l (State.rewrittenPat d m s) := by
  unfold State.rewrittenPat
  split
  · exact ⟨State.forceHunt_fixed .., State.still_of_others_ne (State.forceHunt_others ..) (Ne.symm hm),
      (Measured.past hm _).forceHunt _ _ _ rfl⟩
  · exact .refl

theorem State.rewrittenPat_fixed (d : LaneNo) : (State.rewrittenPat d l s).fixed = s.fixed := by
  unfold State.rewrittenPat
  split
  · exact State.forceHunt_fixed ..
  · rfl

/-- R19: what a rewritten descriptor does to one lane. -/
theorem State.rewritePats_lane (d : LaneNo) :
    ((s.lane l).ck.state = .off ∨ (s.map l).rxId ≠ d → ((s.forLanes (State.rewrittenPat d)).lane l).still = (s.lane l).still) ∧
    ((s.lane l).ck.state ≠ .off → (s.map l).rxId = d → (s.lane l).hold = .held →
      ((s.forLanes (State.rewrittenPat d)).lane l).ck.state = .hunt) := by
  obtain ⟨v, hv, hw⟩ := State.forLanes_near (s := s) (l := l) (f := State.rewrittenPat d) fun m hm =>
    State.rewrittenPat_near d hm
  have hv' : s.As l v (s.lane l) := ⟨hv.fixed, hv.still⟩
  refine ⟨fun h => hw.still.trans ?_, fun hon hrx hheld => ?_⟩
  · unfold State.rewrittenPat
    split
    · next hd =>
      have hoff : (v.lane l).ck.state = .off := by
        rw [hv'.map, Bool.and_eq_true, beq_iff_eq] at hd
        rw [hv'.ck]
        exact h.resolve_right fun hne => hne hd.1
      rw [State.forceHunt_of_off hoff]
      exact hv.still
    · exact hv.still
  · have hd : ((v.map l).rxId == d && (v.lane l).hold == .held) = true := by
      rw [hv'.map, hv.hold, hrx, hheld]
      simp
    have hunts := hv'.forceHunt hon rfl .rewrite true true
    refine (congrArg (fun L : Lane => L.ck.state) hw.still :).trans ?_
    change ((State.rewrittenPat d l v).lane l).ck.state = _
    rw [State.rewrittenPat, if_pos hd, hunts.ck]
    rfl

theorem PatDescArg.entry_prbs {a : PatDescArg} {k : PatKind} (h : a.kind = some k) (hk : k ≠ .user) :
    PatDescArg.entry a = some ⟨k, a.invert, seedOf (patOrder k) a.seed, 0, 0⟩ := by
  unfold PatDescArg.entry
  rw [h]
  cases k with
  | user => exact absurd rfl hk
  | _ => rfl

theorem PatDescArg.entry_user {a : PatDescArg} (h : a.kind = some .user) :
    PatDescArg.entry a = if a.start ≤ 4095 ∧ 1 ≤ a.len ∧ a.len ≤ 4096 ∧ a.start + a.len ≤ 4096 then
      some ⟨.user, a.invert, 0, a.start, a.len⟩ else none := by
  unfold PatDescArg.entry
  rw [h]
  refine if_congr ?_ rfl rfl
  simp only [Bool.and_eq_true, decide_eq_true_eq, and_assoc]

theorem PatDescArg.entry_none {a : PatDescArg} (h : a.kind = none) : PatDescArg.entry a = none := by
  unfold PatDescArg.entry
  rw [h]

/-- Settles O46: a descriptor in use unheld is not written; a HELD checker that uses a written one hunts. -/
theorem patternDescriptorWritten : Obligations.PatternDescriptorWritten := by
  intro s rest tag body d a hc hb h
  have write : ∀ {st : Status} {t : State}, s.writePatDesc d a = (st, t) → t.cmdQ = s.cmdQ → t.waiting = s.waiting →
      exec (.writePatternDescriptor (.params ⟨d.val, a⟩)) s = .next (t.answered (localCmd 0x05 tag 2 body) rest st .empty) := by
    intro st t hw hq hwt
    refine State.answer_write hc hb h rfl (by decide) ?_ hq hwt
    dsimp only
    rw [laneOf_val]
    exact hw
  refine ⟨fun hk => write (State.writePatDesc_refused d (PatDescArg.entry_none hk)) rfl rfl, fun hk hbad => ?_,
    fun e he hu => write ((State.writePatDesc_taken d he).trans (if_pos ((State.patInUse_iff d).mpr hu))) rfl rfl,
    fun e he hfree => ?_, fun e k he hk hu => ?_, PatDescArg.entry_none, fun k hk hu => ⟨_, PatDescArg.entry_prbs hk hu⟩,
    fun hk => ⟨?_, fun e he => ?_⟩⟩
  · refine write (State.writePatDesc_refused d ?_) rfl rfl
    rw [PatDescArg.entry_user hk, if_neg (by omega)]
  · have hno : ¬(someLane (fun l => s.sendsPattern l && (s.map l).txId == d) ||
        someLane (fun l => s.checksUnheld l && (s.map l).rxId == d)) = true := by
      rw [State.patInUse_iff]
      rintro ⟨l, hl | ⟨hon, hheld, hrx⟩⟩
      · exact (hfree l).1 hl
      · rcases (hfree l).2 with h | h | h
        · exact h hrx
        · exact hon h
        · exact hheld h
    have hlane := fun l => State.rewritePats_lane (s := { s with patDesc := s.patDesc.set d (some e) }) (l := l) d
    have hfix := State.forLanes_fixed (State.rewrittenPat d) (fun l v => State.rewrittenPat_fixed d)
      { s with patDesc := s.patDesc.set d (some e) }
    have htaken := (State.writePatDesc_taken d he).trans (if_neg hno)
    generalize { s with patDesc := s.patDesc.set d (some e) }.forLanes (State.rewrittenPat d) = t at htaken hlane hfix
    refine ⟨t, write htaken (congrArg Fixed.cmdQ hfix :) (congrArg Fixed.waiting hfix :), (congrArg Fixed.patDesc hfix :),
      (congrArg (fun F : Fixed => { F with patDesc := s.patDesc }) hfix :), fun l hl => (hlane l).1 hl,
      fun l hon hrx => (hlane l).2 hon hrx ?_⟩
    exact ((hfree l).2.resolve_left fun h => h hrx).resolve_left hon
  · rw [PatDescArg.entry_prbs hk hu, Option.some.injEq] at he
    subst he
    exact ⟨rfl, rfl, rfl⟩
  · rw [PatDescArg.entry_user hk]
    split
    · next hin => exact ⟨fun _ => hin, fun _ => ⟨_, rfl⟩⟩
    · next hout => exact ⟨fun ⟨_, h⟩ => (nomatch h), fun h => absurd h hout⟩
  · rw [PatDescArg.entry_user hk] at he
    split at he
    · rw [Option.some.injEq] at he
      subst he
      exact ⟨rfl, rfl, rfl, rfl⟩
    · exact absurd he nofun

end Sys2Proof.Machine
end

section
/-! A lane that counts, releases its pending heavy run, closes and opens its window, loses synchronization: each as one function of
the lane. -/

namespace Sys2Proof.Machine

variable {s t u : State} {l m : LaneNo} {X Y : Lane}

/-! ### Counting and judging -/

/-- R139: a lane counts by its hold state and its descriptor. -/
def State.countsAt (s : State) (l : LaneNo) : HoldState → Bool
  | .run => true
  | .stepping => true
  | .held => (s.desc l).countHeld

theorem State.counting_eq : s.counting l = s.countsAt l (s.lane l).hold := rfl

/-- R135: an armed trigger of a lane that counts, its checker not OFF. -/
def State.judges (s : State) (l : LaneNo) (L : Lane) : Bool := L.armed && !(L.ck.state == .off) && s.countsAt l L.hold

/-- An entry given to a lane: held in a pending heavy run that is not empty (R46). -/
def Lane.given (c : CapEntry) (L : Lane) : Lane :=
  if L.ck.run = [] then L else { L with ck := { L.ck with run := L.ck.run ++ [.entry c] } }

/-- A trigger that fires or not (R136), the run of its lane empty. -/
def State.fired (s : State) (l : LaneNo) (fires : Bool) (L : Lane) : Lane :=
  { L with armed := L.armed && !fires, holdReq := L.holdReq || (fires && (s.desc l).action == .hold) }

/-- A counted block in its lane, whose pending heavy run is empty (R51). -/
def State.countedLane (s : State) (l : LaneNo) (c : Checked) (L : Lane) : Lane :=
  s.fired l (s.judges l L && blockFires (s.desc l).trigger L.firstErr c.errs)
    { L with win := L.win.count c, run := L.run.count c, firstErr := L.firstErr || decide (c.errs ≠ 0) }

/-- A released pending heavy run in its lane: its heavy blocks counted, oldest first (R47). -/
def State.releasedLane (s : State) (l : LaneNo) (L : Lane) : Lane :=
  (heavyBlocks L.ck.run).foldl (fun L c => s.countedLane l c L) { L with ck := { L.ck with run := [] } }

theorem State.countedLane_rest (c : Checked) : s.countedLane l c X = { X with
    win := (s.countedLane l c X).win, run := (s.countedLane l c X).run, firstErr := (s.countedLane l c X).firstErr,
    armed := (s.countedLane l c X).armed, holdReq := (s.countedLane l c X).holdReq } := rfl

/-- Counting changes of a lane the counts, the first-error flag, the trigger and the hold request. -/
theorem State.countedLanes_rest (cs : List Checked) (L : Lane) :
    cs.foldl (fun L c => s.countedLane l c L) L = { L with
      win := (cs.foldl (fun L c => s.countedLane l c L) L).win, run := (cs.foldl (fun L c => s.countedLane l c L) L).run,
      firstErr := (cs.foldl (fun L c => s.countedLane l c L) L).firstErr,
      armed := (cs.foldl (fun L c => s.countedLane l c L) L).armed,
      holdReq := (cs.foldl (fun L c => s.countedLane l c L) L).holdReq } := by
  induction cs generalizing L with
  | nil => rfl
  | cons c cs ih =>
    rw [List.foldl_cons]
    exact ih _

theorem State.releasedLane_rest (L : Lane) : s.releasedLane l L = { L with
    ck := { L.ck with run := [] }, win := (s.releasedLane l L).win, run := (s.releasedLane l L).run,
    firstErr := (s.releasedLane l L).firstErr, armed := (s.releasedLane l L).armed,
    holdReq := (s.releasedLane l L).holdReq } :=
  State.countedLanes_rest (heavyBlocks L.ck.run) { L with ck := { L.ck with run := [] } }

theorem State.releasedLane_ck (L : Lane) : (s.releasedLane l L).ck = { L.ck with run := [] } :=
  (congrArg Lane.ck (State.releasedLane_rest L) :)

/-- Counting changes of the window the counts alone. -/
theorem State.countedLanes_win (cs : List Checked) (L : Lane) :
    (cs.foldl (fun L c => s.countedLane l c L) L).win.uncounted = L.win.uncounted := by
  induction cs generalizing L with
  | nil => rfl
  | cons c cs ih => exact (ih _).trans (Win.count_uncounted L.win c)

theorem State.releasedLane_win (L : Lane) : (s.releasedLane l L).win.uncounted = L.win.uncounted :=
  State.countedLanes_win (heavyBlocks L.ck.run) { L with ck := { L.ck with run := [] } }

theorem State.releasedLane_of_nil {L : Lane} (h : L.ck.run = []) : s.releasedLane l L = L := by
  unfold State.releasedLane
  rw [h]
  change { L with ck := { L.ck with run := [] } } = L
  rw [← h]

namespace State.As

theorem counts (h : s.As l t X) : t.counting l = s.countsAt l X.hold := by
  rw [State.counting_eq, h.hold]
  unfold State.countsAt
  rw [h.desc]

theorem trigJudged (h : s.As l t X) : t.trigJudged l = s.judges l X := by
  rw [State.trigJudged, h.armed, h.ckOff, h.counts, State.judges]

theorem giveEntry (h : s.As l t X) (c : CapEntry) : s.As l (t.giveEntry l c) (X.given c) := by
  unfold State.giveEntry Lane.given
  rw [h.ck]
  by_cases hr : X.ck.run = []
  · rw [if_pos (by simp [hr]), if_pos hr]
    exact h.placeCapture c
  · rw [if_neg (by simpa [List.isEmpty_iff] using hr), if_neg hr]
    exact h.modCk fun k => { k with run := k.run ++ [.entry c] }

theorem offerEvent (h : s.As l t X) (hr : X.ck.run = []) (k : CapKind) (q : Option FrameSeq) (p : Nat) :
    s.As l (t.offerEvent l k q p) X := by
  refine ite_keeps_of (P := fun v => s.As l v X) (fun h => ?_) h
  have := h.giveEntry ⟨l, k, q, p, none, t.tick⟩
  rwa [Lane.given, if_pos hr] at this

theorem fireTrigger (h : s.As l t X) (q : Option FrameSeq) (p : Nat) (x : Tick) :
    s.As l (t.fireTrigger l q p x)
      (Lane.given ⟨l, .trigger, q, p, none, x⟩ { X with armed := false, holdReq := X.holdReq || (s.desc l).action == .hold }) := by
  unfold State.fireTrigger
  refine State.As.notify ?_ _
  rw [h.desc]
  exact (h.modLane (f := fun L => { L with armed := false, holdReq := L.holdReq || (s.desc l).action == .hold })).giveEntry _

/-- A trigger judged while the run is empty. -/
theorem fireIf (h : s.As l t X) (hr : X.ck.run = []) (fires : Bool) (q : Option FrameSeq) (p : Nat) (x : Tick) :
    s.As l (if fires then t.fireTrigger l q p x else t) (s.fired l fires X) := by
  cases fires with
  | true =>
    have := h.fireTrigger q p x
    rw [Lane.given, if_pos (by exact hr)] at this
    refine this.congr ?_
    simp [State.fired]
  | false =>
    refine h.congr ?_
    simp [State.fired]

theorem countBlock (h : s.As l t X) (hr : X.ck.run = []) (c : Checked) :
    s.As l (t.countBlock l c) (s.countedLane l c X) := by
  unfold State.countBlock
  dsimp only
  have hcount := (h.modLane (f := fun L => { L with win := L.win.count c, run := L.run.count c })).groupCount l c
  have hgive : s.As l (if (c.errs ≠ 0 && c.wants) = true then
        ((t.modLane l fun L => { L with win := L.win.count c, run := L.run.count c }).groupCount l c).giveEntry l
          ⟨l, .bitErrors, c.seq, c.pos, some c.errs, c.tick⟩
      else (t.modLane l fun L => { L with win := L.win.count c, run := L.run.count c }).groupCount l c)
      { X with win := X.win.count c, run := X.run.count c } := by
    refine ite_keeps_of (P := fun v => s.As l v _) (fun h => ?_) hcount
    have := h.giveEntry ⟨l, .bitErrors, c.seq, c.pos, some c.errs, c.tick⟩
    rwa [Lane.given, if_pos (by exact hr)] at this
  have hset := hgive.modLane (f := fun L => { L with firstErr := L.firstErr || decide (c.errs ≠ 0) })
  rw [hgive.trigJudged, hgive.desc, hgive.firstErr]
  exact hset.fireIf hr _ _ _ _

theorem releaseItems (run : List RunItem) : ∀ {t : State} {X : Lane}, s.As l t X → X.ck.run = [] →
    s.As l (run.foldl (State.releaseItem l) t) ((heavyBlocks run).foldl (fun L c => s.countedLane l c L) X) := by
  induction run with
  | nil => exact fun h _ => h
  | cons it run ih =>
    intro t X h hr
    cases it with
    | heavy c => exact ih (h.countBlock hr c) hr
    | entry c => exact ih (h.placeCapture c) hr

/-- R47. -/
theorem releaseRun (h : s.As l t X) : s.As l (t.releaseRun l) (s.releasedLane l X) := by
  unfold State.releaseRun
  dsimp only
  rw [h.ck]
  by_cases hr : X.ck.run = []
  · rw [if_pos (by simp [hr]), State.releasedLane_of_nil hr]
    exact h
  · rw [if_neg (by simpa [List.isEmpty_iff] using hr)]
    exact (State.As.releaseItems X.ck.run (h.modCk fun k => { k with run := [] }) rfl).groupRefresh l

end State.As

/-! ### Windows -/

/-- A window as it opens (R79). -/
def State.openedWin (s : State) (l : LaneNo) (al : Aligner) (w : Win) : Win :=
  { isOpen := true, nextNumber := w.nextNumber + 1, number := w.nextNumber, counts := Counts.zero, frames := 0, ticks := 0,
    pseudo := 0, openTick := s.tick
    first := if s.rxFramed l = true ∧ al.state = .aligned then some al.seq else none
    last := if s.rxFramed l = true ∧ al.state = .aligned then some al.seq else none
    suspect := false, banks := Four.all false, errTag := none, tag := if s.rxFramed l then w.tag else w.tag + 1 }

/-- The lane in which a closing window's record is made (R82). -/
def State.closingLane (s : State) (l : LaneNo) (r : CloseReason) (L : Lane) : Lane :=
  if r = .restart then L else s.releasedLane l L

/-- A lane whose open window has closed (R82, R83). -/
def State.closedLane (s : State) (l : LaneNo) (r : CloseReason) (L : Lane) : Lane :=
  { s.closingLane l r L with
    win := if r = .length ∧ (s.desc l).rep = true then s.openedWin l L.al { (s.closingLane l r L).win with isOpen := false }
      else { (s.closingLane l r L).win with isOpen := false } }

theorem State.closingLane_rest (r : CloseReason) (L : Lane) : s.closingLane l r L = { L with
    ck := (s.closingLane l r L).ck, win := (s.closingLane l r L).win, run := (s.closingLane l r L).run,
    firstErr := (s.closingLane l r L).firstErr, armed := (s.closingLane l r L).armed,
    holdReq := (s.closingLane l r L).holdReq } := by
  unfold State.closingLane
  split
  · rfl
  · have e := State.releasedLane_rest (s := s) (l := l) L
    rwa [← State.releasedLane_ck (s := s) (l := l) L] at e

theorem State.closingLane_ck {r : CloseReason} (hr : r ≠ .restart) (L : Lane) :
    (s.closingLane l r L).ck = { L.ck with run := [] } := by
  rw [State.closingLane, if_neg hr, State.releasedLane_ck]

theorem State.closingLane_win (r : CloseReason) (L : Lane) : (s.closingLane l r L).win.uncounted = L.win.uncounted := by
  unfold State.closingLane
  split
  · rfl
  · exact State.releasedLane_win L

theorem State.closingLane_of_nil {L : Lane} (h : L.ck.run = []) (r : CloseReason) : s.closingLane l r L = L := by
  unfold State.closingLane
  split
  · rfl
  · exact State.releasedLane_of_nil h

namespace State.As

theorem openWindow (h : s.As l t X) : s.As l (t.openWindow l) { X with win := s.openedWin l X.al X.win } := by
  have hseq : t.openSeq l = if s.rxFramed l = true ∧ X.al.state = .aligned then some X.al.seq else none := by
    rw [State.openSeq_eq, h.rxFramed, h.al]
  unfold State.openWindow
  rw [hseq, h.tick, h.rxFramed]
  exact h.modWin _

theorem closeWindow (h : s.As l t X) (ho : X.win.isOpen = true) (r : CloseReason) :
    s.As l (t.closeWindow l r) (s.closedLane l r X) := by
  have hw : (t.lane l).win.isOpen = true := by rw [h.win, ho]
  have hclosing : s.As l (t.released l r) (s.closingLane l r X) := by
    unfold State.released State.closingLane
    split
    · exact h
    · exact h.releaseRun
  have hserial : s.As l { t.released l r with serial := (t.released l r).serial + 1 } (s.closingLane l r X) :=
    ⟨hclosing.fixed, hclosing.stands⟩
  have hfiled : s.As l (t.windowFiled l r)
      { s.closingLane l r X with win := { (s.closingLane l r X).win with isOpen := false } } :=
    (hserial.fileRecord _ _ _).modWin fun w => { w with isOpen := false }
  have hal : (s.closingLane l r X).al = X.al := (congrArg Lane.al (State.closingLane_rest r X) :)
  rw [State.closeWindow_of_open hw, hfiled.desc]
  unfold State.closedLane
  by_cases hrep : r = .length ∧ (s.desc l).rep = true
  · rw [if_pos (by simp [hrep]), if_pos hrep, ← hal]
    exact hfiled.openWindow
  · rw [if_neg (by simpa using hrep), if_neg hrep]
    exact hfiled

theorem closeWindow_of_closed (h : s.As l t X) (ho : X.win.isOpen = false) (r : CloseReason) : s.As l (t.closeWindow l r) X := by
  rw [State.closeWindow_of_closed (by rw [h.win, ho])]
  exact h

end State.As

/-! ### Loss of synchronization, the check at the end of a hold, a stopped checker -/

/-- R48 from its third step on, the pending heavy run empty. -/
def State.lostLane (s : State) (l : LaneNo) (kind : LossKind) (L : Lane) : Lane :=
  { s.fired l (s.judges l L && (s.desc l).trigger == .syncLoss) (L.report Counts.addSyncLoss) with
    ck := { L.ck with state := .lost, lastLoss := kind } }

/-- A lane whose checker has stopped (R38), its window closed. -/
def Lane.stopped (L : Lane) : Lane := { L with ck := { L.ck with state := .off, confirmRun := 0, sinceLock := 0 } }

namespace State.As

theorem countLoss (h : s.As l t X) (hr : X.ck.run = []) (kind : LossKind) (q : Option FrameSeq) (p : Nat) :
    s.As l (t.countLoss l kind q p) (s.lostLane l kind X) := by
  unfold State.countLoss
  have hrep := (h.report Counts.addSyncLoss).offerEvent hr .syncLoss q p
  refine State.As.groupRefresh (State.As.notify ?_ _) l
  have hjudge : s.judges l (X.report Counts.addSyncLoss) = s.judges l X := rfl
  rw [hrep.trigJudged, hrep.desc, hjudge]
  exact (hrep.fireIf hr _ _ _ _).modCk fun k => { k with state := .lost, lastLoss := kind }

/-- R55: what the check at the end of a hold does on a FRAMED lane that is not ALIGNED. -/
theorem holdEndCheck_unaligned (h : s.As l t X) (hf : s.rxFramed l = true) (hal : X.al.state = (s.lane l).al.state)
    (hno : X.al.state ≠ .aligned) :
    s.As l (t.holdEndCheck l) (match X.ck.state with
      | .locked => s.lostLane l .marker (X.discarded true)
      | .confirm => X.hunting (s.huntReason l)
      | .hunt => X.hunting (s.huntReason l)
      | _ => X) := by
  have ha : t.aligned l = false := by
    rw [h.aligned]
    simpa using hno
  unfold State.holdEndCheck
  rw [h.rxFramed, hf, if_neg (by simp), h.ck, ha]
  cases X.ck.state with
  | off => exact h
  | hunt => exact h.enterHunt hal
  | confirm => exact h.enterHunt hal
  | locked => exact (h.discardRun true true).countLoss (by rw [Lane.discarded_ck]) _ _ _
  | lost => exact h

/-- R55, of any lane: its checker is left as it stands, hunts, or has lost synchronization. -/
theorem holdEndCheck (h : s.As l t X) (hal : X.al.state = (s.lane l).al.state) :
    s.As l (t.holdEndCheck l) X ∨ (X.ck.state ≠ .off ∧ X.ck.state ≠ .lost ∧ X.ck.state ≠ .locked ∧
        s.As l (t.holdEndCheck l) (X.hunting (s.huntReason l))) ∨
      (X.ck.state = .locked ∧ s.As l (t.holdEndCheck l) (s.lostLane l .marker (X.discarded true))) := by
  unfold State.holdEndCheck
  rw [h.ck]
  by_cases hf : t.rxFramed l = true
  · rw [if_neg (by simp [hf])]
    cases hk : X.ck.state with
    | off => exact .inl h
    | lost => exact .inl h
    | hunt =>
      dsimp only
      split
      · exact .inr (.inl ⟨nofun, nofun, nofun, h.enterHunt hal⟩)
      · split
        · exact .inr (.inl ⟨nofun, nofun, nofun, h.enterHunt hal⟩)
        · exact .inl h
    | confirm =>
      dsimp only
      split
      · exact .inl h
      · exact .inr (.inl ⟨nofun, nofun, nofun, h.enterHunt hal⟩)
    | locked =>
      dsimp only
      split
      · exact .inl h
      · exact .inr (.inr ⟨rfl, (h.discardRun true true).countLoss (by rw [Lane.discarded_ck]) _ _ _⟩)
  · rw [if_pos (by simpa using hf)]
    exact .inl h

/-- R38. -/
theorem stopChecker (h : s.As l t X) (hon : X.ck.state ≠ .off) :
    s.As l (t.stopChecker l) (Lane.stopped (if X.win.isOpen = true then s.closedLane l .stop X else s.releasedLane l X)) := by
  have hrun : (s.releasedLane l X).ck.run = [] := by rw [State.releasedLane_ck]
  have hopen : (s.releasedLane l X).win.isOpen = X.win.isOpen := (congrArg Win.isOpen (State.releasedLane_win X) :)
  unfold State.stopChecker
  rw [h.ckOff, if_neg (by simpa using hon)]
  refine State.As.groupRefresh ?_ l
  have hclosed : s.As l ((t.releaseRun l).closeWindow l .stop)
      (if X.win.isOpen = true then s.closedLane l .stop X else s.releasedLane l X) := by
    split
    · next ho =>
      have := h.releaseRun.closeWindow (hopen.trans ho) .stop
      have e : s.closedLane l .stop (s.releasedLane l X) = s.closedLane l .stop X := by
        unfold State.closedLane
        rw [State.closingLane_of_nil hrun, if_neg (by simp), if_neg (by simp)]
        rfl
      rwa [e] at this
    · next ho => exact h.releaseRun.closeWindow_of_closed (hopen.trans (Bool.eq_false_iff.mpr ho)) .stop
  exact ite_keeps_of (P := fun v => s.As l v _) (fun h => h.notify _)
    (hclosed.modCk fun k => { k with state := .off, confirmRun := 0, sinceLock := 0 })

end State.As

end Sys2Proof.Machine
end

section
/-! The commands and expiries that stop a checker and open or close a lane's window. -/

namespace Sys2Proof.Machine

variable {s t u : State} {l m : LaneNo} {X Y : Lane} {rest : List CmdRec} {tag : Octet}

/-! ### The record that a closing window files -/

/-- In `t` the history of lane `l` ends with the record of the window that closed for the reason `r` from `s`, its status apart. -/
def State.Filed (s : State) (l : LaneNo) (r : CloseReason) (t : State) : Prop :=
  ∃ x, (t.lane l).hist.getLast? = some x ∧ x.noStatus = ((s.released l r).laneRecord l r).noStatus

theorem State.Filed.past (h : s.Filed l r t) (e : u.pastOf l = t.pastOf l) : s.Filed l r u := by
  obtain ⟨x, hx, hxe⟩ := h
  exact (State.last_of_pastOf e hx).imp fun y hy => ⟨hy.1, hy.2.trans hxe⟩

theorem State.pastOf_openWindow : (s.openWindow m).pastOf l = s.pastOf l := State.pastOf_modLane rfl

theorem State.closeWindow_filed (ho : (s.lane l).win.isOpen = true) (r : CloseReason) : s.Filed l r (s.closeWindow l r) := by
  have hf : s.Filed l r (s.windowFiled l r) := State.windowFiled_last r
  rw [State.closeWindow_of_open ho]
  split
  · exact hf.past State.pastOf_openWindow
  · exact hf

/-- R83: what the filed record says. -/
theorem State.Filed.record (h : s.Filed l r t) : ∃ x, (t.lane l).hist.getLast? = some x ∧ x.source = .lane l ∧
    x.number = (s.lane l).win.number ∧ x.reason = r ∧ x.openTick = (s.lane l).win.openTick ∧ x.closeTick = s.tick ∧
    x.frames = (s.lane l).win.frames ∧ x.suspect = (s.lane l).win.suspect ∧
    ((s.lane l).ck.run = [] → x.counts = (s.lane l).win.counts) := by
  obtain ⟨x, hx, e⟩ := h
  obtain ⟨hnum, hreas, hot, hct, hfr⟩ := State.closedRecord r e
  refine ⟨x, hx, (congrArg WinRecord.source e :), hnum, hreas, hot, hct, hfr, ?_, fun hrun => ?_⟩
  · exact (congrArg WinRecord.suspect e :).trans (congrArg Win.suspect (State.released_uncounted (s := s) (l := l) r) :)
  · have hs : s.released l r = s := by
      unfold State.released State.releaseRun
      rw [hrun]
      exact ite_self _
    rw [hs] at e
    exact (congrArg WinRecord.counts e :)

/-! ### What a closed window leaves of its lane -/

theorem State.closingLane_tx (r : CloseReason) : (s.closingLane l r X).tx = X.tx := (congrArg Lane.tx (State.closingLane_rest r X) :)
theorem State.closingLane_al (r : CloseReason) : (s.closingLane l r X).al = X.al := (congrArg Lane.al (State.closingLane_rest r X) :)
theorem State.closingLane_remote (r : CloseReason) : (s.closingLane l r X).remote = X.remote :=
  (congrArg Lane.remote (State.closingLane_rest r X) :)

theorem State.releasedLane_tx : (s.releasedLane l X).tx = X.tx := (congrArg Lane.tx (State.releasedLane_rest X) :)
theorem State.releasedLane_al : (s.releasedLane l X).al = X.al := (congrArg Lane.al (State.releasedLane_rest X) :)
theorem State.releasedLane_remote : (s.releasedLane l X).remote = X.remote :=
  (congrArg Lane.remote (State.releasedLane_rest X) :)

theorem State.closedLane_isOpen {r : CloseReason} (hr : r ≠ .length) : (s.closedLane l r X).win.isOpen = false := by
  unfold State.closedLane
  rw [if_neg fun h => hr h.1]

theorem State.closedLane_nextNumber {r : CloseReason} (hr : r ≠ .length) :
    (s.closedLane l r X).win.nextNumber = X.win.nextNumber := by
  unfold State.closedLane
  rw [if_neg fun h => hr h.1]
  exact (congrArg Win.nextNumber (State.closingLane_win r X) :)

/-! ### STOP_RX and RESYNC -/

theorem State.lane_modRemote (f : RemoteActs → RemoteActs) :
    (s.modRemote l f).lane l = { s.lane l with remote := f (s.lane l).remote } := by
  rw [State.modRemote, State.lane, State.settleSup_lanes]
  exact (State.lane_modLane ..).trans (if_pos rfl)

theorem State.keeps_modRemote (h : s.keeps t l) (f : RemoteActs → RemoteActs) :
    s.keeps { t.modRemote l f with sup := s.sup } l := by
  refine ⟨?_, fun m hm => ?_⟩
  · rw [State.modRemote, State.settleSup_eq]
    exact (congrArg (fun F : Fixed => { F with sup := s.sup }) h.1 :)
  · refine (congrArg Lane.still ?_).trans (h.2 m hm)
    change (t.modRemote l f).lane m = t.lane m
    rw [State.modRemote, State.lane, State.settleSup_lanes]
    exact (State.lane_modLane ..).trans (if_neg hm)

theorem State.pastOf_modRemote (f : RemoteActs → RemoteActs) : (s.modRemote m f).pastOf l = s.pastOf l := by
  have h : (s.modRemote m f).pastOf l = (s.modLane m fun L => { L with remote := f L.remote }).pastOf l := by
    rw [State.modRemote, State.pastOf, State.lane, State.settleSup_lanes]
    rfl
  exact h.trans (State.pastOf_modLane rfl)

/-- A stopped lane: OFF, its window closed, its pending heavy run empty. -/
theorem State.stoppedLane_facts (X : Lane) :
    let Y := (Lane.stopped (if X.win.isOpen = true then s.closedLane l .stop X else s.releasedLane l X)).settled
    Y.ck.state = .off ∧ Y.ck.confirmRun = 0 ∧ Y.ck.sinceLock = 0 ∧ Y.ck.run = [] ∧ Y.win.isOpen = false ∧ Y.tx = X.tx ∧
      Y.al = X.al ∧ Y.remote = X.remote := by
  dsimp only
  split
  · exact ⟨rfl, rfl, rfl, (congrArg Checker.run (State.closingLane_ck (r := .stop) nofun X) :), State.closedLane_isOpen (by decide),
      State.closingLane_tx .stop, State.closingLane_al .stop, State.closingLane_remote .stop⟩
  · next ho =>
    exact ⟨rfl, rfl, rfl, (congrArg Checker.run (State.releasedLane_ck X) :),
      (congrArg Win.isOpen (State.releasedLane_win X) :).trans (Bool.eq_false_iff.mpr ho), State.releasedLane_tx,
      State.releasedLane_al, State.releasedLane_remote⟩

theorem State.stopChecker_of_off (h : (s.lane l).ck.state = .off) : s.stopChecker l = s := if_pos (State.ckOff_iff.mpr h)

/-- A stop files the record of the window that was open. -/
theorem State.stopChecker_filed (hon : (s.lane l).ck.state ≠ .off) (ho : (s.lane l).win.isOpen = true) :
    (s.releaseRun l).Filed l .stop (s.stopChecker l) := by
  have hopen : ((s.releaseRun l).lane l).win.isOpen = true :=
    (congrArg Win.isOpen (State.releaseRun_uncounted (s := s) (m := l) (l := l)) :).trans ho
  have hf := State.closeWindow_filed hopen .stop
  unfold State.stopChecker
  rw [State.ckOff_of_ne hon, if_neg Bool.false_ne_true]
  refine hf.past (State.pastOf_groupRefresh.trans ?_)
  refine ite_keeps_of (P := fun t => t.pastOf l = _) (fun h => (State.pastOf_notify _).trans h) ?_
  exact State.pastOf_modLane rfl

theorem State.stopRx_facts (s : State) (l : LaneNo) :
    ((s.stopRx l).lane l).ck.state = .off ∧ ((s.stopRx l).lane l).remote = { (s.lane l).remote with rxStarted := false } ∧
      ((s.lane l).ck.state = .off → s.holdsSettled = true → ((s.stopRx l).lane l).ck = (s.lane l).ck ∧
        ((s.stopRx l).lane l).win = (s.lane l).win ∧ ((s.stopRx l).lane l).hist = (s.lane l).hist ∧
        ((s.stopRx l).lane l).run = (s.lane l).run) ∧
      ((s.lane l).ck.state ≠ .off →
        ((s.stopRx l).lane l).ck.confirmRun = 0 ∧ ((s.stopRx l).lane l).ck.sinceLock = 0 ∧ ((s.stopRx l).lane l).ck.run = [] ∧
        ((s.stopRx l).lane l).win.isOpen = false ∧
        ((s.lane l).win.isOpen = true → ∃ r, ((s.stopRx l).lane l).hist.getLast? = some r ∧ r.source = .lane l ∧
          r.number = (s.lane l).win.number ∧ r.reason = .stop ∧ r.openTick = (s.lane l).win.openTick ∧
          r.closeTick = s.tick)) ∧
      ((s.stopRx l).lane l).tx = (s.lane l).tx ∧ ((s.stopRx l).lane l).al = (s.lane l).al := by
  have hlane : (s.stopRx l).lane l = _ := State.lane_modRemote _
  by_cases hon : (s.lane l).ck.state = .off
  · have hstop := State.stopChecker_of_off hon
    have has : s.As l s.settleHolds _ := State.As.refl.settleHolds
    rw [hlane, hstop]
    refine ⟨has.ck ▸ hon, congrArg (fun a : RemoteActs => { a with rxStarted := false }) has.remote, fun _ hs => ?_,
      fun h => absurd hon h, has.tx, has.al⟩
    rw [State.settleHolds_of_settled hs]
    exact ⟨rfl, rfl, rfl, rfl⟩
  · have has := (State.As.refl (s := s) (l := l)).stopChecker hon |>.settleHolds
    obtain ⟨hst, hcr, hsl, hrun, hopen, htx, hal, hrem⟩ := State.stoppedLane_facts (s := s) (l := l) (s.lane l)
    have hpast : (s.stopRx l).pastOf l = (s.stopChecker l).pastOf l :=
      (State.pastOf_modRemote _).trans State.pastOf_settleHolds
    refine ⟨?_, ?_, fun h => absurd h hon, fun _ => ⟨?_, ?_, ?_, ?_, fun ho => ?_⟩, ?_, ?_⟩
    · rw [hlane]; exact (congrArg Checker.state has.ck :).trans hst
    · rw [hlane]
      exact congrArg (fun a : RemoteActs => { a with rxStarted := false }) (has.remote.trans hrem)
    · rw [hlane]; exact (congrArg Checker.confirmRun has.ck :).trans hcr
    · rw [hlane]; exact (congrArg Checker.sinceLock has.ck :).trans hsl
    · rw [hlane]; exact (congrArg Checker.run has.ck :).trans hrun
    · rw [hlane]; exact (congrArg Win.isOpen has.win :).trans hopen
    · have hw := State.releaseRun_uncounted (s := s) (m := l) (l := l)
      obtain ⟨x, hx, hsrc, hnum, hreas, hot, hct, _⟩ := ((State.stopChecker_filed hon ho).past hpast).record
      exact ⟨x, hx, hsrc, hnum.trans (congrArg Win.number hw :), hreas, hot.trans (congrArg Win.openTick hw :),
        hct.trans (State.tick_of_fixed (State.releaseRun_fixed s l))⟩
    · rw [hlane]; exact has.tx.trans htx
    · rw [hlane]; exact has.al.trans hal

theorem State.keeps_stopRx (h : s.holdsSettled = true) : s.keeps { s.stopRx l with sup := s.sup } l :=
  State.keeps_modRemote (State.keeps_settleHolds h (State.stopChecker_fixed s l) (State.stopChecker_others ..)) _

theorem State.resync_of_off_or_hunt (h : (s.lane l).ck.state = .off ∨ (s.lane l).ck.state = .hunt) : s.resync l = s := by
  unfold State.resync
  rcases h with h | h <;> rw [h]

theorem State.resync_of_checking (hoff : (s.lane l).ck.state ≠ .off) (hhunt : (s.lane l).ck.state ≠ .hunt) :
    s.resync l = s.forceHunt l .resync true true := by
  unfold State.resync
  split
  · contradiction
  · contradiction
  · rfl

/-- Settles O26: a stop ends its window with the record STOP; a resync discards the pending heavy run. -/
theorem stopRxAndResync : Obligations.StopRxAndResync := by
  refine ⟨fun s rest tag l hc h => ?_, fun s rest tag l hc h => ⟨fun hidle => ?_, fun hoff hhunt => ?_⟩⟩
  · obtain ⟨hst, hrem, hidle, hon, htx, hal⟩ := s.stopRx_facts l
    refine ⟨s.stopRx l, State.answer_lane hc h rfl ?_ ?_, hst, hrem, hidle, hon, htx, hal, State.keeps_stopRx⟩
    · exact State.settleSup_cmdQ.trans (State.cmdQ_of_fixed ((State.settleHolds_fixed _).trans (State.stopChecker_fixed s l)))
    · exact State.settleSup_waiting.trans
        (State.waiting_of_fixed ((State.settleHolds_fixed _).trans (State.stopChecker_fixed s l)))
  · exact State.answer_lane hc h (congrArg Reply.ok (State.resync_of_off_or_hunt hidle))
  · have hunts := (State.As.refl (s := s) (l := l)).forceHunt hoff rfl .resync true true
    have hkeeps : s.keeps (s.forceHunt l .resync true true) l :=
      State.keeps_of_others (State.forceHunt_fixed ..) (State.forceHunt_others ..)
    refine ⟨_, State.answer_lane hc h (congrArg Reply.ok (State.resync_of_checking hoff hhunt)) (State.cmdQ_of_fixed hkeeps.1)
      (State.waiting_of_fixed hkeeps.1), ?_, ?_, ?_, fun hrun => ?_, fun hrun => ⟨?_, ?_⟩, ?_, ?_, hkeeps⟩
    · exact (congrArg Checker.state hunts.ck :)
    · exact (congrArg Checker.confirmRun hunts.ck :)
    · exact (congrArg Checker.run hunts.ck :).trans (congrArg Checker.run (Lane.discarded_ck true (s.lane l)) :)
    · rw [hunts.run, Lane.discarded, if_neg hrun]
      rfl
    · rw [hunts.run, Lane.discarded_of_nil true hrun]
      rfl
    · rw [hunts.win, Lane.discarded_of_nil true hrun]
      rfl
    · rw [hunts.al]
      exact (congrArg Lane.al (Lane.discarded_rest true (s.lane l)) :)
    · rw [hunts.tx]
      exact (congrArg Lane.tx (Lane.discarded_rest true (s.lane l)) :)

end Sys2Proof.Machine
end

section
/-! OPEN_WINDOW, CLOSE_WINDOW and CLEAR_RUN; the expiries of a lane. -/

namespace Sys2Proof.Machine

variable {s t u : State} {l m : LaneNo} {X Y : Lane} {rest : List CmdRec} {tag : Octet}

/-- A lane before OPEN_WINDOW opens the next window. -/
def State.leftLane (s : State) (l : LaneNo) (L : Lane) : Lane := if L.win.isOpen = true then s.closedLane l .command L else L

theorem State.leftLane_nextNumber (X : Lane) : (s.leftLane l X).win.nextNumber = X.win.nextNumber := by
  unfold State.leftLane
  split
  · exact State.closedLane_nextNumber (by decide)
  · rfl

theorem State.As.reopenWindow (h : s.As l t X) :
    s.As l (t.reopenWindow l)
      ({ s.leftLane l X with win := s.openedWin l (s.leftLane l X).al (s.leftLane l X).win }.settled) := by
  have hclosed : s.As l (t.closeWindow l .command) (s.leftLane l X) := by
    unfold State.leftLane
    split
    · next ho => exact h.closeWindow ho .command
    · next ho => exact h.closeWindow_of_closed (Bool.eq_false_iff.mpr ho) .command
  exact hclosed.openWindow.settleHolds

theorem State.reopenWindow_fixed : (s.reopenWindow l).fixed = s.fixed :=
  (State.settleHolds_fixed _).trans (State.closeWindow_fixed s l .command)

theorem State.keeps_reopenWindow (h : s.holdsSettled = true) : s.keeps (s.reopenWindow l) l :=
  State.keeps_settleHolds h (State.closeWindow_fixed s l .command)
    ((State.openWindow_others ..).trans (State.closeWindow_others ..))

/-- The windows' own operations make no hold request. -/
theorem State.holdsSettled_modWin (h : s.holdsSettled = true) (f : Win → Win) : (s.modWin l f).holdsSettled = true := by
  refine State.settled_iff.mp ⟨fun m => ?_, fun _ => trivial⟩
  rw [State.modWin, State.lane_modLane]
  split
  · exact State.holdReq_of_settled h l
  · exact State.holdReq_of_settled h m

theorem State.reopenWindow_hist (ho : (s.lane l).win.isOpen = false) (h : s.holdsSettled = true) :
    ((s.reopenWindow l).lane l).hist = (s.lane l).hist := by
  rw [State.reopenWindow, State.closeWindow_of_closed ho, State.openWindow,
    State.settleHolds_of_settled (State.holdsSettled_modWin h _), State.modWin, State.lane_modLane, if_pos rfl]

/-- Settles O29: a window that closes files its record; the next one takes the next number and counts from zero. -/
theorem windowCommandsOpenAndClose : Obligations.WindowCommandsOpenAndClose := by
  refine ⟨fun s rest tag l hc => ⟨fun h => ⟨fun hoff => ?_, fun hon => ?_⟩, fun h => ⟨fun ho hs => ?_, fun ho => ?_⟩⟩,
    fun s rest tag l hc h => State.answer_lane hc h rfl⟩
  · exact State.answer_lane hc h (if_pos (State.ckOff_iff.mpr hoff))
  · have has := (State.As.refl (s := s) (l := l)).reopenWindow
    have hfix := State.reopenWindow_fixed (s := s) (l := l)
    have hw := has.win
    have hnum := State.leftLane_nextNumber (s := s) (l := l) (s.lane l)
    refine ⟨s.reopenWindow l, State.answer_lane hc h (if_neg (by simp [State.ckOff_of_ne hon])) (State.cmdQ_of_fixed hfix)
      (State.waiting_of_fixed hfix), (congrArg Win.isOpen hw :), (congrArg Win.number hw :).trans hnum,
      (congrArg Win.nextNumber hw :).trans (congrArg (· + 1) hnum), (congrArg Win.counts hw :), (congrArg Win.frames hw :),
      (congrArg Win.ticks hw :), (congrArg Win.openTick hw :), (congrArg Win.suspect hw :), State.keeps_reopenWindow,
      fun ho => ?_, State.reopenWindow_hist⟩
    obtain ⟨x, hx, _, hnum, hreas, _, hct, _⟩ :=
      ((State.closeWindow_filed ho .command).past (State.pastOf_settleHolds.trans State.pastOf_openWindow)).record
    exact ⟨x, hx, hnum, hreas, hct⟩
  · refine State.answer_lane hc h (congrArg Reply.ok ?_)
    rw [State.closeWindow_of_closed ho, State.settleHolds_of_settled hs]
  · have has := ((State.As.refl (s := s) (l := l)).closeWindow ho .command).settleHolds
    have hfix := (State.settleHolds_fixed (s.closeWindow l .command)).trans (State.closeWindow_fixed s l .command)
    obtain ⟨x, hx, _, hrecord⟩ := ((State.closeWindow_filed ho .command).past State.pastOf_settleHolds).record
    have hck : (s.closingLane l .command (s.lane l)).ck = _ := State.closingLane_ck (r := .command) nofun _
    refine ⟨_, State.answer_lane hc h rfl (State.cmdQ_of_fixed hfix) (State.waiting_of_fixed hfix),
      (congrArg Win.isOpen has.win :).trans (State.closedLane_isOpen (by decide)),
      (congrArg Checker.run has.ck :).trans (congrArg Checker.run hck :),
      (congrArg Checker.state has.ck :).trans (congrArg Checker.state hck :), fun hs => ?_, x, hx, hrecord⟩
    exact State.keeps_settleHolds hs (State.closeWindow_fixed s l .command) (State.closeWindow_others ..)

/-! ### Expiries -/

/-- A window whose frames or ticks elapsed have risen closes with LENGTH (R81, R82). -/
theorem State.risen_length {f : Win → Win} (hopen : (f (s.lane l).win).isOpen = true) :
    ((((s.modWin l f).closeWindow l .length).settleHolds).lane l).win.isOpen = (s.desc l).rep ∧
    (s.holdsSettled = true → s.keeps ((s.modWin l f).closeWindow l .length).settleHolds l) ∧
    ∃ r, ((((s.modWin l f).closeWindow l .length).settleHolds).lane l).hist.getLast? = some r ∧
      r.number = (f (s.lane l).win).number ∧ r.reason = .length ∧ r.frames = (f (s.lane l).win).frames ∧
      r.closeTick = s.tick := by
  have hwin := State.lane_modWin_same (s := s) (l := l) f
  obtain ⟨hrep, -, -⟩ := State.closeWindow_length (s := s.modWin l f) (l := l) (hwin ▸ hopen)
  obtain ⟨x, hx, -, hnum, hreas, -, hct, hfr, -⟩ :=
    ((State.closeWindow_filed (s := s.modWin l f) (l := l) (hwin ▸ hopen) .length).past State.pastOf_settleHolds).record
  rw [hwin] at hnum hfr
  refine ⟨(congrArg Win.isOpen State.win_settleHolds :).trans hrep, fun hs => ?_, x, hx, hnum, hreas, hfr, hct⟩
  exact State.keeps_settleHolds hs (State.closeWindow_fixed (s.modWin l f) l .length)
    ((State.closeWindow_others ..).trans (State.modLane_others ..))

theorem Win.addPseudo_frames (w : Win) : w.addPseudo.frames = min (w.frames + 1) 4294967295 := rfl

theorem Win.addPseudo_eq {w : Win} (h : w.frames < 4294967294) :
    w.addPseudo = { w with frames := w.frames + 1, pseudo := 0, tag := w.tag + 1 } := by
  have hadd : satAdd cap32 w.frames 1 = w.frames + 1 := Nat.min_eq_left (by have : cap32 = 4294967295 := rfl; omega)
  have hhit : satHit cap32 w.frames 1 = false := decide_eq_false (by have : cap32 = 4294967295 := rfl; omega)
  unfold Win.addPseudo Win.addFrame
  rw [hadd, hhit, Bool.or_false]

theorem State.framesDue_risen {f : Win → Win} {n : Nat} (hspec : (s.desc l).spec = .frames n) :
    (s.modWin l f).framesDue l = decide (n ≤ (f (s.lane l).win).frames) := by
  have hs : ((s.modWin l f).desc l).spec = .frames n := hspec
  unfold State.framesDue
  rw [State.lane_modWin_same, hs]

theorem State.framesDue_of_ne (h : ∀ n, (s.desc l).spec ≠ .frames n) : s.framesDue l = false := by
  unfold State.framesDue
  split
  · next n hn => exact absurd hn (h n)
  · rfl

theorem exec_pseudoFrameBoundary (ho : (s.lane l).win.isOpen = true) (hc : s.counting l = true)
    (hraw : s.rxFramed l = false) (hp : (s.lane l).win.pseudo = 127) :
    exec (.pseudoFrameBoundary l) s = .next (s.pseudoBoundary l).settleHolds :=
  if_pos (by simp [ho, hc, hraw, hp])

theorem exec_laneWindowLengthClose (ho : (s.lane l).win.isOpen = true) (hc : s.counting l = true) {f : Win → Win}
    (hf : s.lengthRise l = some f) :
    exec (.laneWindowLengthClose l) s = .next ((s.modWin l f).closeWindow l .length).settleHolds := by
  change execLaneWindowLengthClose l s = _
  unfold execLaneWindowLengthClose
  rw [ho, hc, hf]
  rfl

theorem exec_laneWindowLengthClose_none (hf : s.lengthRise l = none) :
    exec (.laneWindowLengthClose l) s = .next s := by
  change execLaneWindowLengthClose l s = _
  unfold execLaneWindowLengthClose
  rw [hf]
  exact ite_self _

theorem State.atFrameEnd_framed (h : s.rxFramed l = true) :
    s.atFrameEnd l = true ↔ (s.lane l).al.state = .aligned ∧ 127 ≤ (s.lane l).al.pos := by
  rw [State.atFrameEnd, if_pos h, Bool.and_eq_true, State.aligned_iff, decide_eq_true_eq]

theorem State.atFrameEnd_raw (h : s.rxFramed l = false) :
    s.atFrameEnd l = true ↔ (s.lane l).win.pseudo = 127 := by
  rw [State.atFrameEnd, if_neg (by simp [h]), beq_iff_eq]

theorem State.lengthRise_frames {n : Nat} (hspec : (s.desc l).spec = .frames n) :
    s.lengthRise l = if s.atFrameEnd l = true ∧ n ≤ (s.lane l).win.frames + 1 then
      some (if s.rxFramed l then Win.addFrame else Win.addPseudo) else none := by
  unfold State.lengthRise
  rw [hspec]
  simp only [Bool.and_eq_true, decide_eq_true_eq]

/-- R141: the end of a step. -/
theorem State.endStep_stepping (h : (s.lane l).hold = .stepping) (q : Option FrameSeq) :
    s.endStep l q = (((s.modLane l fun L => { L with hold := .held, stepCount := 0 }).notify
      (.stepDone l q (s.lane l).ck.state s.tick)).groupRefresh l) := by
  have hck : ((s.modLane l fun L => { L with hold := .held, stepCount := 0 }).lane l).ck = (s.lane l).ck := by
    rw [State.lane_modLane, if_pos rfl]
  unfold State.endStep
  rw [h, if_pos (by decide)]
  dsimp only
  rw [hck]
  rfl

/-! ### What follows a notice -/

/-- A posted job changes the jobs and the status of records: what reads neither is unchanged. -/
theorem State.postJob_reads {α : Type} (f : State → α) (hj : ∀ (s : State) js, f { s with jobs := js } = f s)
    (hh : ∀ (s : State) src n, f (s.modRecord src n fun r => { r with status := .skipped }) = f s) (src : Source) (number : FrameSeq) (serial errs bits : Nat) :
    f (s.postJob src number serial errs bits) = f s := by
  have hstart : ∀ t : State, f t.startHead = f t := fun t => by
    unfold State.startHead
    split
    · rfl
    · split
      · rfl
      · exact hj ..
  have hskip : ∀ src, f (s.skipWaiting src) = f s := fun src => by
    unfold State.skipWaiting
    split
    · rfl
    · exact (hh ..).trans (hj ..)
  refine (hstart _).trans ((hj ..).trans ?_)
  split
  · exact hskip src
  · split
    · split
      · exact hskip _
      · rfl
    · rfl

/-- A posted job sends nothing. -/
theorem State.egress_postJob (src : Source) (number : FrameSeq) (serial errs bits : Nat) :
    (s.postJob src number serial errs bits).egress = s.egress :=
  State.postJob_reads State.egress (fun _ _ => rfl) (fun _ src _ => by cases src <;> rfl) ..

/-- What a state sends after `base` the group aligner may only add to. -/
theorem GroupKept.sends (base : List EgRec) : GroupKept ⟨False, False⟩ (fun s => ∃ more, s.egress = base ++ more) where
  aware h := h.elim
  mem _ _ h := h
  group h _ := h
  notify {s} n h := by
    obtain ⟨more, e⟩ := h
    unfold State.notify
    split
    · exact ⟨more ++ [noticeRec n], by rw [← List.append_assoc, ← e]⟩
    · exact ⟨more, e⟩
  serial h := h
  append h _ := h
  post _ _ _ _ _ h := h.imp fun _ e => (State.egress_postJob ..).trans e

/-- Settles O30: each expiry is the count's last advance; a completed length closes the window. -/
theorem laneExpiriesAct : Obligations.LaneExpiriesAct := by
  intro s l
  refine ⟨fun ho hc hraw hp hs hlt hmax => ?_, fun n ho hc hraw hp hspec hle hn => ?_,
    fun ho hc => ⟨fun n hspec hle hend => ?_, fun n hspec hle => ?_⟩, fun n hspec hend => ?_, fun hspec => ?_,
    fun hstep hraw hcount => ?_⟩
  · rw [exec_pseudoFrameBoundary ho hc hraw hp]
    have hdue : (s.modWin l Win.addPseudo).framesDue l = false := by
      by_cases h : ∃ n, (s.desc l).spec = .frames n
      · obtain ⟨n, hn⟩ := h
        have := hlt n hn
        rw [State.framesDue_risen hn, Win.addPseudo_frames]
        exact decide_eq_false (by omega)
      · exact State.framesDue_of_ne fun n hn => h ⟨n, hn⟩
    rw [State.pseudoBoundary, hdue, if_neg Bool.false_ne_true,
      State.settleHolds_of_settled (State.holdsSettled_modWin hs _), ← Win.addPseudo_eq hmax]
    rfl
  · rw [exec_pseudoFrameBoundary ho hc hraw hp]
    have hdue : (s.modWin l Win.addPseudo).framesDue l = true := by
      rw [State.framesDue_risen hspec, Win.addPseudo_frames]
      exact decide_eq_true (by omega)
    rw [State.pseudoBoundary, hdue, if_pos rfl]
    exact ⟨_, rfl, State.risen_length (f := Win.addPseudo) ho⟩
  · have hrise : s.lengthRise l = some (if s.rxFramed l then Win.addFrame else Win.addPseudo) := by
      refine (State.lengthRise_frames hspec).trans (if_pos ⟨?_, hle⟩)
      rcases hend with ⟨hf, hal⟩ | ⟨hr, hp⟩
      · exact (State.atFrameEnd_framed hf).mpr hal
      · exact (State.atFrameEnd_raw hr).mpr hp
    rw [exec_laneWindowLengthClose ho hc hrise]
    refine ⟨_, rfl, ?_⟩
    split
    · exact State.risen_length (f := Win.addFrame) ho
    · exact State.risen_length (f := Win.addPseudo) ho
  · have hrise : s.lengthRise l = some Win.addTick := by
      unfold State.lengthRise
      rw [hspec]
      exact if_pos hle
    rw [exec_laneWindowLengthClose ho hc hrise]
    exact ⟨_, rfl, State.risen_length (f := Win.addTick) ho⟩
  · refine exec_laneWindowLengthClose_none ((State.lengthRise_frames hspec).trans (if_neg fun h => ?_))
    rcases hend with ⟨hf, hal⟩ | ⟨hr, hp⟩
    · obtain ⟨ha, hpos⟩ := (State.atFrameEnd_framed hf).mp h.1
      rcases hal with hal | hal
      · exact hal ha
      · omega
    · exact hp ((State.atFrameEnd_raw hr).mp h.1)
  · refine exec_laneWindowLengthClose_none ?_
    unfold State.lengthRise
    rw [hspec]
  · have hexec : exec (.stepCountExpiry l) s = .next (s.endStep l none) := if_pos (by simp [hraw, hcount])
    have has := (((State.As.refl (s := s) (l := l)).modLane (f := fun L => { L with hold := .held, stepCount := 0 })).notify
      (.stepDone l none (s.lane l).ck.state s.tick)).groupRefresh l
    have hsends : s.egress.length ≤ 11 → ∃ more, (s.endStep l none).egress =
        s.egress ++ noticeRec (.stepDone l none (s.lane l).ck.state s.tick) :: more := by
      intro hroom
      have hroom' : (s.modLane l fun L => { L with hold := .held, stepCount := 0 }).egress.length ≤ 11 := hroom
      obtain ⟨more, e⟩ := (GroupKept.sends (s.egress ++ [noticeRec (.stepDone l none (s.lane l).ck.state s.tick)])).groupRefresh
        l (s := (s.modLane l fun L => { L with hold := .held, stepCount := 0 }).notify
          (.stepDone l none (s.lane l).ck.state s.tick)) ⟨[], by rw [State.notify_of_room hroom', List.append_nil]; rfl⟩
      rw [State.endStep_stepping hstep]
      exact ⟨more, e.trans (List.append_assoc ..)⟩
    rw [hexec, ← State.endStep_stepping hstep] at *
    exact ⟨_, rfl, has.hold, has.stepCount, has.ck, has.win,
      State.keeps_of_others (State.endStep_fixed ..) (State.endStep_others ..), hsends⟩

end Sys2Proof.Machine
end

section
/-! HOLD_LANE, RESUME_LANE and STEP_FRAME. -/

namespace Sys2Proof.Machine

variable {s t u : State} {l m : LaneNo} {X Y : Lane} {rest : List CmdRec} {tag : Octet}

theorem Lane.report_isOpen (f : Counts → Counts) (X : Lane) : (X.report f).win.isOpen = X.win.isOpen := by
  unfold Lane.report
  dsimp only
  split <;> rfl

theorem Lane.discarded_isOpen (c : Bool) (X : Lane) : (X.discarded c).win.isOpen = X.win.isOpen := by
  unfold Lane.discarded
  split
  · rfl
  · split
    · exact Lane.report_isOpen ..
    · rfl

theorem State.judges_of_unarmed (h : X.armed = false) : s.judges l X = false := by
  rw [State.judges, h]
  rfl

/-- What the end of a hold leaves of a lane whose trigger is not armed. -/
structure Lane.Resumed (X Y : Lane) : Prop where
  hold : Y.hold = X.hold
  stepCount : Y.stepCount = X.stepCount
  isOpen : Y.win.isOpen = X.win.isOpen
  holdReq : Y.holdReq = X.holdReq

theorem State.lostLane_resumed (h : X.armed = false) (k : LossKind) :
    X.Resumed (s.lostLane l k (X.discarded true)) := by
  have hrest := Lane.discarded_rest true X
  have harm : (X.discarded true).armed = false := (congrArg Lane.armed hrest :).trans h
  have hreq : (s.lostLane l k (X.discarded true)).holdReq = (X.discarded true).holdReq := by
    unfold State.lostLane State.fired
    dsimp only
    rw [State.judges_of_unarmed harm, Bool.false_and, Bool.false_and, Bool.or_false]
    rfl
  exact ⟨(congrArg Lane.hold hrest :), (congrArg Lane.stepCount hrest :),
    (Lane.report_isOpen ..).trans (Lane.discarded_isOpen ..), hreq.trans (congrArg Lane.holdReq hrest :)⟩

theorem State.As.holdEndCheck_resumed (h : s.As l t X) (hal : X.al.state = (s.lane l).al.state) (harm : X.armed = false) :
    ∃ Y, s.As l (t.holdEndCheck l) Y ∧ X.Resumed Y := by
  rcases h.holdEndCheck hal with h | ⟨-, -, -, h⟩ | ⟨-, h⟩
  · exact ⟨X, h, rfl, rfl, rfl, rfl⟩
  · exact ⟨_, h, rfl, rfl, rfl, rfl⟩
  · exact ⟨_, h, State.lostLane_resumed harm .marker⟩

/-! ### Leaving the hold -/

theorem State.leaveHeld_counting (hc : s.counting l = true) (h : HoldState) :
    s.leaveHeld l h = s.putLane l { s.lane l with hold := h, stepCount := 0 } := if_pos hc

theorem State.leaveHeld_uncounting (hc : s.counting l = false) (h : HoldState) :
    s.leaveHeld l h = ((s.modLane l fun L => { L with hold := h, stepCount := 0 }).holdEndCheck l).settleHolds :=
  if_neg (by simp [hc])

theorem State.keeps_putLane (X : Lane) : s.keeps (s.putLane l X) l :=
  ⟨rfl, fun m hm => by
    have : (s.putLane l X).lane m = s.lane m := (Eight.get_set ..).trans (if_neg hm)
    rw [this]⟩

theorem State.keeps_leaveHeld (hs : s.holdsSettled = true) (h : HoldState) : s.keeps (s.leaveHeld l h) l := by
  cases hc : s.counting l with
  | true =>
    rw [State.leaveHeld_counting hc]
    exact State.keeps_putLane _
  | false =>
    rw [State.leaveHeld_uncounting hc]
    exact State.keeps_settleHolds hs (State.holdEndCheck_fixed ..)
      ((State.holdEndCheck_others ..).trans (State.modLane_others ..))

theorem State.leaveHeld_fixed (h : HoldState) : (s.leaveHeld l h).fixed = s.fixed := by
  cases hc : s.counting l with
  | true => rw [State.leaveHeld_counting hc]; rfl
  | false =>
    rw [State.leaveHeld_uncounting hc]
    exact (State.settleHolds_fixed _).trans (State.holdEndCheck_fixed ..)

/-- A lane without a hold request and with no armed trigger leaves the hold as it is asked to. -/
theorem State.leaveHeld_unarmed (hs : s.holdsSettled = true) (harm : (s.lane l).armed = false) (h : HoldState) :
    ((s.leaveHeld l h).lane l).hold = h ∧ ((s.leaveHeld l h).lane l).stepCount = 0 ∧
      ((s.leaveHeld l h).lane l).win.isOpen = (s.lane l).win.isOpen := by
  cases hc : s.counting l with
  | true =>
    have hlane : (s.putLane l { s.lane l with hold := h, stepCount := 0 }).lane l = { s.lane l with hold := h, stepCount := 0 } :=
      (Eight.get_set ..).trans (if_pos rfl)
    rw [State.leaveHeld_counting hc, hlane]
    exact ⟨rfl, rfl, rfl⟩
  | false =>
    have hleft := (State.As.refl (s := s) (l := l)).modLane (f := fun L => { L with hold := h, stepCount := 0 })
    obtain ⟨Y, hY, hhold, hcount, hopen, hreq⟩ := hleft.holdEndCheck_resumed rfl harm
    have has := hY.settleHolds
    rw [Lane.settled_of_none (hreq.trans (State.holdReq_of_settled hs l))] at has
    rw [State.leaveHeld_uncounting hc, has.hold, has.stepCount, has.win]
    exact ⟨hhold, hcount, hopen⟩

theorem State.stepFrame_of_run (h : (s.lane l).hold = .run) : s.stepFrame l = Reply.of s .notHeld := by
  unfold State.stepFrame
  rw [h]

theorem State.stepFrame_of_stepping (h : (s.lane l).hold = .stepping) : s.stepFrame l = Reply.of s .busy := by
  unfold State.stepFrame
  rw [h]

theorem State.stepFrame_of_held (h : (s.lane l).hold = .held) : s.stepFrame l = Reply.ok (s.leaveHeld l .stepping) := by
  unfold State.stepFrame
  rw [h]

theorem State.counting_of_run (h : (s.lane l).hold = .run) : s.counting l = true := by
  rw [State.counting, h]

theorem State.huntReason_unaligned (hf : s.rxFramed l = true) (hal : (s.lane l).al.state ≠ .aligned) :
    s.huntReason l = .waitAlign := by
  have ha : s.aligned l = false := Bool.eq_false_iff.mpr fun h => hal (State.aligned_iff.mp h)
  unfold State.huntReason
  rw [hf, ha]
  rfl

/-- Settles O37: a hold is a change of its lane alone; a resumed lane that has not counted is checked against its aligner. -/
theorem holdCommandsMoveLane : Obligations.HoldCommandsMoveLane := by
  refine ⟨fun s rest tag l hc => ⟨fun h => ⟨fun hne => ?_, fun hrun => ?_⟩,
    fun h => ⟨fun hrun => ?_, fun hne hcount => ?_, fun hne hs harm => ?_⟩,
    fun h => ⟨fun hrun => ?_, fun hstep => ?_, fun hheld hs harm => ?_⟩⟩, fun s rest tag l hc h hcount hf hal => ?_⟩
  · exact State.answer_lane hc h (congrArg Reply.ok (if_neg (by simpa using hne)))
  · have has := (State.As.refl (s := s) (l := l)).requestHold
    refine ⟨_, State.answer_lane hc h rfl (State.cmdQ_of_fixed (State.requestHold_fixed s l))
      (State.waiting_of_fixed (State.requestHold_fixed s l)), has.hold.trans (if_pos hrun), has.ck, has.win, has.run, has.al,
      has.tx, State.keeps_of_others (State.requestHold_fixed s l) (State.requestHold_others ..)⟩
  · exact State.answer_lane hc h (congrArg Reply.ok (if_pos hrun))
  · refine State.answer_lane hc h (congrArg Reply.ok ?_)
    rw [State.resumeLane, if_neg hne, State.leaveHeld_counting hcount]
  · obtain ⟨hhold, hstep, -⟩ := State.leaveHeld_unarmed hs harm .run
    exact ⟨_, State.answer_lane hc h (congrArg Reply.ok (if_neg hne)) (State.cmdQ_of_fixed (State.leaveHeld_fixed _))
      (State.waiting_of_fixed (State.leaveHeld_fixed _)), hhold, hstep, State.keeps_leaveHeld hs _⟩
  · exact State.answer_lane hc h (State.stepFrame_of_run hrun)
  · exact State.answer_lane hc h (State.stepFrame_of_stepping hstep)
  · obtain ⟨hhold, hstep, hopen⟩ := State.leaveHeld_unarmed hs harm .stepping
    exact ⟨_, State.answer_lane hc h (State.stepFrame_of_held hheld) (State.cmdQ_of_fixed (State.leaveHeld_fixed _))
      (State.waiting_of_fixed (State.leaveHeld_fixed _)), hhold, hstep, hopen, State.keeps_leaveHeld hs _⟩
  · have hne : (s.lane l).hold ≠ .run := fun hrun => by
      rw [State.counting_of_run hrun] at hcount
      exact absurd hcount (by decide)
    have hleft := (State.As.refl (s := s) (l := l)).modLane (f := fun L => { L with hold := .run, stepCount := 0 })
    have has := (hleft.holdEndCheck_unaligned hf rfl hal).settleHolds
    rw [← State.leaveHeld_uncounting hcount] at has
    refine ⟨_, State.answer_lane hc h (congrArg Reply.ok (if_neg hne)) (State.cmdQ_of_fixed (State.leaveHeld_fixed _))
      (State.waiting_of_fixed (State.leaveHeld_fixed _)), fun hs => State.keeps_leaveHeld hs _, fun hlock => ?_, fun hconf => ?_,
      fun hhunt => ?_, fun hidle => ?_⟩
    · dsimp only at has
      rw [hlock] at has
      refine ⟨(congrArg Checker.state has.ck :), (congrArg Checker.lastLoss has.ck :), ?_, fun hrun => ?_⟩
      · exact (congrArg Checker.run has.ck :).trans (congrArg Checker.run (Lane.discarded_ck true _) :)
      · rw [Lane.discarded_of_nil true (L := { s.lane l with hold := .run, stepCount := 0 }) hrun] at has
        exact (congrArg RunTotals.counts has.run :)
    · dsimp only at has
      rw [hconf, State.huntReason_unaligned hf hal] at has
      exact ⟨(congrArg Checker.state has.ck :), (congrArg Checker.reason has.ck :)⟩
    · dsimp only at has
      rw [hhunt, State.huntReason_unaligned hf hal] at has
      exact ⟨(congrArg Checker.state has.ck :), (congrArg Checker.reason has.ck :)⟩
    · dsimp only at has
      rcases hidle with e | e <;> (rw [e] at has; exact has.ck)

end Sys2Proof.Machine
end

section
/-! SNAPSHOT_CONTEXT, SAVE_CONTEXT and RESTORE_CONTEXT, and their wait for the lane's jobs. -/

namespace Sys2Proof.Machine

variable {s t u : State} {l m : LaneNo} {X Y : Lane} {rest : List CmdRec} {tag : Octet} {body : List Block}

/-! ### A lane without a job keeps its records -/

theorem State.hasJob_eq_false : s.hasJob l = false ↔ ∀ j ∈ s.jobs, j.source ≠ .lane l := by
  simp [State.hasJob]

/-- The history of lane `l` is `h`, and no job is the lane's. -/
def State.Unjudged (l : LaneNo) (h : List WinRecord) (s : State) : Prop :=
  (s.lane l).hist = h ∧ ∀ j ∈ s.jobs, j.source ≠ .lane l

theorem State.Unjudged.modLane {h : List WinRecord} (k : s.Unjudged l h) {f : Lane → Lane}
    (hf : (f (s.lane m)).hist = (s.lane m).hist) : (s.modLane m f).Unjudged l h := by
  refine ⟨?_, k.2⟩
  rw [State.lane_modLane]
  split
  · next e => subst e; exact hf.trans k.1
  · exact k.1

theorem State.Unjudged.startHead {h : List WinRecord} (k : s.Unjudged l h) : s.startHead.Unjudged l h := by
  unfold State.startHead
  split
  · exact k
  · next j rest e =>
    have hjobs := k.2
    rw [e, List.forall_mem_cons] at hjobs
    split
    · exact k
    · exact ⟨k.1, List.forall_mem_cons.mpr hjobs⟩

theorem State.Unjudged.skipWaiting {h : List WinRecord} (k : s.Unjudged l h) {src : Source} (hsrc : src ≠ .lane l) :
    (s.skipWaiting src).Unjudged l h := by
  refine ⟨?_, fun j hj => ?_⟩
  · unfold State.skipWaiting
    split
    · exact k.1
    · cases src with
      | group g => exact k.1
      | lane m =>
        have hm : l ≠ m := fun e => hsrc (by rw [e])
        exact ((congrArg Lane.hist ((State.lane_modLane ..).trans (if_neg hm)) :)).trans k.1
  · rw [State.skipWaiting_jobs] at hj
    exact k.2 j (List.mem_filter.mp hj).1

theorem State.Unjudged.postJob {h : List WinRecord} (k : s.Unjudged l h) {src : Source} (hsrc : src ≠ .lane l)
    (number : FrameSeq) (serial errs bits : Nat) : (s.postJob src number serial errs bits).Unjudged l h := by
  have room : State.Unjudged l h (if s.hasWaiting src then s.skipWaiting src else match s.jobs with
      | j :: _ => if s.jobs.length == 10 && s.hasWaiting j.source then s.skipWaiting j.source else s
      | [] => s) := by
    split
    · exact k.skipWaiting hsrc
    · split
      · next j rest e =>
        split
        · exact k.skipWaiting (k.2 j (by rw [e]; exact List.mem_cons_self))
        · exact k
      · exact k
  refine State.Unjudged.startHead ⟨room.1, fun j hj => ?_⟩
  rcases List.mem_append.mp hj with hj | hj
  · exact room.2 j hj
  · rw [List.mem_singleton.mp hj]
    exact hsrc

theorem State.Unjudged.notify {h : List WinRecord} (k : s.Unjudged l h) (n : Notice) : (s.notify n).Unjudged l h := by
  unfold State.notify
  split <;> exact k

/-- Nor does the group aligner file or judge anything of the lane. -/
theorem GroupKept.unjudged (l : LaneNo) (h : List WinRecord) : GroupKept ⟨False, False⟩ (State.Unjudged l h) where
  aware h := h.elim
  mem _ _ k := k.modLane rfl
  group k _ := k
  notify n k := k.notify n
  serial k := k
  append k _ := k
  post g _ _ _ _ k := k.postJob (src := .group g) nofun ..

theorem State.Unjudged.clearRun {h : List WinRecord} (k : s.Unjudged l h) : (s.clearRun m).Unjudged l h := k.modLane rfl
theorem State.Unjudged.forgetAlarm {h : List WinRecord} (k : s.Unjudged l h) : (s.forgetAlarm m).Unjudged l h := k.modLane rfl
theorem State.Unjudged.discardWindow {h : List WinRecord} (k : s.Unjudged l h) : (s.discardWindow m).Unjudged l h :=
  k.modLane rfl
theorem State.Unjudged.openWindow {h : List WinRecord} (k : s.Unjudged l h) : (s.openWindow m).Unjudged l h := k.modLane rfl

/-- A pending heavy run dropped uncounted, its entries with it. -/
theorem State.discardRun_dropped : s.discardRun l false false =
    if (s.lane l).ck.run.isEmpty then s else (s.modCk l fun k => { k with run := [] }).groupRefresh l := rfl

/-- A hunt that drops the pending heavy run uncounted changes of its lane the checker alone. -/
theorem GroupKept.forceHunt_quiet {care : Care} {P : State → Prop} (K : GroupKept care P)
    (hck : ∀ {s} (f : Checker → Checker), P s → P (s.modCk l f)) (h : P s) (cause : SyncCause) :
    P (s.forceHunt l cause false false) := by
  have hrun : P (s.discardRun l false false) := by
    rw [State.discardRun_dropped]
    exact ite_keeps (fun _ => h) fun _ => K.groupRefresh l (hck _ h)
  have hunts : P ((s.discardRun l false false).enterHunt l) :=
    hck (fun k => { k with state := .hunt, reason := (s.discardRun l false false).huntReason l, confirmRun := 0 }) hrun
  unfold State.forceHunt
  exact ite_keeps (fun _ => h) fun _ => K.groupRefresh l (ite_keeps_of (fun h => K.notify _ h) hunts)

theorem State.Unjudged.forceHunt {h : List WinRecord} (k : s.Unjudged l h) (cause : SyncCause) :
    (s.forceHunt l cause false false).Unjudged l h :=
  (GroupKept.unjudged l h).forceHunt_quiet (fun _ k => k.modLane rfl) k cause

theorem State.unjudged_of_hasJob (h : s.hasJob l = false) : s.Unjudged l (s.lane l).hist :=
  ⟨rfl, State.hasJob_eq_false.mp h⟩

/-! ### Taking a context command -/

theorem State.mustWait_of_idle {code : Octet} (hj : s.hasJob l = false) :
    s.mustWait code (localCmd code tag (laneOctet l) body) = false := by
  unfold State.mustWait
  have : laneOf (localCmd code tag (laneOctet l) body).target.toNat = some l := by simp [localCmd]
  rw [this]
  simp [hj]

theorem State.contextCommand_own {code : Octet} (hc : s.configured = true) (hj : s.hasJob l = false)
    (h : s.takes (localCmd code tag (laneOctet l) body) rest)
    (hb : contextBody code (localCmd code tag (laneOctet l) body) = some ()) {st : Status} {bd : Body}
    (hown : s.actContext (localCmd code tag (laneOctet l) body) l = ⟨t, st, bd⟩)
    (hq : t.cmdQ = s.cmdQ := by rfl) (hw : t.waiting = s.waiting := by rfl) :
    Host.Outcome.next (s.contextCommand code) = (.next (t.answered (localCmd code tag (laneOctet l) body) rest st bd) : Out) := by
  have htake : s.takeCommand code = some (localCmd code tag (laneOctet l) body) := State.takeCommand_of_takes h
  unfold State.contextCommand
  rw [htake]
  dsimp only
  rw [State.mustWait_of_idle hj, if_neg Bool.false_ne_true]
  exact State.answer_command h (.inl hc) (x := l) (by simp) hb (by rw [if_neg (by simp [refusesRemote, localCmd]), hown])
    hq hw

theorem State.contextCommand_waits {code : Octet} (hc : s.configured = true) (hj : s.hasJob l = true)
    (h : s.takes (localCmd code tag (laneOctet l) body) rest)
    (hb : contextBody code (localCmd code tag (laneOctet l) body) = some ()) :
    s.contextCommand code = { s with waiting := true } := by
  have htake : s.takeCommand code = some (localCmd code tag (laneOctet l) body) := State.takeCommand_of_takes h
  have hwait : s.mustWait code (localCmd code tag (laneOctet l) body) = true := by
    unfold State.mustWait
    rw [hb]
    simp [hc, hj, localCmd, refusesRemote]
  unfold State.contextCommand
  rw [htake]
  dsimp only
  rw [hwait, if_pos rfl]

/-- A processor that waits takes no command (R145). -/
theorem State.takeCommand_waiting (h : s.waiting = true) (code : Octet) : s.takeCommand code = none := by
  rw [State.takeCommand, State.nextCommand, h]
  rfl

/-! ### SAVE_CONTEXT -/

namespace State.As

theorem discardWindow (h : s.As l t X) : s.As l (t.discardWindow l) { X with win := { X.win with isOpen := false } } :=
  h.modWin fun w => { w with isOpen := false }

theorem forgetAlarm (h : s.As l t X) : s.As l (t.forgetAlarm l) { X with alarm := .clear, alarmKnown := false } :=
  h.modLane (f := fun L => { L with alarm := .clear, alarmKnown := false })

theorem clearRun (h : s.As l t X) : s.As l (t.clearRun l)
    { X with run := ⟨Counts.zero, s.tick, 0, none, if s.rxFramed l then X.run.tag else X.run.tag + 1⟩ } := by
  rw [← h.tick, ← h.rxFramed]
  exact h.modLane (f := fun L => { L with run := ⟨Counts.zero, t.tick, 0, none, if t.rxFramed l then L.run.tag else L.run.tag + 1⟩ })

end State.As

/-- The state in which a saved lane's checker, window, run totals and alarm state start anew (R147). -/
def State.saved (s : State) (l : LaneNo) : State :=
  ((((s.forceHunt l .save false false).discardWindow l).clearRun l).forgetAlarm l)

theorem State.saveContext_eq : s.saveContext l =
    ⟨if (s.saved l).ckOff l then s.saved l else (s.saved l).openWindow l, .ok, .context (s.contextOf l)⟩ := rfl

theorem State.saved_fixed : (s.saved l).fixed = s.fixed := by
  rw [State.saved, State.forgetAlarm_fixed, State.clearRun_fixed, State.discardWindow_fixed, State.forceHunt_fixed]

theorem State.keeps_saved : s.keeps (s.saved l) l := by
  refine State.keeps_of_others State.saved_fixed ?_
  rw [State.saved, State.forgetAlarm_others, State.clearRun_others, State.discardWindow_others, State.forceHunt_others]

theorem State.saved_unjudged (h : s.hasJob l = false) : (s.saved l).Unjudged l (s.lane l).hist :=
  ((((State.unjudged_of_hasJob h).forceHunt .save).discardWindow).clearRun).forgetAlarm

/-- A saved lane, its checker hunting unless OFF. -/
def State.savedLane (s : State) (l : LaneNo) (L : Lane) : Lane :=
  { L with
    ck := if L.ck.state = .off then L.ck else ((L.discarded false).hunting (s.huntReason l)).ck
    win := { L.win with isOpen := false }
    run := ⟨Counts.zero, s.tick, 0, none, if s.rxFramed l then L.run.tag else L.run.tag + 1⟩
    alarm := .clear, alarmKnown := false }

theorem State.As.saved : s.As l (s.saved l) (s.savedLane l (s.lane l)) := by
  unfold State.saved State.savedLane
  split
  · next hoff =>
    rw [State.forceHunt_of_off hoff]
    exact State.As.refl.discardWindow.clearRun.forgetAlarm
  · next hon =>
    refine ((State.As.refl.forceHunt hon rfl .save false false).discardWindow.clearRun.forgetAlarm).congr ?_
    rw [Lane.discarded_uncounted]
    rfl

theorem State.As.open_or_not (h : s.As l t X) :
    s.As l (if t.ckOff l then t else t.openWindow l)
      (if X.ck.state = .off then X else { X with win := s.openedWin l X.al X.win }) := by
  rw [h.ckOff]
  by_cases hoff : X.ck.state = .off
  · rw [if_pos (by simp [hoff]), if_pos hoff]
    exact h
  · rw [if_neg (by simpa using hoff), if_neg hoff]
    exact h.openWindow

theorem State.keeps.modLane (h : s.keeps t l) (f : Lane → Lane) : s.keeps (t.modLane l f) l :=
  ⟨h.1, fun m hm => (congrArg Lane.still ((State.lane_modLane ..).trans (if_neg hm))).trans (h.2 m hm)⟩

/-- What SAVE_CONTEXT leaves (R147). -/
theorem State.saveContext_keeps : s.keeps (if (s.saved l).ckOff l then s.saved l else (s.saved l).openWindow l) l :=
  ite_keeps (P := fun t => s.keeps t l) (fun _ => State.keeps_saved) fun _ => State.keeps_saved.modLane _

/-! ### RESTORE_CONTEXT -/

theorem State.As.loadRun (h : s.As l t X) (c : ContextRecord) :
    s.As l (t.loadRun l c) { X with run := ⟨c.run.loaded c.runSat, s.tick, 0, none, X.run.tag + 1⟩ } := by
  rw [← h.tick]
  exact h.modLane (f := fun L => { L with run := ⟨c.run.loaded c.runSat, t.tick, 0, none, L.run.tag + 1⟩ })

/-- A window as a record loads it (R150 steps 3 and 4). -/
def State.loadedWin (s : State) (l : LaneNo) (c : ContextRecord) (L : Lane) : Win :=
  if c.winPresent = 0 then { L.win with isOpen := false, nextNumber := c.number }
  else
    { isOpen := true, nextNumber := c.number + 1, number := c.number, counts := c.win.loaded c.winSat,
      frames := c.frames, ticks := c.ticks, pseudo := 0, openTick := s.tick,
      first := if s.rxFramed l = true ∧ L.al.state = .aligned then some L.al.seq else none,
      last := if s.rxFramed l = true ∧ L.al.state = .aligned then some L.al.seq else none,
      suspect := c.winSuspect, banks := Four.all false, errTag := none, tag := L.win.tag + 1 }

theorem State.As.loadWindow (h : s.As l t X) (c : ContextRecord) :
    s.As l (t.loadWindow l c) { X with win := s.loadedWin l c X } := by
  have hseq : t.openSeq l = if s.rxFramed l = true ∧ X.al.state = .aligned then some X.al.seq else none := by
    rw [State.openSeq_eq, h.rxFramed, h.al]
  unfold State.loadWindow State.loadedWin
  rw [hseq, h.tick]
  split
  · exact h.modWin _
  · exact h.modWin _

/-- A lane as a record restores it (R150). -/
def State.restoredLane (s : State) (l : LaneNo) (c : ContextRecord) (L : Lane) : Lane :=
  { L with
    ck := (Lane.hunting (s.huntReason l) { L with ck := { L.ck with run := [] } }).ck
    run := ⟨c.run.loaded c.runSat, s.tick, 0, none, L.run.tag + 1⟩, win := s.loadedWin l c L
    alarm := alarmOfCode c.alarm, alarmKnown := true }

theorem State.As.loadContext (hon : (s.lane l).ck.state ≠ .off) (c : ContextRecord) :
    s.As l (s.loadContext l c) (s.restoredLane l c (s.lane l)) := by
  have h := (((State.As.refl.forceHunt hon rfl .restore false false).loadRun c).loadWindow c).modLane
    (f := fun L => { L with alarm := alarmOfCode c.alarm, alarmKnown := true })
  rw [Lane.discarded_uncounted] at h
  exact h

theorem State.loadWindow_modLane (c : ContextRecord) : ∃ f, s.loadWindow l c = s.modWin l f := by
  unfold State.loadWindow
  split <;> exact ⟨_, rfl⟩

theorem State.loadContext_hist (h : s.hasJob l = false) (c : ContextRecord) :
    ((s.loadContext l c).lane l).hist = (s.lane l).hist := by
  obtain ⟨f, e⟩ := State.loadWindow_modLane (s := (s.forceHunt l .restore false false).loadRun l c) (l := l) c
  have h1 : ((s.forceHunt l .restore false false).loadRun l c).Unjudged l (s.lane l).hist :=
    ((State.unjudged_of_hasJob h).forceHunt .restore).modLane rfl
  have h2 : (((s.forceHunt l .restore false false).loadRun l c).loadWindow l c).Unjudged l (s.lane l).hist := by
    rw [e]
    exact h1.modLane rfl
  exact (h2.modLane (m := l) (f := fun L => { L with alarm := alarmOfCode c.alarm, alarmKnown := true }) rfl).1

theorem alarmOfCode_code {n : Nat} (h : 1 ≤ n ∧ n ≤ 3) : (alarmOfCode n).code = n := by
  obtain rfl | rfl | rfl : n = 1 ∨ n = 2 ∨ n = 3 := by omega
  all_goals rfl

theorem ContextRecord.alarm_of_passed {c : ContextRecord} (h : c.failed = none) : 1 ≤ c.alarm ∧ c.alarm ≤ 3 := by
  have hn : c.goodNames = true := by
    by_contra hno
    unfold ContextRecord.failed at h
    split at h
    · contradiction
    · split at h
      · contradiction
      · rw [if_pos (by simpa using hno)] at h
        contradiction
  simp only [ContextRecord.goodNames, Bool.and_eq_true, decide_eq_true_eq] at hn
  exact ⟨hn.1.1.1.2, hn.1.1.2⟩

theorem State.loadContext_keeps (c : ContextRecord) : s.keeps (s.loadContext l c) l := by
  obtain ⟨f, e⟩ := State.loadWindow_modLane (s := (s.forceHunt l .restore false false).loadRun l c) (l := l) c
  have h : s.keeps (s.forceHunt l .restore false false) l :=
    State.keeps_of_others (State.forceHunt_fixed ..) (State.forceHunt_others ..)
  unfold State.loadContext
  rw [e]
  exact ((h.modLane _).modLane _).modLane _

theorem contextBody_snapshot : contextBody 0x25 (localCmd 0x25 tag (laneOctet l) []) = some () := rfl
theorem contextBody_save : contextBody 0x24 (localCmd 0x24 tag (laneOctet l) []) = some () := rfl
theorem contextBody_restore (h : body.length = 22) : contextBody 0x26 (localCmd 0x26 tag (laneOctet l) body) = some () :=
  if_pos h

/-! ### The end of a wait -/

/-- R99 with one job in the queue: none is left. -/
theorem State.completeJob_last {j : Job} (h : s.jobs = [j]) (hi : j.inputs.isSome = true) : s.completeJob.jobs = [] := by
  obtain ⟨i, e⟩ := Option.isSome_iff_exists.mp hi
  unfold State.completeJob
  rw [h]
  dsimp only
  rw [e]
  rfl

theorem exec_ratioJobComplete {j : Job} {js : List Job} (h : s.jobs = j :: js) (hi : j.inputs.isSome = true) :
    exec .ratioJobComplete s = .next s.completeJob.endWait := by
  change execRatioJobComplete s = _
  unfold execRatioJobComplete
  rw [h]
  exact if_pos hi

/-- Settles O39: a context command acts on a lane without a job, and else waits until the lane's last job has completed. -/
theorem contextCommandsAnswered : Obligations.ContextCommandsAnswered := by
  refine ⟨fun s rest tag l hc hj => ⟨fun h => State.contextCommand_own hc hj h contextBody_snapshot rfl, fun h => ?_⟩,
    fun s rest tag l hc hj => ⟨fun h => congrArg _ (State.contextCommand_waits hc hj h contextBody_save),
      fun h => congrArg _ (State.contextCommand_waits hc hj h contextBody_snapshot)⟩,
    fun s rest tag l j hw hq hjobs hi => ?_, fun s hw => ?_⟩
  · have has := (State.As.saved (s := s) (l := l)).open_or_not
    have hun : State.Unjudged l (s.lane l).hist (if (s.saved l).ckOff l then s.saved l else (s.saved l).openWindow l) :=
      ite_keeps (fun _ => State.saved_unjudged hj) fun _ => (State.saved_unjudged hj).openWindow
    have hkeeps := State.saveContext_keeps (s := s) (l := l)
    have answer := State.contextCommand_own hc hj h contextBody_save State.saveContext_eq (State.cmdQ_of_fixed hkeeps.1)
      (State.waiting_of_fixed hkeeps.1)
    generalize (if (s.saved l).ckOff l then s.saved l else (s.saved l).openWindow l) = t at has hun hkeeps answer
    refine ⟨t, answer, ?_⟩
    by_cases hoff : (s.lane l).ck.state = .off
    · have hck : (s.savedLane l (s.lane l)).ck = (s.lane l).ck := if_pos hoff
      rw [if_pos (hck ▸ hoff)] at has
      exact ⟨(congrArg RunTotals.counts has.run :), (congrArg RunTotals.startTick has.run :), has.alarm, has.alarmKnown, hun.1,
        has.tx, has.al, hkeeps, fun _ => ⟨has.ck.trans hck, (congrArg Win.isOpen has.win :), (congrArg Win.nextNumber has.win :)⟩,
        fun h => absurd hoff h⟩
    · have hck : (s.savedLane l (s.lane l)).ck = (((s.lane l).discarded false).hunting (s.huntReason l)).ck := if_neg hoff
      rw [if_neg (by rw [hck]; exact nofun)] at has
      refine ⟨(congrArg RunTotals.counts has.run :), (congrArg RunTotals.startTick has.run :), has.alarm, has.alarmKnown, hun.1,
        has.tx, has.al, hkeeps, fun h => absurd h hoff, fun _ => ⟨?_, ?_, (congrArg Win.isOpen has.win :),
          (congrArg Win.number has.win :), (congrArg Win.counts has.win :)⟩⟩
      · exact (congrArg Checker.state (has.ck.trans hck) :)
      · exact (congrArg Checker.run (has.ck.trans hck) :).trans (congrArg Checker.run (Lane.discarded_ck false _) :)
  · have hfix := State.completeJob_fixed s
    have hjobs' := State.completeJob_last hjobs hi
    rw [exec_ratioJobComplete hjobs hi]
    generalize s.completeJob = t at hfix hjobs'
    have hnone : t.hasJob l = false := by
      rw [State.hasJob, hjobs']
      rfl
    have hq' : t.cmdQ = localCmd 0x25 tag (laneOctet l) [] :: rest := (State.cmdQ_of_fixed hfix).trans hq
    refine ⟨t, rfl, hnone, congrArg _ ?_⟩
    have hl : laneOf (localCmd 0x25 tag (laneOctet l) []).target.toNat = some l := by simp [localCmd]
    unfold State.endWait
    rw [(State.waiting_of_fixed hfix).trans hw, if_pos rfl, hq']
    dsimp only
    rw [hl]
    dsimp only
    rw [hnone, if_neg Bool.false_ne_true]
    have hact : t.actContext (localCmd 0x25 tag (laneOctet l) []) l = ⟨t, .ok, .context (t.contextOf l)⟩ := rfl
    rw [hact, Reply.give_local _ _ rfl, hq']
    rfl
  · exact ⟨congrArg _ (State.command_not_taken (State.takeCommand_waiting hw _) ..),
      congrArg _ (State.command_not_taken (State.takeCommand_waiting hw _) ..),
      congrArg _ (State.command_not_taken (State.takeCommand_waiting hw _) ..)⟩

/-- Settles O40: the answers in their order; a record that passes its checks is loaded into the held, checking lane. -/
theorem restoreLoadsRecord : Obligations.RestoreLoadsRecord := by
  intro s rest tag l body hc hj hlen h
  have hown : s.actContext (localCmd 0x26 tag (laneOctet l) body) l = s.restoreContext l (readContext body) := rfl
  refine ⟨fun hne => ?_, fun hheld hoff => ?_, fun hheld hon n hn => ?_, fun hheld hon hok => ?_⟩
  · exact State.contextCommand_own hc hj h (contextBody_restore hlen) (hown.trans (if_pos hne))
  · exact State.contextCommand_own hc hj h (contextBody_restore hlen)
      (hown.trans ((if_neg (not_not.mpr hheld)).trans (if_pos (State.ckOff_iff.mpr hoff))))
  · refine State.contextCommand_own hc hj h (contextBody_restore hlen) (hown.trans ?_)
    rw [State.restoreContext, if_neg (not_not.mpr hheld), State.ckOff_of_ne hon, if_neg Bool.false_ne_true, hn]
  · have hload : s.restoreContext l (readContext body) = Reply.ok (s.loadContext l (readContext body)) := by
      rw [State.restoreContext, if_neg (not_not.mpr hheld), State.ckOff_of_ne hon, if_neg Bool.false_ne_true, hok]
    generalize readContext body = c at *
    have has := State.As.loadContext hon c
    have hkeeps := State.loadContext_keeps (s := s) (l := l) c
    have hhist := State.loadContext_hist hj c
    have answer := State.contextCommand_own hc hj h (contextBody_restore hlen) (hown.trans hload)
      (State.cmdQ_of_fixed hkeeps.1) (State.waiting_of_fixed hkeeps.1)
    generalize s.loadContext l c = t at has hkeeps hhist answer
    have hwin : (t.lane l).win = s.loadedWin l c (s.lane l) := has.win
    refine ⟨t, answer, (congrArg Checker.state has.ck :), (congrArg Checker.run has.ck :),
      (congrArg (fun r : RunTotals => r.counts.list) has.run :), (congrArg RunTotals.startTick has.run :), fun hsat => ?_, ?_,
      fun hp => ?_, fun hp => ?_, (congrArg Alarm.code has.alarm :).trans (alarmOfCode_code (ContextRecord.alarm_of_passed hok)),
      has.alarmKnown, has.hold.trans hheld, hhist, has.tx, has.al, hkeeps⟩
    · refine (congrArg (fun r : RunTotals => r.counts.sat) has.run :).trans ?_
      change (c.runSat || c.run.atCap) = true
      rw [hsat]
      rfl
    · rw [hwin, State.loadedWin]
      split
      · next hp => exact (decide_eq_false (not_not.mpr hp)).symm
      · next hp => exact (decide_eq_true hp).symm
    · rw [hwin, State.loadedWin, if_neg hp]
      exact ⟨rfl, rfl, rfl, rfl, rfl, rfl, rfl⟩
    · rw [hwin, State.loadedWin, if_pos hp]

end Sys2Proof.Machine
end

section
/-! RESTART_LANE: an aligner reset, and everything that the lane has measured forgotten. -/

namespace Sys2Proof.Machine

variable {s t u v : State} {l m : LaneNo} {X Y : Lane} {rest : List CmdRec} {tag : Octet}

/-! ### An aligner reset (R9) -/

/-- A lane whose aligner has been reset (R9). -/
def Lane.sought (L : Lane) : Lane :=
  { L with
    al := Aligner.reset, idm := none, win := { L.win with tag := L.win.tag + 1 }, run := { L.run with tag := L.run.tag + 1 } }

theorem State.lanes_notify (n : Notice) : (s.notify n).lanes = s.lanes := by
  unfold State.notify
  split <;> rfl

theorem State.lanes_linkLeft : (s.linkLeft l).lanes = s.lanes := by
  unfold State.linkLeft State.linkDepart
  split
  · exact ite_keeps_of (P := fun t => t.lanes = s.lanes) (fun h => (State.lanes_notify _).trans h) rfl
  · rfl

theorem State.linkLeft_fixed : (s.linkLeft l).fixed = ({ s with link := (s.linkLeft l).link } : State).fixed := by
  have hpart : ∀ t : State, t.fixed = ({ s with link := t.link } : State).fixed →
      (t.notify (.protocolFault .channelDown none)).fixed
        = ({ s with link := (t.notify (.protocolFault .channelDown none)).link } : State).fixed := by
    intro t h
    rw [State.notify_fixed, h]
    have : (t.notify (.protocolFault .channelDown none)).link = t.link := (congrArg Fixed.link (State.notify_fixed ..) :)
    rw [this]
  unfold State.linkLeft State.linkDepart
  split
  · exact ite_keeps_of (P := fun t => t.fixed = ({ s with link := t.link } : State).fixed) (fun h => hpart _ h) rfl
  · rfl

theorem State.seekAligner_eq : s.seekAligner l = (s.modLane l Lane.sought).linkLeft l :=
  congrArg (State.linkLeft · l) (State.modLane_modLane ..)

theorem State.seekAligner_lane : (s.seekAligner l).lane l = (s.lane l).sought := by
  rw [State.seekAligner_eq, State.lane, State.lanes_linkLeft]
  exact (State.lane_modLane ..).trans (if_pos rfl)

theorem State.seekAligner_lane_ne (h : m ≠ l) : (s.seekAligner l).lane m = s.lane m := by
  rw [State.seekAligner_eq, State.lane, State.lanes_linkLeft]
  exact (State.lane_modLane ..).trans (if_neg h)

theorem State.seekAligner_fixed :
    (s.seekAligner l).fixed = ({ s with link := (s.seekAligner l).link } : State).fixed := by
  rw [State.seekAligner_eq]
  exact State.linkLeft_fixed

/-- A change of one lane and of the marker channel alone. -/
theorem State.seekAligner_keeps : s.keeps { s.seekAligner l with link := s.link } l :=
  ⟨(congrArg (fun F : Fixed => { F with link := s.link }) State.seekAligner_fixed :),
    fun _ hm => congrArg Lane.still (State.seekAligner_lane_ne hm)⟩

theorem State.rxFramed_seekAligner : (s.seekAligner l).rxFramed m = s.rxFramed m := by
  have hf := State.seekAligner_fixed (s := s) (l := l)
  have hc : (s.seekAligner l).configured = s.configured := (congrArg Fixed.configured hf :)
  have hd : (s.seekAligner l).laneDesc = s.laneDesc := (congrArg Fixed.laneDesc hf :)
  rw [State.rxFramed, State.desc, hc, hd, State.rxFramed, State.desc]

theorem State.tick_seekAligner : (s.seekAligner l).tick = s.tick := (congrArg Fixed.tick State.seekAligner_fixed :)

/-! ### What a restart does after the aligner's reset -/

namespace State.As

theorem restartChecker (h : s.As l t X) (hal : X.al.state = (s.lane l).al.state) :
    s.As l (t.restartChecker l) (if X.ck.state = .off then X else { X with
      ck := { X.ck with
        run := [], state := .hunt, reason := s.huntReason l, confirmRun := 0, sinceLock := 0, lastLoss := .none } }) := by
  unfold State.restartChecker
  rw [h.ckOff]
  by_cases hoff : X.ck.state = .off
  · rw [if_pos (by simp [hoff]), if_pos hoff]
    exact h
  · rw [if_neg (by simpa using hoff), if_neg hoff]
    refine ((h.forceHunt hoff hal .restart false false).modCk fun k => { k with sinceLock := 0, lastLoss := .none }).congr ?_
    rw [Lane.discarded_uncounted]
    rfl

/-- A window that ends with its lane's restart: the pending heavy run is not released. -/
theorem closeWindow_restart (h : s.As l t X) :
    s.As l (t.closeWindow l .restart) { X with win := { X.win with isOpen := false } } := by
  by_cases ho : X.win.isOpen = true
  · exact h.closeWindow ho .restart
  · refine (h.closeWindow_of_closed (Bool.eq_false_iff.mpr ho) .restart).congr ?_
    rw [← Bool.eq_false_iff.mpr ho]

theorem dropLaneJobs (h : s.As l t X) : s.As l (t.dropLaneJobs l) X := ⟨h.fixed, h.stands⟩
theorem dropCaptures (h : s.As l t X) : s.As l (t.dropCaptures l) X := ⟨h.fixed, h.stands⟩

end State.As

/-- R90 from step 2 on. -/
def State.forgets (s : State) (l : LaneNo) : State :=
  ((((((s.restartChecker l).closeWindow l .restart).modHistory (.lane l) (fun _ => [])).dropLaneJobs l).clearRun l).dropCaptures
    l).forgetAlarm l

theorem State.restartLane_eq : s.restartLane l =
    if ((s.resetAligner l).forgets l).ckOff l then (s.resetAligner l).forgets l
    else ((s.resetAligner l).forgets l).openWindow l := rfl

/-- A lane that has forgotten (R90 steps 2 to 7). -/
def State.forgottenLane (s : State) (l : LaneNo) (L : Lane) : Lane :=
  { L with
    ck := if L.ck.state = .off then L.ck else { L.ck with
      run := [], state := .hunt, reason := s.huntReason l, confirmRun := 0, sinceLock := 0, lastLoss := .none }
    win := { L.win with isOpen := false }
    run := ⟨Counts.zero, s.tick, 0, none, if s.rxFramed l then L.run.tag else L.run.tag + 1⟩
    alarm := .clear, alarmKnown := false }

theorem State.As.forgets (h : s.As l t X) (hal : X.al.state = (s.lane l).al.state) :
    s.As l (t.forgets l) (s.forgottenLane l X) := by
  refine (((((h.restartChecker hal).closeWindow_restart.modHistory (.lane l)
    fun _ => []).dropLaneJobs).clearRun).dropCaptures.forgetAlarm).congr ?_
  unfold State.forgottenLane
  split <;> rfl

theorem State.forgets_hist : ((s.forgets l).lane l).hist = [] := by
  have h0 : (((s.restartChecker l).closeWindow l .restart).modHistory (.lane l) (fun _ => [])).lane l =
      { ((s.restartChecker l).closeWindow l .restart).lane l with hist := [] } :=
    (State.lane_modLane ..).trans (if_pos rfl)
  unfold State.forgets
  generalize ((s.restartChecker l).closeWindow l .restart).modHistory (.lane l) (fun _ => []) = t at h0
  rw [State.forgetAlarm, State.lane_modLane, if_pos rfl]
  change (((t.dropLaneJobs l).clearRun l).lane l).hist = []
  rw [State.clearRun, State.lane_modLane, if_pos rfl]
  exact (congrArg Lane.hist h0 :)

theorem State.forgets_jobs : ∀ j ∈ (s.forgets l).jobs, j.source = .lane l → j.discard = true ∧ j.inputs.isSome = true := by
  intro j hj hsrc
  obtain ⟨k, hk, rfl⟩ := List.mem_map.mp hj
  have hw := (List.mem_filter.mp hk).2
  split at hsrc
  · next hl =>
    rw [if_pos hl]
    refine ⟨rfl, ?_⟩
    rw [isWaiting, hl] at hw
    cases hi : k.inputs with
    | none => simp [hi] at hw
    | some i => rfl
  · next hl => exact absurd (beq_iff_eq.mpr hsrc) hl

theorem State.capture_postJob (src : Source) (number : FrameSeq) (serial errs bits : Nat) :
    (s.postJob src number serial errs bits).capture = s.capture :=
  State.postJob_reads State.capture (fun _ _ => rfl) (fun _ src _ => by cases src <;> rfl) ..

/-- A capture queue that holds all of `cs` is only added to. -/
theorem Measured.captures (l : LaneNo) (cs : List CapEntry) : Measured ⟨False, False⟩ l (fun s => ∀ c ∈ cs, c ∈ s.capture) where
  aware h := h.elim
  mem _ _ h := h
  group h _ := h
  notify n h := by
    unfold State.notify
    split <;> exact h
  serial h := h
  append h _ := h
  post g number serial errs bits h := by
    rw [State.capture_postJob]
    exact h
  lane h _ := h
  capture c h := by
    unfold State.placeCapture
    split
    · exact fun x hx => List.mem_append_left _ (h x hx)
    · exact h
  appendLane h _ := h
  postLane number serial errs bits h := by
    rw [State.capture_postJob]
    exact h
  faults _ h := h
  suspects _ h := h

/-- A capture queue that is only added to but for the entries of lane `l`. -/
theorem State.forgets_captures : (∀ c ∈ (s.forgets l).capture, c.lane ≠ l) ∧
    ∀ c ∈ s.capture, c.lane ≠ l → c ∈ (s.forgets l).capture := by
  have K := Measured.captures l s.capture
  have hk : ∀ c ∈ s.capture, c ∈ ((s.restartChecker l).closeWindow l .restart).capture := by
    refine K.closeWindow .restart (fun h => absurd rfl h) ?_
    unfold State.restartChecker
    refine ite_keeps (P := fun t => ∀ c ∈ s.capture, c ∈ t.capture) (fun _ _ h => h) fun _ => ?_
    exact K.modCk (K.forceHunt _ _ _ fun _ h => h) rfl
  have hcap : (s.forgets l).capture =
      ((s.restartChecker l).closeWindow l .restart).capture.filter (fun c => c.lane != l) := rfl
  rw [hcap]
  refine ⟨fun c hc => ?_, fun c hc hl => List.mem_filter.mpr ⟨hk c hc, by simpa using hl⟩⟩
  simpa using (List.mem_filter.mp hc).2

theorem State.capture_seekAligner : (s.seekAligner l).capture = s.capture := by
  have hn : ∀ (t : State) n, (t.notify n).capture = t.capture := fun t n => by
    unfold State.notify
    split <;> rfl
  rw [State.seekAligner_eq]
  unfold State.linkLeft State.linkDepart
  split
  · exact ite_keeps_of (P := fun t => t.capture = s.capture) (fun h => (hn ..).trans h) rfl
  · rfl

theorem State.forgets_keeps : s.keeps (s.forgets l) l := by
  have h1 : s.keeps ((s.restartChecker l).closeWindow l .restart) l := by
    refine State.keeps_of_others ((State.closeWindow_fixed ..).trans ?_) ((State.closeWindow_others ..).trans ?_)
    all_goals
      unfold State.restartChecker
      split
      · rfl
    · exact State.forceHunt_fixed ..
    · exact (State.modCk_others ..).trans (State.forceHunt_others ..)
  have h2 : s.keeps (((s.restartChecker l).closeWindow l .restart).modHistory (.lane l) (fun _ => [])) l :=
    h1.modLane fun L => { L with hist := [] }
  have h3 : s.keeps ((((s.restartChecker l).closeWindow l .restart).modHistory (.lane l) (fun _ => [])).dropLaneJobs l) l :=
    ⟨h2.1, h2.2⟩
  unfold State.forgets
  generalize (((s.restartChecker l).closeWindow l .restart).modHistory (.lane l) (fun _ => [])).dropLaneJobs l = t at h3
  have h4 : s.keeps ((t.clearRun l).dropCaptures l) l := h3.modLane fun L =>
    { L with run := ⟨Counts.zero, t.tick, 0, none, if t.rxFramed l then L.run.tag else L.run.tag + 1⟩ }
  exact h4.modLane fun L => { L with alarm := .clear, alarmKnown := false }

theorem State.keeps.trans (h : s.keeps t l) (k : t.keeps u l) : s.keeps u l :=
  ⟨k.1.trans h.1, fun m hm => (k.2 m hm).trans (h.2 m hm)⟩

/-- An aligner reset with its group's update. -/
theorem State.resetAligner_keeps : (s.seekAligner l).keeps (s.resetAligner l) l :=
  State.keeps_of_others (State.groupLeft_fixed ..) (State.groupLeft_others ..)

theorem State.resetAligner_as : (s.seekAligner l).As l (s.resetAligner l) (s.lane l).sought := by
  rw [← State.seekAligner_lane]
  exact State.As.refl.groupLeft l

/-- What holds of a state with the marker channel put back, of a state that keeps the rest. -/
theorem State.keeps.of_link {k : Link} (h : s.keeps { t with link := k } l) (e : t.keeps u l) :
    s.keeps { u with link := k } l :=
  ⟨(congrArg (fun F : Fixed => { F with link := k }) e.1 :).trans h.1, fun m hm => (e.2 m hm).trans (h.2 m hm)⟩

theorem State.restartLane_facts (s : State) (l : LaneNo) :
    let v := s.seekAligner l
    let X := v.forgottenLane l (s.lane l).sought
    v.As l (s.restartLane l) (if X.ck.state = .off then X else { X with win := v.openedWin l X.al X.win }) ∧
      ((s.restartLane l).lane l).hist = [] ∧ (s.restartLane l).jobs = ((s.resetAligner l).forgets l).jobs ∧
      (s.restartLane l).capture = ((s.resetAligner l).forgets l).capture ∧
      ((s.resetAligner l).forgets l).keeps (s.restartLane l) l := by
  intro v X
  have has := (State.resetAligner_as (s := s) (l := l)).forgets (by rw [State.seekAligner_lane]) |>.open_or_not
  rw [State.restartLane_eq]
  refine ⟨has, ?_, ?_, ?_, ?_⟩
  · split
    · exact State.forgets_hist
    · exact (congrArg Lane.hist ((State.lane_modLane ..).trans (if_pos rfl)) :).trans State.forgets_hist
  all_goals split
  · rfl
  · rfl
  · rfl
  · rfl
  · exact ⟨rfl, fun _ _ => rfl⟩
  · exact State.keeps.modLane ⟨rfl, fun _ _ => rfl⟩ _

/-- Settles O27: the aligner, the checker, the window, the run totals, the history and the lane's entries start anew; its jobs are
waiting no more. -/
theorem restartLaneForgets : Obligations.RestartLaneForgets := by
  intro s rest tag l hc h
  obtain ⟨has, hhist, hjobs, hcap, hlast⟩ := s.restartLane_facts l
  have hkeeps : s.keeps { s.restartLane l with link := s.link } l :=
    State.seekAligner_keeps.of_link (State.resetAligner_keeps.trans (State.forgets_keeps.trans hlast))
  have hcaps : ∀ c ∈ s.capture, c ∈ (s.resetAligner l).capture :=
    (Measured.captures l s.capture).toGroupKept.groupLeft l (by rw [State.capture_seekAligner]; exact fun _ h => h)
  obtain ⟨hgone, hstay⟩ := State.forgets_captures (s := s.resetAligner l) (l := l)
  have hck : ∀ X : Lane, ((s.seekAligner l).forgottenLane l X).ck = if X.ck.state = .off then X.ck else { X.ck with
      run := [], state := .hunt, reason := (s.seekAligner l).huntReason l, confirmRun := 0, sinceLock := 0, lastLoss := .none } :=
    fun _ => rfl
  have htick := State.tick_seekAligner (s := s) (l := l)
  have hjob := State.forgets_jobs (s := s.resetAligner l) (l := l)
  rw [← hcap] at hgone hstay
  rw [← hjobs] at hjob
  have answer := fun hq hw => State.answer_lane (code := 0x0E) (own := fun _ l => Reply.ok (s.restartLane l)) hc h rfl hq hw
  generalize s.restartLane l = t at has hhist hlast hkeeps hgone hstay hjob answer
  refine ⟨t, answer (congrArg Fixed.cmdQ hkeeps.1 :) (congrArg Fixed.waiting hkeeps.1 :), ?_⟩
  by_cases hoff : (s.lane l).ck.state = .off
  · have hX : ((s.seekAligner l).forgottenLane l (s.lane l).sought).ck = (s.lane l).ck := if_pos hoff
    rw [if_pos (hX ▸ hoff)] at has
    exact ⟨has.al, hhist, has.idm, (congrArg RunTotals.counts has.run :), (congrArg RunTotals.startTick has.run :).trans htick,
      has.alarm, has.alarmKnown, has.hold, hgone, fun c hm hl => hstay c (hcaps c hm) hl, hjob,
      fun _ => ⟨(congrArg Checker.state (has.ck.trans hX) :).trans hoff, (congrArg Win.isOpen has.win :)⟩,
      fun h => absurd hoff h, has.tx, has.rxBuf, hkeeps⟩
  · have hX := (hck (s.lane l).sought).trans (if_neg hoff)
    rw [if_neg (by rw [hX]; exact nofun)] at has
    exact ⟨has.al, hhist, has.idm, (congrArg RunTotals.counts has.run :), (congrArg RunTotals.startTick has.run :).trans htick,
      has.alarm, has.alarmKnown, has.hold, hgone, fun c hm hl => hstay c (hcaps c hm) hl, hjob, fun h => absurd h hoff,
      fun _ => ⟨(congrArg Checker.state (has.ck.trans hX) :), (congrArg Checker.run (has.ck.trans hX) :),
        (congrArg Checker.sinceLock (has.ck.trans hX) :), (congrArg Win.isOpen has.win :), (congrArg Win.counts has.win :),
        (congrArg Win.openTick has.win :).trans htick⟩, has.tx, has.rxBuf, hkeeps⟩

end Sys2Proof.Machine
end

section
/-! WRITE_ENTRY of a lane map entry: a lane that changes its group contributes no more until its next frame boundary. -/

namespace Sys2Proof.Machine

variable {s t u v : State} {l m : LaneNo} {g : GroupId} {X Y : Lane} {rest : List CmdRec} {tag : Octet} {body : List Block}

/-! ### Group items of a lane -/

theorem State.mem_modMem (f : Member → Member) :
    ((s.modMem m f).lane l).mem = if l = m then f (s.lane l).mem else (s.lane l).mem := by
  rw [State.modMem, State.lane_modLane]
  split
  · next e => rw [e]
  · rfl

@[simp] theorem State.mem_notify (n : Notice) : ((s.notify n).lane l).mem = (s.lane l).mem := by
  rw [State.lane, State.lanes_notify, State.lane]

@[simp] theorem State.mem_modHistory (src : Source) (f : List WinRecord → List WinRecord) :
    ((s.modHistory src f).lane l).mem = (s.lane l).mem := by
  cases src with
  | group g => rfl
  | lane m =>
    rw [State.modHistory, State.lane_modLane]
    split
    · next e => rw [e]
    · rfl

@[simp] theorem State.mem_postJob (src : Source) (number : FrameSeq) (serial errs bits : Nat) :
    ((s.postJob src number serial errs bits).lane l).mem = (s.lane l).mem :=
  State.postJob_reads (fun s => (s.lane l).mem) (fun _ _ => rfl) (fun _ _ _ => State.mem_modHistory ..) ..

@[simp] theorem State.mem_fileRecord (r : WinRecord) (post note : Bool) :
    ((s.fileRecord r post note).lane l).mem = (s.lane l).mem := by
  refine ite_keeps_of (P := fun t => (t.lane l).mem = (s.lane l).mem) (fun h => (State.mem_notify _).trans h) ?_
  exact ite_keeps_of (P := fun t => (t.lane l).mem = (s.lane l).mem) (fun h => (State.mem_postJob ..).trans h)
    (State.mem_modHistory ..)

/-! ### A group window as it closes -/

/-- What is retired changes of a window its errored frames alone. -/
def GWin.retired (w : GWin) (es : List RingEntry) : GWin :=
  es.foldl (fun w e => if e.errored && w.inSpan e.seq then { w with counts := w.counts.addErroredFrame } else w) w

theorem retireEntries_eq (es : List RingEntry) : ∀ w : GWin, es.foldl retireEntry (some w) = some (w.retired es) := by
  induction es with
  | nil => exact fun _ => rfl
  | cons e es ih =>
    intro w
    rw [List.foldl_cons, GWin.retired, List.foldl_cons]
    by_cases h : (e.errored && w.inSpan e.seq) = true
    · rw [retireEntry, if_pos h, if_pos h]
      exact ih _
    · rw [retireEntry, if_neg h, if_neg h]
      exact ih _

theorem GWin.retired_rest (es : List RingEntry) : ∀ w : GWin, w.retired es = { w with counts := (w.retired es).counts } := by
  induction es with
  | nil => exact fun _ => rfl
  | cons e es ih =>
    intro w
    rw [GWin.retired, List.foldl_cons]
    refine (ih _).trans ?_
    split <;> rfl

theorem Group.retire_win {gr : Group} {w : GWin} (h : gr.win = some w) (gone : RingEntry → Bool) :
    (gr.retire gone).win = some (w.retired (gr.ring.filter gone)) := by
  rw [Group.retire, h]
  exact retireEntries_eq ..

/-- The window of a group as its closing judges it: what its span holds of the ring has retired, and it is incomplete if some
member's whole flag is clear (R73). -/
def State.closingWin (s : State) (g : GroupId) (w : GWin) : GWin :=
  { w.retired ((s.group g).ring.filter fun e => w.inSpan e.seq) with incomplete := w.incomplete || s.someNotWhole g }

/-- The state with the record of a closing group window filed, the window itself ended. -/
def State.groupFiled (s : State) (g : GroupId) (w : GWin) (r : CloseReason) : State :=
  let u := s.modGroup g fun gr => gr.retire fun e => w.inSpan e.seq
  { u.modGroup g (fun gr => { gr with win := none }) with serial := u.serial + 1 }.fileRecord
    (u.groupRecord g (s.closingWin g w) r) true w.notices

theorem State.closeGroup_of_none (h : (s.group g).win = none) (r : CloseReason) : s.closeGroup g r = s := by
  unfold State.closeGroup
  rw [h]

/-- R73. -/
theorem State.closeGroup_of_open {w : GWin} (h : (s.group g).win = some w) (r : CloseReason) :
    s.closeGroup g r = match r, w.rep, w.s0, w.spec with
      | .length, true, some z, .frames n => (s.groupFiled g w r).openGroup g w.spec w.rep w.notices
          (some (z + BitVec.ofNat 16 n)) (w.offset - n)
      | _, _, _, _ => s.groupFiled g w r := by
  have hrest := GWin.retired_rest ((s.group g).ring.filter fun e => w.inSpan e.seq) w
  have hwin : ((s.modGroup g fun gr => gr.retire fun e => w.inSpan e.seq).group g).win =
      some (w.retired ((s.group g).ring.filter fun e => w.inSpan e.seq)) := by
    rw [State.group_modGroup, if_pos rfl]
    exact Group.retire_win h _
  unfold State.closeGroup State.groupFiled State.closingWin
  rw [h]
  dsimp only
  rw [hwin]
  generalize w.retired ((s.group g).ring.filter fun e => w.inSpan e.seq) = v at hrest
  rw [hrest]
  rfl

/-! ### What a group event without a boundary leaves of a lane that does not contribute -/

/-- Lane `l` does not contribute to its group. -/
def State.Apart (l : LaneNo) (s : State) : Prop := (s.lane l).mem.contributing = false

namespace State.Apart

theorem of_mem (h : s.Apart l) (e : (t.lane l).mem = (s.lane l).mem) : t.Apart l := (congrArg Member.contributing e :).trans h

theorem modMem (h : s.Apart l) {f : Member → Member} (hf : ∀ m, m.contributing = false → (f m).contributing = false) :
    (s.modMem m f).Apart l := by
  rw [State.Apart, State.mem_modMem]
  split
  · exact hf _ h
  · exact h

theorem refreshLag (h : s.Apart l) : (s.refreshLag g m).Apart l := by
  unfold State.refreshLag
  refine ite_keeps (fun _ => h) fun _ => ite_keeps (fun _ => h.modMem fun _ h => h) fun _ => ?_
  split
  · exact h
  · exact ite_keeps_of (fun h => h.of_mem (State.mem_notify _)) (h.modMem fun _ h => h)

theorem recompute (h : s.Apart l) : (s.recompute g).Apart l := by
  unfold State.recompute
  refine State.forLanes_keeps (fun m h => h.refreshLag) ?_
  split
  · exact h
  · exact h

theorem dropContrib (h : s.Apart l) : (s.dropContrib g).Apart l :=
  State.forLanes_keeps (f := fun l s => s.dropMember g l) (fun _ h => ite_keeps (fun _ => h.modMem fun _ _ => rfl) fun _ => h) h

theorem clearWholes (h : s.Apart l) : (s.clearWholes g).Apart l :=
  State.forLanes_keeps (fun _ h => ite_keeps (fun _ => h.modMem fun _ h => h) fun _ => h) h

theorem openGroup (h : s.Apart l) (spec : WinSpec) (rep notices : Bool) (s0 : Option FrameSeq) (offset : Int) :
    (s.openGroup g spec rep notices s0 offset).Apart l := by
  unfold State.openGroup
  refine ite_keeps_of (fun h => h.clearWholes) ?_
  exact State.forLanes_keeps (fun _ h => ite_keeps (fun _ => h.modMem fun _ h => h) fun _ => h) h

theorem closeGroup (h : s.Apart l) (r : CloseReason) : (s.closeGroup g r).Apart l := by
  cases hw : (s.group g).win with
  | none => rwa [State.closeGroup_of_none hw]
  | some w =>
    have hfiled : (s.groupFiled g w r).Apart l := State.Apart.of_mem (s := s) h (State.mem_fileRecord ..)
    rw [State.closeGroup_of_open hw]
    split
    · exact hfiled.openGroup ..
    · exact hfiled

theorem closeDue (n : Nat) : ∀ {s : State}, s.Apart l → (s.closeDue g n).Apart l := by
  induction n with
  | zero => exact fun h => h
  | succ n ih => exact fun h => ite_keeps (fun _ => ih (h.closeGroup .length)) fun _ => h

theorem settleGroup (h : s.Apart l) : (s.settleGroup g).Apart l := by
  unfold State.settleGroup
  refine State.Apart.closeDue _ ?_
  unfold State.retirePassed
  exact ite_keeps (fun _ => h) fun _ => h

theorem groupEvent (h : s.Apart l) : (s.groupEvent g none).Apart l := by
  unfold State.groupEvent
  exact State.Apart.settleGroup (ite_keeps_of (fun h => h.clearWholes) h.recompute.dropContrib)

theorem groupRefresh (h : s.Apart l) : (s.groupRefresh m).Apart l := by
  unfold State.groupRefresh
  split
  · exact h
  · exact h.dropContrib.settleGroup

theorem modLane (h : s.Apart l) {f : Lane → Lane} (hf : (f (s.lane m)).mem = (s.lane m).mem) : (s.modLane m f).Apart l := by
  refine h.of_mem ?_
  rw [State.lane_modLane]
  split
  · next e => rw [hf, e]
  · rfl

theorem discardRun (h : s.Apart l) (count give : Bool) : (s.discardRun m count give).Apart l := by
  have hcap : ∀ (t : State) (c : CapEntry), ((t.placeCapture c).lane l).mem = (t.lane l).mem := fun t c => by
    unfold State.placeCapture
    split <;> rfl
  have hitem : ∀ {t : State} (it : RunItem), t.Apart l → (t.discardItem it).Apart l := fun {t} it ht => by
    cases it with
    | heavy r => exact ht
    | entry c => exact ht.of_mem (hcap t c)
  have hrun : (s.modCk m fun k => { k with run := [] }).Apart l := h.modLane rfl
  unfold State.discardRun
  refine ite_keeps (fun _ => h) fun _ => State.Apart.groupRefresh ?_
  refine ite_keeps_of (fun h => foldl_keeps (P := State.Apart l) hitem _ h) ?_
  exact ite_keeps_of (fun h => h.modLane rfl) hrun

theorem forceHunt (h : s.Apart l) (cause : SyncCause) (count give : Bool) : (s.forceHunt m cause count give).Apart l := by
  have hunts : ((s.discardRun m count give).enterHunt m).Apart l := (h.discardRun count give).modLane rfl
  unfold State.forceHunt
  exact ite_keeps (fun _ => h) fun _ =>
    State.Apart.groupRefresh (ite_keeps_of (fun h => h.of_mem (State.mem_notify _)) hunts)

end State.Apart

/-! ### A lane map entry (R60) -/

theorem State.changeGroup_same (h : old = new) : s.changeGroup l old new = s := if_pos h

/-- A lane that changes its group contributes to neither. -/
theorem State.changeGroup_apart {old new : Option GroupId} (h : old ≠ new) : (s.changeGroup l old new).Apart l := by
  have h0 : (s.modMem l fun m => { m with contributing := false, lag := none, skew := false, greatestLag := 0 }).Apart l := by
    rw [State.Apart, State.mem_modMem, if_pos rfl]
  unfold State.changeGroup
  rw [if_neg h]
  generalize (s.modMem l fun m => { m with contributing := false, lag := none, skew := false, greatestLag := 0 }) = t at h0
  cases old <;> cases new
  · exact h0
  · exact h0.groupEvent
  · exact h0.groupEvent
  · exact h0.groupEvent.groupEvent

theorem State.As.changeGroup (h : s.As l t X) (old new : Option GroupId) : s.As l (t.changeGroup l old new) X := by
  have hmem : s.As l (t.modMem l fun m => { m with contributing := false, lag := none, skew := false, greatestLag := 0 }) X := by
    refine ⟨h.fixed, ?_⟩
    rw [State.modMem, State.lane_modLane, if_pos rfl]
    exact h.stands
  unfold State.changeGroup
  refine ite_keeps (P := fun v => s.As l v X) (fun _ => h) fun _ => ?_
  cases old <;> cases new
  · exact hmem
  · exact hmem.groupEvent ..
  · exact hmem.groupEvent ..
  · exact (hmem.groupEvent ..).groupEvent ..

theorem State.changeGroup_others (old new : Option GroupId) (x : Option LaneNo) :
    (s.changeGroup l old new).others x = s.others x := by
  unfold State.changeGroup
  split
  · rfl
  · cases old <;> cases new <;> simp

theorem LaneMapArg.entry_eq_some (a : LaneMapArg) (e : LaneMapEntry) : LaneMapArg.entry a = some e ↔
    a.txId = e.txId.val ∧ a.rxId = e.rxId.val ∧ a.follow = some e.follow ∧ a.group = some e.group := by
  have hlane : ∀ (n : Nat) (l : LaneNo), laneOf n = some l ↔ n = l.val := fun n l => by
    unfold laneOf
    split
    · rw [Option.some.injEq, Fin.ext_iff]
    · exact ⟨nofun, fun h => absurd l.isLt (by omega)⟩
  obtain ⟨t, r, f, g⟩ := e
  simp only [← hlane]
  unfold LaneMapArg.entry
  cases laneOf a.txId <;> cases laneOf a.rxId <;> cases a.follow <;> cases a.group <;> simp

/-- R60: a write that is taken. -/
def State.mapped (s : State) (l : LaneNo) (e : LaneMapEntry) : State :=
  ((({ s with laneMap := s.laneMap.set l (some e) } : State).changeGroup l (s.memberOf l) e.group).modLane l
    fun L => { L with idm := none }).forceHunt l .rewrite true true

theorem State.writeLaneMap_refused {a : LaneMapArg} (h : LaneMapArg.entry a = none) : s.writeLaneMap l a = (.badField, s) := by
  unfold State.writeLaneMap
  rw [h]

theorem State.writeLaneMap_taken {a : LaneMapArg} {e : LaneMapEntry} (h : LaneMapArg.entry a = some e) :
    s.writeLaneMap l a = if (s.lane l).tx.state = .running ∨ s.checksUnheld l = true then (.notHeld, s)
      else if s.memberOf l ≠ e.group ∧ (s.groupOpen (s.memberOf l) || s.groupOpen e.group) = true then (.busy, s)
      else (.ok, s.mapped l e) := by
  unfold State.writeLaneMap
  rw [h]
  rfl

theorem State.memberOf_eq : s.memberOf l = (s.map l).group := rfl

/-- A checker that is OFF, or whose lane is HELD, is not at work. -/
theorem State.checksUnheld_eq_false (h : (s.lane l).ck.state = .off ∨ (s.lane l).hold = .held) : ¬s.checksUnheld l = true := by
  rw [State.checksUnheld_iff, not_and_or, not_not, not_not]
  exact h

theorem State.mapped_as (e : LaneMapEntry) :
    ({ s with laneMap := s.laneMap.set l (some e) } : State).As l (s.mapped l e)
      (if (s.lane l).ck.state = .off then { s.lane l with idm := none }
        else (Lane.discarded true { s.lane l with idm := none }).hunting
          (({ s with laneMap := s.laneMap.set l (some e) } : State).huntReason l)) := by
  have h := ((State.As.refl (s := ({ s with laneMap := s.laneMap.set l (some e) } : State)) (l := l)).changeGroup (s.memberOf l)
    e.group).modLane (f := fun L => { L with idm := none })
  unfold State.mapped
  split
  · next hoff =>
    rw [State.forceHunt_of_off (by rw [h.ck]; exact hoff)]
    exact h
  · next hon => exact h.forceHunt hon rfl .rewrite true true

theorem State.mapped_keeps (e : LaneMapEntry) :
    ({ s with laneMap := s.laneMap.set l (some e) } : State).keeps (s.mapped l e) l := by
  refine State.keeps_of_others (State.mapped_as e).fixed ?_
  rw [State.mapped, State.forceHunt_others, State.modLane_others, State.changeGroup_others]

/-- Settles O44: the checks in their order; a taken write is a change of group, of the identity condition and of the checker. -/
theorem laneMapEntryWritten : Obligations.LaneMapEntryWritten := by
  refine ⟨LaneMapArg.entry_eq_some, fun s rest tag body l a hc hb h => ?_⟩
  have write : ∀ {st : Status} {t : State}, s.writeLaneMap l a = (st, t) → t.cmdQ = s.cmdQ → t.waiting = s.waiting →
      exec (.writeLaneMapEntry (.params ⟨l.val, a⟩)) s = .next (t.answered (localCmd 0x05 tag 0 body) rest st .empty) := by
    intro st t hw hq hwt
    refine State.answer_write hc hb h rfl (by decide) ?_ hq hwt
    dsimp only
    rw [laneOf_val]
    exact hw
  refine ⟨fun he => write (State.writeLaneMap_refused he) rfl rfl, fun i hi => ?_, fun e he => ⟨fun hbusy => ?_,
    fun htx hoff hg => ?_, fun htx hck => ⟨fun hg hopen => ?_, fun hg => ?_⟩⟩⟩
  · refine State.answer_write hc hb h rfl (by decide) ?_
    dsimp only
    rw [laneOf_eq_none hi]
    rfl
  · refine write ((State.writeLaneMap_taken he).trans (if_pos ?_)) rfl rfl
    rwa [State.checksUnheld_iff]
  · have htaken : s.writeLaneMap l a = (.ok, s.mapped l e) := by
      rw [State.writeLaneMap_taken he, if_neg, if_neg fun h => h.1 hg]
      rintro (h | h)
      · rw [htx] at h
        exact absurd h (by decide)
      · exact State.checksUnheld_eq_false (.inl hoff) h
    have heq : s.mapped l e = { s.putLane l { s.lane l with idm := none } with laneMap := s.laneMap.set l (some e) } := by
      unfold State.mapped
      rw [State.changeGroup_same (by exact hg), State.forceHunt_of_off]
      · rfl
      · exact (congrArg (fun L : Lane => L.ck.state) ((State.lane_modLane ..).trans (if_pos rfl)) :).trans hoff
    rw [heq] at htaken
    exact write htaken rfl rfl
  · refine write ((State.writeLaneMap_taken he).trans ((if_neg ?_).trans (if_pos ⟨hg, Bool.or_eq_true_iff.mpr hopen⟩))) rfl rfl
    rintro (h | h)
    · rw [htx] at h
      exact absurd h (by decide)
    · exact State.checksUnheld_eq_false hck h
  · have htaken : s.writeLaneMap l a = (.ok, s.mapped l e) := by
      rw [State.writeLaneMap_taken he, if_neg, if_neg]
      · rintro ⟨hne, ho⟩
        rcases hg with hg | ⟨h1, h2⟩
        · exact hne hg
        · rw [State.memberOf_eq, h1, h2] at ho
          exact absurd ho (by decide)
      · rintro (h | h)
        · rw [htx] at h
          exact absurd h (by decide)
        · exact State.checksUnheld_eq_false hck h
    have has := State.mapped_as (s := s) (l := l) e
    have hkeeps := State.mapped_keeps (s := s) (l := l) e
    have hapart : (s.map l).group ≠ e.group → (s.mapped l e).Apart l := fun hne =>
      ((State.changeGroup_apart hne).modLane rfl).forceHunt ..
    generalize s.mapped l e = t at htaken has hkeeps hapart
    refine ⟨t, write htaken (congrArg Fixed.cmdQ hkeeps.1 :) (congrArg Fixed.waiting hkeeps.1 :), has.laneMap,
      ⟨(congrArg (fun F : Fixed => { F with laneMap := s.laneMap }) hkeeps.1 :), hkeeps.2⟩, ?_⟩
    by_cases hoff : (s.lane l).ck.state = .off
    · rw [if_pos hoff] at has
      exact ⟨has.idm, has.tx, has.al, hapart, fun _ => has.ck, fun h => absurd hoff h⟩
    · rw [if_neg hoff] at has
      have hrest := Lane.discarded_rest true { s.lane l with idm := none }
      refine ⟨has.idm.trans (congrArg Lane.idm hrest :), has.tx.trans (congrArg Lane.tx hrest :),
        has.al.trans (congrArg Lane.al hrest :), hapart, fun h => absurd h hoff, fun _ => ⟨(congrArg Checker.state has.ck :), ?_⟩⟩
      exact (congrArg Checker.run has.ck :).trans (congrArg Checker.run (Lane.discarded_ck true _) :)

end Sys2Proof.Machine
end

section
/-! WRITE_ENTRY of a lane descriptor. -/

namespace Sys2Proof.Machine

variable {s t u v : State} {l m : LaneNo} {g : GroupId} {X Y : Lane} {e : LaneDesc}

/-! ### The written values (R142) -/

theorem trigger_inRange_iff (t : Trigger) : Trigger.inRange t = true ↔
    (∀ n, t = .blockAtLeast n → 1 ≤ n ∧ n ≤ 64) ∧ ∀ n, t = .frameSeq n → n ≤ 65535 := by
  cases t <;> simp [Trigger.inRange]

theorem winSpec_inLane_iff (w : WinSpec) : WinSpec.inLane w = true ↔
    (∀ n, w = .frames n → 1 ≤ n ∧ n ≤ 65535) ∧ ∀ n, w = .ticks n → 1 ≤ n ∧ n ≤ 16777215 := by
  cases w <;> simp [WinSpec.inLane]

theorem fourOf_eq_some {n : Nat} {k : Fin 4} : fourOf n = some k ↔ n = k.val := by
  unfold fourOf
  split
  · rw [Option.some.injEq, Fin.ext_iff]
  · exact ⟨nofun, fun h => absurd k.isLt (by omega)⟩

theorem LaneDescArg.entry_eq_some (a : LaneDescArg) (e : LaneDesc) : LaneDescArg.entry a = some e ↔
    e.confirm = max a.confirm 1 ∧ a.confirm ≤ 15 ∧ e.lossRun = max a.lossRun 1 ∧ a.lossRun ≤ 15 ∧
    e.heavy = min (max a.heavy 1) 64 ∧ a.framing = some e.framing ∧ a.rxMode = some e.rxMode ∧
    a.autoResync = some e.autoResync ∧ a.countHeld = some e.countHeld ∧ a.policy = some e.policy ∧
    a.trigger = some e.trigger ∧ a.action = some e.action ∧ a.spec = some e.spec ∧ a.rep = some e.rep ∧
    a.profile = e.profile.val ∧ a.notices = some e.notices ∧
    (∀ n, e.trigger = .blockAtLeast n → 1 ≤ n ∧ n ≤ 64) ∧ (∀ n, e.trigger = .frameSeq n → n ≤ 65535) ∧
    (∀ n, e.spec = .frames n → 1 ≤ n ∧ n ≤ 65535) ∧ (∀ n, e.spec = .ticks n → 1 ≤ n ∧ n ≤ 16777215) := by
  have bind : ∀ {α β : Type} {o : Option α} {f : α → Option β} {y : β}, o.bind f = some y ↔ ∃ x, o = some x ∧ f x = some y :=
    Option.bind_eq_some_iff
  unfold LaneDescArg.entry
  constructor
  · intro h
    obtain ⟨fr, hfr, h⟩ := bind.mp h
    obtain ⟨rx, hrx, h⟩ := bind.mp h
    obtain ⟨cf, hcf, h⟩ := bind.mp h
    obtain ⟨lr, hlr, h⟩ := bind.mp h
    obtain ⟨ar, har, h⟩ := bind.mp h
    obtain ⟨ch, hch, h⟩ := bind.mp h
    obtain ⟨po, hpo, h⟩ := bind.mp h
    obtain ⟨tr, htr, h⟩ := bind.mp h
    obtain ⟨ac, hac, h⟩ := bind.mp h
    obtain ⟨sp, hsp, h⟩ := bind.mp h
    obtain ⟨rp, hrp, h⟩ := bind.mp h
    obtain ⟨pr, hpr, h⟩ := bind.mp h
    obtain ⟨nt, hnt, h⟩ := bind.mp h
    obtain ⟨htr, hrange⟩ := Option.filter_eq_some_iff.mp htr
    obtain ⟨hsp, hlen⟩ := Option.filter_eq_some_iff.mp hsp
    obtain ⟨rfl, hcf'⟩ := countIn_eq_some.mp hcf
    obtain ⟨rfl, hlr'⟩ := countIn_eq_some.mp hlr
    obtain rfl := Option.some.inj h
    obtain ⟨htr1, htr2⟩ := (trigger_inRange_iff tr).mp hrange
    obtain ⟨hsp1, hsp2⟩ := (winSpec_inLane_iff sp).mp hlen
    exact ⟨rfl, hcf', rfl, hlr', rfl, hfr, hrx, har, hch, hpo, htr, hac, hsp, hrp, fourOf_eq_some.mp hpr, hnt, htr1, htr2, hsp1,
      hsp2⟩
  · rintro ⟨hcf, hcf', hlr, hlr', hh, hfr, hrx, har, hch, hpo, htr, hac, hsp, hrp, hpr, hnt, htr1, htr2, hsp1, hsp2⟩
    have htr' := Option.filter_eq_some_iff.mpr ⟨htr, (trigger_inRange_iff _).mpr ⟨htr1, htr2⟩⟩
    have hsp' := Option.filter_eq_some_iff.mpr ⟨hsp, (winSpec_inLane_iff _).mpr ⟨hsp1, hsp2⟩⟩
    refine bind.mpr ⟨_, hfr, bind.mpr ⟨_, hrx, bind.mpr ⟨_, countIn_eq_some.mpr ⟨hcf, hcf'⟩,
      bind.mpr ⟨_, countIn_eq_some.mpr ⟨hlr, hlr'⟩, bind.mpr ⟨_, har, bind.mpr ⟨_, hch, bind.mpr ⟨_, hpo, bind.mpr ⟨_, htr',
      bind.mpr ⟨_, hac, bind.mpr ⟨_, hsp', bind.mpr ⟨_, hrp, bind.mpr ⟨_, fourOf_eq_some.mpr hpr, bind.mpr ⟨_, hnt, ?_⟩⟩⟩⟩⟩⟩⟩⟩⟩⟩⟩⟩⟩
    rw [← hh]

/-! ### The steps of a taken write (R143) -/

/-- The write changes the framing of the lane. -/
def State.reframes (s : State) (l : LaneNo) (e : LaneDesc) : Prop := (s.laneDesc.get l).map LaneDesc.framing ≠ some e.framing

/-- The table written, and the armed flag by its trigger. -/
def State.armedBy (s : State) (l : LaneNo) (e : LaneDesc) : State :=
  ({ s with laneDesc := s.laneDesc.set l (some e) } : State).modLane l fun L => { L with armed := e.trigger != .none }

/-- The aligner reset where the framing changes. -/
def State.described (s : State) (l : LaneNo) (e : LaneDesc) : State :=
  if (s.laneDesc.get l).map LaneDesc.framing ≠ some e.framing then (s.armedBy l e).reframeAligner l else s.armedBy l e

/-- The check of R55 where the lane begins to count. -/
def State.recounted (s : State) (counted : Bool) (l : LaneNo) : State :=
  if !counted && s.counting l then s.holdEndCheck l else s

theorem State.writeLaneDesc_refused {a : LaneDescArg} (h : LaneDescArg.entry a = none) :
    s.writeLaneDesc l a = (.badField, s) := by
  unfold State.writeLaneDesc
  rw [h]

theorem State.writeLaneDesc_taken {a : LaneDescArg} (h : LaneDescArg.entry a = some e) :
    s.writeLaneDesc l a = if s.checksUnheld l then (.notHeld, s)
      else (.ok, ((s.described l e).rewrittenDesc l |>.recounted (s.counting l) l).settleHolds) := by
  unfold State.writeLaneDesc
  rw [h]
  rfl

/-! ### What the steps leave -/

/-- From `s` the state `t` differs in the lane descriptors, the marker channel, the supervisor and lane `l` alone, up to the group
items and histories of other lanes. -/
def State.Beside (l : LaneNo) (s t : State) : Prop :=
  ({ t with laneDesc := s.laneDesc, link := s.link, sup := s.sup } : State).fixed = s.fixed ∧ t.others (some l) = s.others (some l)

theorem State.Beside.of_keeps (h : State.Beside l s t) (k : t.keeps u l) : State.Beside l s u :=
  ⟨(congrArg (fun F : Fixed => { F with laneDesc := s.laneDesc, link := s.link, sup := s.sup }) k.1 :).trans h.1,
    ((State.others_iff ..).mpr k.2).trans h.2⟩

theorem State.Beside.of_link (h : State.Beside l s t) (k : t.keeps { u with link := t.link } l) : State.Beside l s u :=
  ⟨(congrArg (fun F : Fixed => { F with laneDesc := s.laneDesc, link := s.link, sup := s.sup }) k.1 :).trans h.1,
    ((State.others_iff t u l).mpr k.2).trans h.2⟩

theorem State.Beside.modRemote (h : State.Beside l s t) (f : RemoteActs → RemoteActs) : State.Beside l s (t.modRemote l f) := by
  have k : t.keeps { t.modRemote l f with sup := t.sup } l := State.keeps_modRemote ⟨rfl, fun _ _ => rfl⟩ f
  exact ⟨(congrArg (fun F : Fixed => { F with laneDesc := s.laneDesc, link := s.link, sup := s.sup }) k.1 :).trans h.1,
    ((State.others_iff t (t.modRemote l f) l).mpr k.2).trans h.2⟩

theorem State.reframeAligner_keeps : s.keeps { s.reframeAligner l with link := s.link } l := by
  unfold State.reframeAligner
  split
  · exact State.seekAligner_keeps.of_link State.resetAligner_keeps
  · exact State.seekAligner_keeps

theorem State.described_beside : State.Beside l s (s.described l e) := by
  have harm : State.Beside l s (s.armedBy l e) := ⟨rfl, State.modLane_others ..⟩
  unfold State.described
  split
  · exact harm.of_link State.reframeAligner_keeps
  · exact harm

theorem State.rewrittenDesc_beside (h : State.Beside l s t) : State.Beside l s (t.rewrittenDesc l) := by
  have hstop : t.keeps (t.stopChecker l) l := State.keeps_of_others (State.stopChecker_fixed t l) (State.stopChecker_others ..)
  unfold State.rewrittenDesc
  refine ite_keeps (fun _ => h) fun _ => ite_keeps (fun _ => (h.of_keeps hstop).modRemote _) fun _ => ?_
  exact h.of_keeps (State.keeps_of_others (State.forceHunt_fixed ..) (State.forceHunt_others ..))

theorem State.recounted_beside (h : State.Beside l s t) (c : Bool) : State.Beside l s (t.recounted c l) := by
  unfold State.recounted
  exact ite_keeps (fun _ => h.of_keeps (State.keeps_of_others (State.holdEndCheck_fixed ..) (State.holdEndCheck_others ..)))
    fun _ => h

theorem State.Beside.settleHolds (h : State.Beside l s t) (hs : s.holdsSettled = true) : State.Beside l s t.settleHolds := by
  refine ⟨?_, (State.settleHolds_others t l fun m hm => ?_).trans h.2⟩
  · exact (congrArg (fun F : Fixed => { F with laneDesc := s.laneDesc, link := s.link, sup := s.sup })
      (State.settleHolds_fixed t) :).trans h.1
  · rw [State.holdReq_of_others h.2 m hm]
    exact State.holdReq_of_settled hs m

/-- The lane after the table, the armed flag and the aligner have been written. -/
def State.describedLane (s : State) (l : LaneNo) (e : LaneDesc) (L : Lane) : Lane :=
  if (s.laneDesc.get l).map LaneDesc.framing ≠ some e.framing then Lane.sought { L with armed := e.trigger != .none }
  else { L with armed := e.trigger != .none }

theorem State.armedBy_lane : (s.armedBy l e).lane l = { s.lane l with armed := e.trigger != .none } :=
  (State.lane_modLane ..).trans (if_pos rfl)

theorem State.reframeAligner_stands : ((s.reframeAligner l).lane l).still = (s.lane l).sought.still := by
  unfold State.reframeAligner
  split
  · exact State.resetAligner_as.stands
  · rw [State.seekAligner_lane]

theorem State.described_as : (s.described l e).As l (s.described l e) (s.describedLane l e (s.lane l)) := by
  refine ⟨rfl, ?_⟩
  unfold State.described State.describedLane
  split
  · rw [State.reframeAligner_stands, State.armedBy_lane]
  · rw [State.armedBy_lane]

/-- What of the described lane is as before. -/
theorem State.describedLane_kept (L : Lane) : (s.describedLane l e L).tx = L.tx ∧ (s.describedLane l e L).ck = L.ck ∧
    (s.describedLane l e L).holdReq = L.holdReq ∧ (s.describedLane l e L).armed = decide (e.trigger ≠ .none) ∧
    ((s.laneDesc.get l).map LaneDesc.framing = some e.framing → (s.describedLane l e L).al = L.al) ∧
    ((s.laneDesc.get l).map LaneDesc.framing ≠ some e.framing → (s.describedLane l e L).al = Aligner.reset) := by
  have harm : (e.trigger != .none) = decide (e.trigger ≠ .none) := by
    simp [bne, beq_eq_decide]
  unfold State.describedLane
  split
  · next h => exact ⟨rfl, rfl, rfl, harm, fun h' => absurd h' h, fun _ => rfl⟩
  · next h => exact ⟨rfl, rfl, rfl, harm, fun _ => rfl, fun h' => absurd h' h⟩

theorem State.described_rxMode : ((s.described l e).desc l).rxMode = e.rxMode := by
  have hdesc : (s.described l e).laneDesc = s.laneDesc.set l (some e) := by
    have hre : ∀ t : State, (t.reframeAligner l).laneDesc = t.laneDesc := fun t =>
      (congrArg Fixed.laneDesc (State.reframeAligner_keeps (s := t)).1 :)
    unfold State.described
    split
    · exact hre _
    · rfl
  rw [State.desc, hdesc, Eight.get_set, if_pos rfl]
  rfl

theorem State.rewrittenDesc_of_off (h : (s.lane l).ck.state = .off) : s.rewrittenDesc l = s := if_pos (State.ckOff_iff.mpr h)

theorem State.holdEndCheck_of_off (h : (s.lane l).ck.state = .off) : s.holdEndCheck l = s := by
  unfold State.holdEndCheck
  rw [h]
  exact ite_self _

theorem State.recounted_of_off (h : (s.lane l).ck.state = .off) (c : Bool) : s.recounted c l = s := by
  rw [State.recounted, State.holdEndCheck_of_off h]
  exact ite_self _

/-- A lane that hunts hunts on where it begins to count. -/
theorem State.As.recounted_hunting (h : s.As l t X) (hk : X.ck.state = .hunt) (hal : X.al.state = (s.lane l).al.state) (c : Bool) :
    ∃ Y, s.As l (t.recounted c l) Y ∧ Y.ck.state = .hunt ∧ Y.ck.run = X.ck.run ∧ Y.tx = X.tx ∧ Y.al = X.al := by
  unfold State.recounted
  split
  · rcases h.holdEndCheck hal with h | ⟨-, -, -, h⟩ | ⟨hl, -⟩
    · exact ⟨X, h, hk, rfl, rfl, rfl⟩
    · exact ⟨_, h, rfl, rfl, rfl, rfl⟩
    · exact absurd (hk.symm.trans hl) (by decide)
  · exact ⟨X, h, hk, rfl, rfl, rfl⟩

theorem State.groups_seekAligner : (s.seekAligner l).groups = s.groups := by
  have hn : ∀ (t : State) n, (t.notify n).groups = t.groups := fun t n => by
    unfold State.notify
    split <;> rfl
  rw [State.seekAligner_eq]
  unfold State.linkLeft State.linkDepart
  split
  · exact ite_keeps_of (P := fun t => t.groups = s.groups) (fun h => (hn ..).trans h) rfl
  · rfl

/-- R66: no group learns of the write unless the aligner leaves ALIGNED. -/
theorem State.described_groups (h : (s.laneDesc.get l).map LaneDesc.framing = some e.framing ∨ (s.lane l).al.state ≠ .aligned) :
    (s.described l e).groups = s.groups := by
  unfold State.described
  split
  · next hne =>
    have ha : (s.armedBy l e).aligned l = false := by
      rw [State.aligned, State.armedBy_lane]
      exact beq_eq_false_iff_ne.mpr (h.resolve_left hne)
    rw [State.reframeAligner, ha, if_neg Bool.false_ne_true, State.groups_seekAligner]
    rfl
  · rfl

theorem State.laneDesc_recounted (c : Bool) : (s.recounted c l).laneDesc = s.laneDesc := by
  unfold State.recounted
  split
  · exact (congrArg Fixed.laneDesc (State.holdEndCheck_fixed ..) :)
  · rfl

/-- The state after a taken write (R143). -/
def State.redescribed (s : State) (l : LaneNo) (e : LaneDesc) : State :=
  (((s.described l e).rewrittenDesc l).recounted (s.counting l) l).settleHolds

theorem State.redescribed_laneDesc : (s.redescribed l e).laneDesc = s.laneDesc.set l (some e) := by
  have hre : ∀ t : State, (t.reframeAligner l).laneDesc = t.laneDesc := fun t =>
    (congrArg Fixed.laneDesc (State.reframeAligner_keeps (s := t)).1 :)
  have hrw : ∀ t : State, (t.rewrittenDesc l).laneDesc = t.laneDesc := fun t => by
    unfold State.rewrittenDesc
    refine ite_keeps (P := fun u => u.laneDesc = t.laneDesc) (fun _ => rfl) fun _ =>
      ite_keeps (P := fun u => u.laneDesc = t.laneDesc) (fun _ => ?_) fun _ => (congrArg Fixed.laneDesc (State.forceHunt_fixed ..) :)
    rw [State.modRemote, State.settleSup_eq]
    exact (congrArg Fixed.laneDesc (State.stopChecker_fixed t l) :)
  have hset : ∀ t : State, t.settleHolds.laneDesc = t.laneDesc := fun t => (congrArg Fixed.laneDesc (State.settleHolds_fixed t) :)
  rw [State.redescribed, hset, State.laneDesc_recounted, hrw, State.described]
  split
  · exact hre _
  · rfl

theorem State.redescribed_beside (hs : s.holdsSettled = true) : State.Beside l s (s.redescribed l e) :=
  (State.recounted_beside (State.rewrittenDesc_beside State.described_beside) _).settleHolds hs

/-- A checker that is OFF stays as it is. -/
theorem State.redescribed_of_off (hoff : (s.lane l).ck.state = .off) : s.redescribed l e = (s.described l e).settleHolds := by
  obtain ⟨-, hck, -⟩ := State.describedLane_kept (s := s) (l := l) (e := e) (s.lane l)
  have hoff' : ((s.described l e).lane l).ck.state = .off := by rw [State.described_as.ck, hck, hoff]
  rw [State.redescribed, State.rewrittenDesc_of_off hoff', State.recounted_of_off hoff']

/-- A PASS descriptor stops the checker (R36). -/
theorem State.redescribed_pass (hon : (s.lane l).ck.state ≠ .off) (hp : e.rxMode = .pass) :
    s.redescribed l e = (((s.described l e).stopChecker l).modRemote l fun r => { r with rxStarted := false }).settleHolds := by
  obtain ⟨-, hck, -⟩ := State.describedLane_kept (s := s) (l := l) (e := e) (s.lane l)
  have hon' : ((s.described l e).lane l).ck.state ≠ .off := by rwa [State.described_as.ck, hck]
  have hrw : (s.described l e).rewrittenDesc l =
      ((s.described l e).stopChecker l).modRemote l fun r => { r with rxStarted := false } := by
    rw [State.rewrittenDesc, State.ckOff_of_ne hon', if_neg Bool.false_ne_true, State.described_rxMode, if_pos hp]
  have hstop : ((((s.described l e).stopChecker l).modRemote l fun r => { r with rxStarted := false }).lane l).ck.state = .off := by
    rw [State.lane_modRemote, ((State.As.refl (s := s.described l e) (l := l)).stopChecker hon').ck]
    rfl
  rw [State.redescribed, hrw, State.recounted_of_off hstop]

theorem State.redescribed_checking (hon : (s.lane l).ck.state ≠ .off) (hp : e.rxMode ≠ .pass) :
    s.redescribed l e =
      (((s.described l e).forceHunt l .rewrite true true).recounted (s.counting l) l).settleHolds := by
  obtain ⟨-, hck, -⟩ := State.describedLane_kept (s := s) (l := l) (e := e) (s.lane l)
  have hon' : ((s.described l e).lane l).ck.state ≠ .off := by rwa [State.described_as.ck, hck]
  rw [State.redescribed, State.rewrittenDesc, State.ckOff_of_ne hon', if_neg Bool.false_ne_true, State.described_rxMode,
    if_neg hp]

/-- A change of the lane's remote actions, in the state it leaves. -/
theorem State.As.modRemote (h : s.As l t X) (f : RemoteActs → RemoteActs) :
    (t.modRemote l f).As l (t.modRemote l f) { X with remote := f X.remote } := by
  refine ⟨rfl, ?_⟩
  rw [State.lane_modRemote, h.remote]
  exact congrArg (fun L : Lane => { L with remote := f X.remote }) h.stands

/-- Settles O45: table, armed flag, aligner, checker in this order; which values are taken. -/
theorem laneDescriptorWritten : Obligations.LaneDescriptorWritten := by
  refine ⟨fun s rest tag body l a hc hb h => ?_, LaneDescArg.entry_eq_some⟩
  have write : ∀ {st : Status} {t : State}, s.writeLaneDesc l a = (st, t) → t.cmdQ = s.cmdQ → t.waiting = s.waiting →
      exec (.writeLaneDescriptor (.params ⟨l.val, a⟩)) s = .next (t.answered (localCmd 0x05 tag 1 body) rest st .empty) := by
    intro st t hw hq hwt
    refine State.answer_write hc hb h rfl (by decide) ?_ hq hwt
    dsimp only
    rw [laneOf_val]
    exact hw
  refine ⟨fun he => write (State.writeLaneDesc_refused he) rfl rfl, fun e he => ⟨fun hon hheld => ?_, fun hck => ?_⟩⟩
  · exact write ((State.writeLaneDesc_taken he).trans (if_pos (State.checksUnheld_iff.mpr ⟨hon, hheld⟩))) rfl rfl
  · have htaken : s.writeLaneDesc l a = (.ok, s.redescribed l e) :=
      (State.writeLaneDesc_taken he).trans (if_neg (State.checksUnheld_eq_false hck))
    have hd := State.redescribed_laneDesc (s := s) (l := l) (e := e)
    obtain ⟨htx, hckX, hreq, harm, hsame, hreset⟩ := State.describedLane_kept (s := s) (l := l) (e := e) (s.lane l)
    have hqw : (s.redescribed l e).cmdQ = s.cmdQ ∧ (s.redescribed l e).waiting = s.waiting := by
      have hb := State.recounted_beside (State.rewrittenDesc_beside (State.described_beside (s := s) (l := l) (e := e)))
        (s.counting l)
      have hfix := State.settleHolds_fixed (((s.described l e).rewrittenDesc l).recounted (s.counting l) l)
      exact ⟨(congrArg Fixed.cmdQ hfix :).trans (congrArg Fixed.cmdQ hb.1 :),
        (congrArg Fixed.waiting hfix :).trans (congrArg Fixed.waiting hb.1 :)⟩
    have hbeside : s.holdsSettled = true → s.keeps { s.redescribed l e with laneDesc := s.laneDesc, link := s.link, sup := s.sup } l :=
      fun hs => ⟨(State.redescribed_beside hs).1, (State.others_iff ..).mp (State.redescribed_beside hs).2⟩
    by_cases hoff : (s.lane l).ck.state = .off
    · have has := (State.described_as (s := s) (l := l) (e := e)).settleHolds
      have heq := State.redescribed_of_off (e := e) hoff
      rw [← heq] at has
      refine ⟨s.redescribed l e, write htaken hqw.1 hqw.2, hd, has.tx.trans htx, hbeside,
        fun _ => ⟨(congrArg Checker.state (has.ck.trans hckX) :).trans hoff, has.armed.trans harm⟩,
        fun h => has.al.trans (hsame h), fun h => has.al.trans (hreset h), fun hs _ hg => ?_, fun h => absurd hoff h,
        fun h => absurd hoff h⟩
      have hreq' : ((s.described l e).lane l).holdReq = false :=
        (State.described_as.holdReq.trans hreq).trans (State.holdReq_of_settled hs l)
      have hsettled : (s.described l e).holdsSettled = true := by
        refine State.settled_iff.mp ⟨fun m => ?_, fun _ => trivial⟩
        by_cases hm : m = l
        · rw [hm]
          exact hreq'
        · exact (State.holdReq_of_others State.described_beside.2 m hm).trans (State.holdReq_of_settled hs m)
      rw [heq, State.settleHolds_of_settled hsettled, State.described_groups hg]
    · have hon' : (s.describedLane l e (s.lane l)).ck.state ≠ .off := by rwa [hckX]
      by_cases hp : e.rxMode = .pass
      · have hstop := (State.described_as (s := s) (l := l) (e := e)).stopChecker hon'
        obtain ⟨hst, -, -, -, hopen, hstx, hsal, -⟩ :=
          State.stoppedLane_facts (s := s.described l e) (l := l) (s.describedLane l e (s.lane l))
        have has := hstop.rebase.modRemote (fun r => { r with rxStarted := false }) |>.settleHolds
        rw [← State.redescribed_pass hoff hp] at has
        exact ⟨s.redescribed l e, write htaken hqw.1 hqw.2, hd, has.tx.trans (hstx.trans htx), hbeside, fun h => absurd h hoff,
          fun h => (has.al.trans hsal).trans (hsame h), fun h => (has.al.trans hsal).trans (hreset h), fun _ h => absurd h hoff,
          fun _ _ => ⟨(congrArg Checker.state has.ck :).trans hst, (congrArg Win.isOpen has.win :).trans hopen,
            (congrArg RemoteActs.rxStarted has.remote :)⟩, fun _ h => absurd hp h⟩
      · have hunts := (State.described_as (s := s) (l := l) (e := e)).forceHunt hon' (by rw [State.described_as.al]) .rewrite true true
        have hrest := Lane.discarded_rest true (s.describedLane l e (s.lane l))
        have hal : ((Lane.discarded true (s.describedLane l e (s.lane l))).hunting ((s.described l e).huntReason l)).al =
            (s.describedLane l e (s.lane l)).al := (congrArg Lane.al hrest :)
        obtain ⟨Y, hY, hst, hrun, hYtx, hYal⟩ :=
          hunts.recounted_hunting rfl (by rw [hal, State.described_as.al]) (s.counting l)
        have has := hY.settleHolds
        rw [← State.redescribed_checking hoff hp] at has
        have hal' := has.al.trans (hYal.trans hal)
        exact ⟨s.redescribed l e, write htaken hqw.1 hqw.2, hd,
          has.tx.trans (hYtx.trans ((congrArg Lane.tx hrest :).trans htx)), hbeside, fun h => absurd h hoff,
          fun h => hal'.trans (hsame h), fun h => hal'.trans (hreset h), fun _ h => absurd h hoff, fun _ h => absurd h hp,
          fun _ _ => ⟨(congrArg Checker.state has.ck :).trans hst, (congrArg Checker.run has.ck :).trans (hrun.trans
            (congrArg Checker.run (Lane.discarded_ck true (s.describedLane l e (s.lane l))) :))⟩⟩

end Sys2Proof.Machine
end

section
/-! WRITE_ENTRY of the channel settings: the marker channel judged for the settings as they now stand. -/

namespace Sys2Proof.Machine

variable {s t u : State} {l : LaneNo} {e : ChanSettings}

/-- From `s` to `t` the lanes and the fixed fields stand, the marker channel apart, which is `k`. -/
structure State.Relinked (s t : State) (k : Link) : Prop where
  lanes : t.lanes = s.lanes
  fixed : t.fixed = ({ s with link := k } : State).fixed

theorem State.Relinked.link {k : Link} (h : s.Relinked t k) : t.link = k := (congrArg Fixed.link h.fixed :)
theorem State.Relinked.chan {k : Link} (h : s.Relinked t k) : t.chan = s.chan := (congrArg Fixed.chan h.fixed :)

theorem State.Relinked.aligned {k : Link} (h : s.Relinked t k) (l : LaneNo) : t.aligned l = s.aligned l := by
  rw [State.aligned, State.lane, h.lanes, State.aligned, State.lane]

theorem State.Relinked.notify {k : Link} (h : s.Relinked t k) (n : Notice) : s.Relinked (t.notify n) k :=
  ⟨(State.lanes_notify n).trans h.lanes, (State.notify_fixed ..).trans h.fixed⟩

theorem State.Relinked.modLink {k : Link} (h : s.Relinked t k) (f : Link → Link) : s.Relinked (t.modLink f) (f k) := by
  refine ⟨h.lanes, ?_⟩
  have := congrArg (fun F : Fixed => { F with link := f k }) h.fixed
  rw [State.modLink, h.link]
  exact this

theorem State.Relinked.refl : s.Relinked s s.link := ⟨rfl, rfl⟩

theorem State.Relinked.linkDepart {k : Link} (h : s.Relinked t k) :
    s.Relinked t.linkDepart { k with up := false, sendIdx := 0, asm := [], skipping := false } :=
  ite_keeps_of (P := fun u => s.Relinked u _) (fun h => h.notify _) (h.modLink _)

theorem State.Relinked.linkEnter {k : Link} (h : s.Relinked t k) :
    s.Relinked t.linkEnter { k with
      up := true, sendToggle := false, sendIdx := 0, lastTaken := true, resume := false, asm := [], skipping := false } :=
  h.modLink _

theorem State.remoteEnable_of_chan (h : s.chan = some e) : s.remoteEnable = e.enable := by
  rw [State.remoteEnable, h]

/-- R154: whether the channel is UP after its settings were written. -/
theorem State.rejudgeLink_facts (h : s.chan = some e) (moved : Bool) :
    ∃ k, s.Relinked (s.rejudgeLink moved) k ∧ k.outbound = s.link.outbound ∧
      (k.up = true ↔ e.enable = true ∧ ((s.link.up = true ∧ moved = false) ∨ s.aligned e.lane = true)) := by
  have depart : ∃ k, s.Relinked (if s.link.up && (moved || !s.remoteEnable) then s.linkDepart else s) k ∧
      k.outbound = s.link.outbound ∧ (k.up = true ↔ s.link.up = true ∧ moved = false ∧ e.enable = true) := by
    rw [State.remoteEnable_of_chan h]
    split
    · next hd =>
      refine ⟨_, State.Relinked.refl.linkDepart, rfl, ?_⟩
      simp only [Bool.and_eq_true, Bool.or_eq_true, Bool.not_eq_true'] at hd
      simp only [Bool.false_eq_true, false_iff]
      rintro ⟨-, hm, he⟩
      rcases hd.2 with hm' | he'
      · exact Bool.false_ne_true (hm.symm.trans hm')
      · exact Bool.false_ne_true (he'.symm.trans he)
    · next hd =>
      refine ⟨_, State.Relinked.refl, rfl, fun hu => ⟨hu, ?_⟩, fun hu => hu.1⟩
      rw [hu, Bool.true_and, Bool.or_eq_true, Bool.not_eq_true', not_or, Bool.not_eq_true, Bool.not_eq_false] at hd
      exact hd
  obtain ⟨k, hk, hout, hup⟩ := depart
  unfold State.rejudgeLink
  generalize (if s.link.up && (moved || !s.remoteEnable) then s.linkDepart else s) = t at hk
  dsimp only
  rw [hk.chan, h]
  dsimp only
  rw [hk.link, hk.aligned]
  split
  · next hin =>
    simp only [Bool.and_eq_true, Bool.not_eq_true'] at hin
    exact ⟨_, hk.linkEnter, hout, fun _ => ⟨hin.1.2, .inr hin.2⟩, fun _ => rfl⟩
  · next hno =>
    refine ⟨k, hk, hout, fun hu => ?_, fun hu => ?_⟩
    · obtain ⟨h1, h2, h3⟩ := hup.mp hu
      exact ⟨h3, .inl ⟨h1, h2⟩⟩
    · obtain ⟨he, ⟨h1, h2⟩ | ha⟩ := hu
      · exact hup.mpr ⟨h1, h2, he⟩
      · by_contra hd
        rw [Bool.not_eq_true] at hd
        exact hno (by rw [hd, he, ha]; rfl)

theorem State.periodChanged_rest (old : Nat) : s.periodChanged old = { s with sup := (s.periodChanged old).sup } := by
  unfold State.periodChanged
  split
  · rfl
  · rw [State.settleSup_eq]

theorem State.periodChanged_same {old : Nat} (h : s.supPeriod = old) : s.periodChanged old = s := if_pos h

theorem State.periodChanged_ticks {old : Nat} (h : s.supPeriod ≠ old) : (s.periodChanged old).sup.ticks = 0 := by
  rw [State.periodChanged, if_neg h]
  unfold State.settleSup
  split <;> rfl

theorem ChanArg.entry_eq {a : ChanArg} (hl : a.lane = e.lane.val) (hm : a.mode = some e.mode) (he : a.enable = some e.enable)
    (hp : a.period = e.period) (ha : a.action = some e.action) :
    ChanArg.entry a = if e.period ≤ 65535 then some e else none := by
  unfold ChanArg.entry
  rw [hl, hm, he, hp, ha, laneOf_val]
  unfold guardSome
  simp

theorem State.movesChannel_iff {c : ChanSettings} (h : s.chan = some c) :
    s.movesChannel e = true ↔ c.lane ≠ e.lane ∨ c.mode ≠ e.mode := by
  rw [State.movesChannel, h, Bool.or_eq_true, bne_iff_ne, bne_iff_ne]

/-- Settles O50: values, then the outbound queue, then the channel and the supervisor judged for the new settings. -/
theorem channelSettingsWritten : Obligations.ChannelSettingsWritten := by
  intro s rest tag body a e hc hb h hl hm he hp ha
  have hentry := ChanArg.entry_eq hl hm he hp ha
  have write : ∀ {st : Status} {t : State}, s.writeChan a = (st, t) → t.cmdQ = s.cmdQ → t.waiting = s.waiting →
      exec (.writeChannelSettings (.params ⟨0, a⟩)) s = .next (t.answered (localCmd 0x05 tag 8 body) rest st .empty) :=
    fun hw hq hwt => State.answer_write hc hb h rfl (by decide) hw hq hwt
  unfold State.writeChan at write
  refine ⟨fun hbig => write ?_ rfl rfl, fun c hchan hsmall hmove hout => write ?_ rfl rfl, fun c hchan hsmall hfree => ?_⟩
  · rw [hentry, if_neg (by omega)]
  · rw [hentry, if_pos hsmall]
    dsimp only
    rw [(State.movesChannel_iff hchan).mpr hmove, if_pos (by simpa [List.isEmpty_iff] using hout)]
  · have hno : ¬((s.movesChannel e && !s.link.outbound.isEmpty) = true) := by
      rw [Bool.and_eq_true, State.movesChannel_iff hchan]
      rintro ⟨hmove, hout⟩
      rcases hfree with ⟨h1, h2⟩ | h1
      · exact hmove.elim (· h1) (· h2)
      · simp [h1] at hout
    obtain ⟨k, hk, hout, hup⟩ := State.rejudgeLink_facts (s := { s with chan := some e }) rfl (s.movesChannel e)
    have hperiod : ({ s with chan := some e }.rejudgeLink (s.movesChannel e)).supPeriod = e.period :=
      State.supPeriod_of_chan hk.chan
    have hmoved : s.movesChannel e = false ↔ c.lane = e.lane ∧ c.mode = e.mode := by
      rw [← Bool.not_eq_true, State.movesChannel_iff hchan, not_or, not_not, not_not]
    have heq : s.writeChan a = (.ok, ({ s with chan := some e }.rejudgeLink (s.movesChannel e)).periodChanged c.period) := by
      unfold State.writeChan
      rw [hentry, if_pos hsmall]
      dsimp only
      rw [if_neg hno, State.supPeriod_of_chan hchan]
    unfold State.writeChan at heq
    generalize ({ s with chan := some e } : State).rejudgeLink (s.movesChannel e) = u at hk hperiod heq
    have hrest := State.periodChanged_rest (s := u) c.period
    have hsup : (c.period ≠ e.period → (u.periodChanged c.period).sup.ticks = 0) ∧
        (c.period = e.period → (u.periodChanged c.period).sup = s.sup) := by
      refine ⟨fun hne => State.periodChanged_ticks (by rw [hperiod]; exact Ne.symm hne), fun heq' => ?_⟩
      rw [State.periodChanged_same (by rw [hperiod, heq'])]
      exact (congrArg Fixed.sup hk.fixed :)
    generalize u.periodChanged c.period = t at hrest heq hsup
    have hlink : t.link = k := (congrArg State.link hrest :).trans hk.link
    refine ⟨t, write heq ((congrArg State.cmdQ hrest :).trans (congrArg Fixed.cmdQ hk.fixed :))
      ((congrArg State.waiting hrest :).trans (congrArg Fixed.waiting hk.fixed :)), (congrArg State.chan hrest :).trans hk.chan,
      (congrArg State.lanes hrest :).trans hk.lanes, ?_, (congrArg Link.outbound hlink :).trans hout, ?_, hsup.1, hsup.2⟩
    · rw [hrest]
      exact (congrArg (fun F : Fixed => { F with chan := s.chan, link := s.link, sup := s.sup }) hk.fixed :)
    · rw [hlink, hup, hmoved, ← State.aligned_iff]
      rfl

end Sys2Proof.Machine
end

section
/-! Supervisor expiries. -/

namespace Sys2Proof.Machine

variable {s t u : State} {l m : LaneNo} {X Y : Lane} {c : ChanSettings}

/-! ### The action on one lane (R163) -/

theorem State.As.stopChecker_any (h : s.As l t X) : ∃ Y, s.As l (t.stopChecker l) Y ∧ Y.ck.state = .off ∧ Y.tx = X.tx := by
  by_cases hon : X.ck.state = .off
  · rw [State.stopChecker_of_off (by rw [h.ck, hon])]
    exact ⟨X, h, hon, rfl⟩
  · obtain ⟨hst, -, -, -, -, htx, -⟩ := State.stoppedLane_facts (s := s) (l := l) X
    exact ⟨_, h.stopChecker hon, hst, htx⟩

theorem Tx.askStop_facts (x : Tx) : x.askStop.pendMode = x.pendMode ∧ x.askStop.state = x.state ∧
    (x.state = .running → x.askStop.pendStop = true) := by
  unfold Tx.askStop
  split
  · next h => exact ⟨rfl, rfl, fun h' => absurd (h.symm.trans h') nofun⟩
  · exact ⟨rfl, rfl, fun _ => rfl⟩

/-- R163, RELEASE: what is reverted on a lane. -/
structure Lane.Reverted (L X : Lane) : Prop where
  remote : X.remote = ⟨none, false, false⟩
  checker : L.remote.rxStarted = true → X.ck.state = .off
  mode : ∀ m, L.remote.echoSet = some m → X.tx.pendMode = some m
  stop : L.remote.txStarted = true → L.tx.state = .running → X.tx.pendStop = true

/-- The mode that an ECHO entry replaced, asked for again. -/
def State.restoreMode (s : State) (l : LaneNo) (a : RemoteActs) : State :=
  match a.echoSet with
  | none => s
  | some m => s.modTx l (Tx.askMode m)

/-- The start of an entry taken back. -/
def State.restoreStop (s : State) (l : LaneNo) (a : RemoteActs) : State := if a.txStarted then s.modTx l Tx.askStop else s

theorem State.releaseLane_eq : State.releaseLane l s =
    (if (s.lane l).remote.rxStarted then ((s.restoreMode l (s.lane l).remote).restoreStop l (s.lane l).remote).stopChecker l
      else (s.restoreMode l (s.lane l).remote).restoreStop l (s.lane l).remote).modLane l
        fun L => { L with remote := RemoteActs.reset } := rfl

theorem State.As.restoreMode (h : s.As l t X) (a : RemoteActs) : ∃ Y, s.As l (t.restoreMode l a) Y ∧
    (∀ m, a.echoSet = some m → Y.tx.pendMode = some m) ∧ Y.tx.state = X.tx.state := by
  unfold State.restoreMode
  cases a.echoSet with
  | none => exact ⟨X, h, nofun, rfl⟩
  | some m => exact ⟨_, h.modTx _, fun _ e => e, rfl⟩

theorem State.As.restoreStop (h : s.As l t X) (a : RemoteActs) : ∃ Y, s.As l (t.restoreStop l a) Y ∧
    Y.tx.pendMode = X.tx.pendMode ∧ (a.txStarted = true → X.tx.state = .running → Y.tx.pendStop = true) := by
  obtain ⟨hm, -, hp⟩ := Tx.askStop_facts X.tx
  unfold State.restoreStop
  split
  · exact ⟨_, h.modTx Tx.askStop, hm, fun _ => hp⟩
  · next hno => exact ⟨X, h, rfl, fun hs => absurd hs hno⟩

theorem State.As.releaseLane (h : s.As l t X) : ∃ Y, s.As l (State.releaseLane l t) Y ∧ X.Reverted Y := by
  rw [State.releaseLane_eq, h.remote]
  obtain ⟨Y, hY, hmode, hst⟩ := h.restoreMode X.remote
  obtain ⟨Z, hZ, hpend, hstop⟩ := hY.restoreStop X.remote
  have hstop' := fun h1 h2 => hstop h1 (hst.trans h2)
  split
  · obtain ⟨W, hW, hoff, htx⟩ := hZ.stopChecker_any
    exact ⟨_, hW.modLane (f := fun L => { L with remote := RemoteActs.reset }), rfl, fun _ => hoff,
      fun m hm => (congrArg Tx.pendMode htx).trans (hpend.trans (hmode m hm)),
      fun h1 h2 => (congrArg Tx.pendStop htx).trans (hstop' h1 h2)⟩
  · next hno =>
    exact ⟨_, hZ.modLane (f := fun L => { L with remote := RemoteActs.reset }), rfl, fun h => absurd h hno,
      fun m hm => hpend.trans (hmode m hm), hstop'⟩

theorem State.As.holdRemote (h : s.As l t X) : ∃ Y, s.As l (State.holdRemote l t) Y ∧ Y.remote = X.remote ∧
    (X.remote.any = true → X.hold = .run → Y.hold = .held) := by
  unfold State.holdRemote
  rw [h.remote]
  split
  · exact ⟨_, h.requestHold, rfl, fun _ hr => if_pos hr⟩
  · next hno => exact ⟨X, h, rfl, fun ha => absurd ha hno⟩

/-! ### The action of one lane leaves the others -/

theorem State.Near.modLane (h : s.Near l t) (hm : m ≠ l) (f : Lane → Lane) : s.Near l (t.modLane m f) := by
  have e : (t.modLane m f).lane l = t.lane l := (State.lane_modLane ..).trans (if_neg (Ne.symm hm))
  exact ⟨h.fixed, (congrArg Lane.still e).trans h.still, by rw [State.pastOf, e]; exact h.past⟩

theorem State.releaseLane_near (hm : m ≠ l) : s.Near l (State.releaseLane m s) := by
  have stop : ∀ {t : State}, s.Near l t → s.Near l (t.stopChecker m) := fun {t} h =>
    h.trans ⟨State.stopChecker_fixed t m, State.still_of_others_ne (State.stopChecker_others ..) (Ne.symm hm),
      (Measured.past hm _).stopChecker not_false rfl⟩
  have mode : s.Near l (s.restoreMode m (s.lane m).remote) := by
    unfold State.restoreMode
    split
    · exact .refl
    · exact State.Near.refl.modLane hm _
  have both : s.Near l ((s.restoreMode m (s.lane m).remote).restoreStop m (s.lane m).remote) :=
    ite_keeps_of (P := fun t => s.Near l t) (fun h => h.modLane hm _) mode
  rw [State.releaseLane_eq]
  exact (ite_keeps_of (P := fun t => s.Near l t) stop both).modLane hm _

theorem State.holdRemote_near (hm : m ≠ l) : s.Near l (State.holdRemote m s) := by
  unfold State.holdRemote
  refine ite_keeps (P := fun t => s.Near l t) (fun _ => ?_) fun _ => .refl
  exact ⟨State.requestHold_fixed s m, State.still_of_others_ne (State.requestHold_others ..) (Ne.symm hm), State.pastOf_requestHold⟩

theorem State.supAct_release (l : LaneNo) : ∃ Y, s.As l (s.supAct .release) Y ∧ (s.lane l).Reverted Y := by
  obtain ⟨v, hv, hw⟩ := State.forLanes_near (s := s) (l := l) (f := State.releaseLane) fun m hm => State.releaseLane_near hm
  obtain ⟨Y, hY, hr⟩ := State.As.releaseLane (s := s) (t := v) ⟨hv.fixed, hv.still⟩
  exact ⟨Y, ⟨hw.fixed.trans hY.fixed, hw.still.trans hY.stands⟩, hr⟩

theorem State.supAct_hold (l : LaneNo) : ∃ Y, s.As l (s.supAct .hold) Y ∧ Y.remote = (s.lane l).remote ∧
    ((s.lane l).remote.any = true → (s.lane l).hold = .run → Y.hold = .held) := by
  obtain ⟨v, hv, hw⟩ := State.forLanes_near (s := s) (l := l) (f := State.holdRemote) fun m hm => State.holdRemote_near hm
  obtain ⟨Y, hY, hr⟩ := State.As.holdRemote (s := s) (t := v) ⟨hv.fixed, hv.still⟩
  exact ⟨Y, ⟨hw.fixed.trans hY.fixed, hw.still.trans hY.stands⟩, hr⟩

/-! ### The expiry -/

/-- The supervisor's action taken, what it does to the lanes apart (R163). -/
def State.actionTaken (s : State) (c : ChanSettings) (a : SupAction) (ls : Eight Bool) : State :=
  (State.notify { s with
    chan := some { c with action := .none }, sup := { s.sup with last := some (a, s.tick), armed := false, warned := false } }
    (.supervisorAction a ls s.tick)).settleSup

theorem State.supTakeAction_eq (h : s.chan = some c) : s.supTakeAction =
    (s.supAct c.action).actionTaken c c.action (if c.action = .none then Eight.all false else s.remoteLanes) := by
  have ha : s.supAction = c.action := by
    rw [State.supAction, h]
    rfl
  have hc : (s.supAct c.action).chan = some c := (congrArg Fixed.chan (State.supAct_fixed c.action) :).trans h
  unfold State.supTakeAction State.actionTaken State.setSupAction
  rw [ha]
  dsimp only
  rw [hc]
  rfl

theorem State.actionTaken_facts (a : SupAction) (ls : Eight Bool) (hticks : s.sup.ticks = 0) :
    let t := s.actionTaken c a ls
    t.chan = some { c with action := .none } ∧ t.sup.last = some (a, s.tick) ∧ t.sup.ticks = 0 ∧ t.sup.armed = false ∧
      t.sup.warned = false ∧ t.lanes = s.lanes ∧ ({ t with chan := s.chan, sup := s.sup } : State).fixed = s.fixed := by
  have hfix := State.notify_fixed { s with
    chan := some { c with action := .none }, sup := { s.sup with last := some (a, s.tick), armed := false, warned := false } }
    (.supervisorAction a ls s.tick)
  have hlanes := State.lanes_notify (s := { s with
    chan := some { c with action := .none }, sup := { s.sup with last := some (a, s.tick), armed := false, warned := false } })
    (.supervisorAction a ls s.tick)
  unfold State.actionTaken
  generalize State.notify { s with
    chan := some { c with action := .none }, sup := { s.sup with last := some (a, s.tick), armed := false, warned := false } }
    (.supervisorAction a ls s.tick) = u at hfix hlanes
  have hsup : u.sup = { s.sup with last := some (a, s.tick), armed := false, warned := false } := (congrArg Fixed.sup hfix :)
  have hchan : u.chan = some { c with action := .none } := (congrArg Fixed.chan hfix :)
  have hrest : ({ u with chan := s.chan, sup := s.sup } : State).fixed = s.fixed :=
    (congrArg (fun F : Fixed => { F with chan := s.chan, sup := s.sup }) hfix :)
  dsimp only
  unfold State.settleSup
  split
  · rw [hsup]
    exact ⟨hchan, rfl, hticks, rfl, rfl, hlanes, hrest⟩
  · exact ⟨hchan, (congrArg Supervisor.last hsup :), rfl, rfl, rfl, hlanes, hrest⟩

theorem exec_supervisorExpiry (hc : s.chan = some c) (ha : s.supActive = true) (hp : c.period ≤ s.sup.ticks + 1) :
    exec .supervisorExpiry s = .next s.supExpire.settleHolds := by
  refine if_pos ?_
  rw [State.supDue, ha, State.supPeriod_of_chan hc]
  simpa using hp

theorem supActionCode_eq (a : SupAction) : supActionCode a = match a with
    | .none => 0
    | .release => 1
    | .hold => 2 := by
  cases a <;> rfl

/-- R162: a warning with room for its notice and its record. -/
theorem State.supWarn_of_room (hc : s.chan = some c) (hroom : s.egress.length ≤ 11) (hout : s.link.outbound.length < 4) :
    s.supWarn = { s with
      sup := { s.sup with warned := true }
      egress := s.egress ++ [noticeRec (.supervisorWarning s.remoteEntries c.action s.tick)]
      link := { s.link with outbound := s.link.outbound ++
        [⟨3, 0x8A, 0, 0, [BitVec.ofNat 8 s.remoteEntries, supActionCode c.action] ++ tickOctets s.tick⟩] } } := by
  have hact : s.supAction = c.action := by
    rw [State.supAction, hc]
    rfl
  have hroom' : ({ s with sup := { s.sup with warned := true } } : State).egress.length ≤ 11 := hroom
  unfold State.supWarn
  dsimp only
  rw [State.notify_of_room hroom', State.joinOutbound_of_room (by exact hout), ← hact]
  rfl

/-- Settles O42: an expiry arms, warns, then acts. -/
theorem supervisorExpiriesEscalate : Obligations.SupervisorExpiriesEscalate := by
  refine ⟨fun s c hc ha hp hs => ?_, fun s => ⟨fun h => if_pos h, fun h => if_neg (by simp [h])⟩⟩
  rw [exec_supervisorExpiry hc ha hp]
  have settled : ∀ t : State, t.lanes = s.lanes → t.settleHolds = t := fun t ht => State.settleHolds_of_settled (by
    unfold State.holdsSettled State.lane
    rw [ht]
    exact hs)
  refine ⟨fun harm => ?_, fun harm hwarn hroom hout => ?_, fun harm hwarn => ?_⟩
  · have : s.supExpire = { s with sup := { s.sup with ticks := 0, armed := true } } := if_pos (by simp [harm])
    rw [this]
    exact congrArg Host.Outcome.next (settled _ rfl)
  · have hwarned : s.supExpire = State.supWarn { s with sup := { s.sup with ticks := 0 } } :=
      (if_neg (by simp [harm])).trans (if_pos (by simp [hwarn]))
    rw [hwarned, State.supWarn_of_room (s := { s with sup := { s.sup with ticks := 0 } }) hc hroom hout, supActionCode_eq]
    exact congrArg Host.Outcome.next (settled _ rfl)
  · have htake : s.supExpire = State.supTakeAction { s with sup := { s.sup with ticks := 0 } } :=
      (if_neg (by simp [harm])).trans (if_neg (by simp [hwarn]))
    have heq := State.supTakeAction_eq (s := { s with sup := { s.sup with ticks := 0 } }) hc
    have hfix := State.supAct_fixed (s := { s with sup := { s.sup with ticks := 0 } }) c.action
    have hrel := State.supAct_release (s := { s with sup := { s.sup with ticks := 0 } })
    have hhold := State.supAct_hold (s := { s with sup := { s.sup with ticks := 0 } })
    rw [htake, heq]
    generalize hu : ({ s with sup := { s.sup with ticks := 0 } } : State).supAct c.action = u at hfix
    generalize (if c.action = .none then Eight.all false else
      ({ s with sup := { s.sup with ticks := 0 } } : State).remoteLanes) = ls
    obtain ⟨hchan, hlast, hticks, harm', hwarn', hlanes, hrest⟩ :=
      State.actionTaken_facts (s := u) (c := c) c.action ls (congrArg (fun F : Fixed => F.sup.ticks) hfix :)
    have has : ∀ l, (u.actionTaken c c.action ls).As l (u.actionTaken c c.action ls).settleHolds ((u.lane l).settled) := fun l => by
      have hl : (u.actionTaken c c.action ls).lane l = u.lane l := by rw [State.lane, hlanes, State.lane]
      rw [← hl]
      exact State.As.refl.settleHolds
    have htick : u.tick = s.tick := (congrArg Fixed.tick hfix :)
    have hset := State.settleHolds_fixed (u.actionTaken c c.action ls)
    generalize u.actionTaken c c.action ls = v at hchan hlast hticks harm' hwarn' hlanes hrest has hset
    generalize v.settleHolds = t at has hset
    have hsup : t.sup = v.sup := (congrArg Fixed.sup hset :)
    refine ⟨t, rfl, (congrArg Fixed.chan hset :).trans hchan, ?_, ?_, ?_, ?_, ?_, fun ha l => ?_, fun ha l => ?_, fun ha l => ?_⟩
    · rw [hsup, hlast, htick]
    · rw [hsup, hticks]
    · rw [hsup, harm']
    · rw [hsup, hwarn']
    · have h1 := congrArg (fun F : Fixed => { F with chan := s.chan, sup := s.sup }) hset
      have h2 := congrArg (fun F : Fixed => { F with chan := s.chan, sup := s.sup }) hrest
      have h3 := congrArg (fun F : Fixed => { F with chan := s.chan, sup := s.sup }) hfix
      exact (h1.trans (h2.trans h3) :)
    · rw [ha] at hu
      exact (has l).remote.trans (congrArg (fun x : State => (x.lane l).remote) hu.symm :)
    · obtain ⟨Y, hY, hr⟩ := hrel l
      rw [ha] at hu
      rw [hu] at hY
      refine ⟨(has l).remote.trans (hY.remote.trans hr.remote), fun hrx => ?_, fun m hm => ?_, fun h1 h2 => ?_⟩
      · exact (congrArg Checker.state ((has l).ck.trans hY.ck)).trans (hr.checker hrx)
      · exact (congrArg Tx.pendMode ((has l).tx.trans hY.tx)).trans (hr.mode m hm)
      · exact (congrArg Tx.pendStop ((has l).tx.trans hY.tx)).trans (hr.stop h1 h2)
    · obtain ⟨Y, hY, hr, hh⟩ := hhold l
      rw [ha] at hu
      rw [hu] at hY
      refine ⟨(has l).remote.trans (hY.remote.trans hr), fun h1 h2 => (has l).hold.trans ?_⟩
      have hheld : (u.lane l).hold = .held := hY.hold.trans (hh h1 h2)
      exact (if_neg fun h => absurd (hheld.symm.trans h.2) (by decide)).trans hheld

end Sys2Proof.Machine
end

section
/-! OPEN_GROUP_WINDOW and CLOSE_GROUP_WINDOW; what an operation of all lanes does to one of them. -/

namespace Sys2Proof.Machine

variable {s t u v : State} {l m : LaneNo} {g k : GroupId} {X Y : Lane} {rest : List CmdRec} {tag : Octet}

/-! ### One lane's turn in an operation of all lanes -/

/-- An operation of all lanes in turn: lane `l` takes its own turn in a state that `R` relates to the first, and `R` relates what
its turn gave to the last. -/
theorem State.forLanes_turn {R : State → State → Prop} (hrefl : ∀ s, R s s) (htrans : ∀ {s t u}, R s t → R t u → R s u)
    {f : LaneNo → State → State} (hf : ∀ {s : State} (m), m ≠ l → R s (f m s)) : ∃ u, R s u ∧ R (f l u) (s.forLanes f) := by
  have skip : ∀ (ls : List LaneNo), l ∉ ls → ∀ s : State, R s (ls.foldl (fun s m => f m s) s) := by
    intro ls
    induction ls with
    | nil => exact fun _ s => hrefl s
    | cons m ls ih =>
      intro hl s
      rw [List.mem_cons, not_or] at hl
      exact htrans (hf m (Ne.symm hl.1)) (ih hl.2 _)
  have parted : ∃ as bs, lanesAll = as ++ l :: bs ∧ l ∉ as ∧ l ∉ bs := by
    obtain ⟨as, bs, e⟩ := List.append_of_mem (mem_lanesAll l)
    have hn : lanesAll.Nodup := by decide
    rw [e, List.nodup_middle, List.nodup_cons, List.mem_append, not_or] at hn
    exact ⟨as, bs, e, hn.1⟩
  obtain ⟨as, bs, e, ha, hb⟩ := parted
  refine ⟨as.foldl (fun s m => f m s) s, skip as ha s, ?_⟩
  have : s.forLanes f = bs.foldl (fun s m => f m s) (f l (as.foldl (fun s m => f m s) s)) := by
    unfold State.forLanes
    rw [e, List.foldl_append, List.foldl_cons]
  rw [this]
  exact skip bs hb _

/-- From `s` to `t` lane `l`, the groups and the fixed fields stand. -/
structure State.Bystander (l : LaneNo) (s t : State) : Prop where
  lane : t.lane l = s.lane l
  groups : t.groups = s.groups
  fixed : t.fixed = s.fixed

theorem State.Bystander.refl (s : State) : State.Bystander l s s := ⟨rfl, rfl, rfl⟩

theorem State.Bystander.trans (h : State.Bystander l s t) (k : State.Bystander l t u) : State.Bystander l s u :=
  ⟨k.lane.trans h.lane, k.groups.trans h.groups, k.fixed.trans h.fixed⟩

theorem State.Bystander.modMem (hm : m ≠ l) (f : Member → Member) : State.Bystander l s (s.modMem m f) :=
  ⟨(State.lane_modLane ..).trans (if_neg (Ne.symm hm)), rfl, rfl⟩

theorem State.groups_notify (n : Notice) : (s.notify n).groups = s.groups := by
  unfold State.notify
  split <;> rfl

theorem State.Bystander.notify (n : Notice) : State.Bystander l s (s.notify n) :=
  ⟨by rw [State.lane, State.lanes_notify, State.lane], State.groups_notify n, State.notify_fixed ..⟩

/-- A change of group items, lane by lane, that does not read another lane. -/
theorem State.forLanes_member {p : State → LaneNo → Bool} {f : Member → Member}
    (hp : ∀ {s t : State}, State.Bystander l s t → p t l = p s l) :
    ((s.forLanes fun l s => if p s l then s.modMem l f else s).lane l) =
        (if p s l then { s.lane l with mem := f (s.lane l).mem } else s.lane l) ∧
      (s.forLanes fun l s => if p s l then s.modMem l f else s).groups = s.groups ∧
      (s.forLanes fun l s => if p s l then s.modMem l f else s).fixed = s.fixed := by
  obtain ⟨u, hu, hw⟩ := State.forLanes_turn (s := s) (l := l) (R := State.Bystander l) (.refl) (fun h k => h.trans k)
    (f := fun l s => if p s l then s.modMem l f else s) fun {s} m hm =>
      ite_keeps (P := fun t => State.Bystander l s t) (fun _ => .modMem hm f) fun _ => .refl s
  refine ⟨?_, ?_, ?_⟩
  · rw [hw.lane]
    dsimp only
    rw [hp hu]
    split
    · exact ((State.lane_modLane ..).trans (if_pos rfl)).trans (by rw [hu.lane])
    · exact hu.lane
  · refine hw.groups.trans ?_
    split <;> exact hu.groups
  · refine hw.fixed.trans ?_
    split <;> exact hu.fixed

theorem State.map_of_fixed (h : t.fixed = s.fixed) (l : LaneNo) : t.map l = s.map l := by
  rw [State.map, show t.laneMap = s.laneMap from (congrArg Fixed.laneMap h :), State.map]

theorem State.memberOf_of_fixed (h : t.fixed = s.fixed) (l : LaneNo) : t.memberOf l = s.memberOf l := by
  rw [State.memberOf, State.map_of_fixed h, State.memberOf]

theorem State.isMember_of_fixed (h : t.fixed = s.fixed) (g : GroupId) (l : LaneNo) : t.isMember g l = s.isMember g l := by
  rw [State.isMember, State.memberOf_of_fixed h, State.isMember]

/-! ### A group as its records are filed -/

/-- A group without its history. -/
def State.groupBare (s : State) (g : GroupId) : Group := { s.group g with hist := [] }

/-- The history of a group, the status of its records apart. -/
def State.groupPast (s : State) (g : GroupId) : List WinRecord := (s.group g).hist.map WinRecord.noStatus

theorem State.groupBare_modHistory (src : Source) (f : List WinRecord → List WinRecord) :
    (s.modHistory src f).groupBare g = s.groupBare g := by
  cases src with
  | lane m => rfl
  | group k =>
    rw [State.groupBare, State.modHistory, State.group_modGroup]
    split
    · next e => rw [State.groupBare, e]
    · rfl

theorem State.groupBare_postJob (src : Source) (number : FrameSeq) (serial errs bits : Nat) :
    (s.postJob src number serial errs bits).groupBare g = s.groupBare g :=
  State.postJob_reads (fun s => s.groupBare g) (fun _ _ => rfl) (fun _ _ _ => State.groupBare_modHistory ..) ..

theorem State.groupPast_skipped (src : Source) (n : Nat) :
    (s.modRecord src n fun r => { r with status := .skipped }).groupPast g = s.groupPast g := by
  cases src with
  | lane m => rfl
  | group k =>
    rw [State.groupPast, State.modRecord, State.modHistory, State.group_modGroup]
    split
    · next e =>
      rw [State.groupPast, e, List.map_map]
      refine List.map_congr_left fun r _ => ?_
      simp only [Function.comp_apply, WinRecord.noStatus]
      split <;> rfl
    · rfl

theorem State.groupPast_postJob (src : Source) (number : FrameSeq) (serial errs bits : Nat) :
    (s.postJob src number serial errs bits).groupPast g = s.groupPast g :=
  State.postJob_reads (fun s => s.groupPast g) (fun _ _ => rfl) (fun _ _ _ => State.groupPast_skipped ..) ..

theorem State.group_notify (n : Notice) : (s.notify n).group g = s.group g := by
  rw [State.group, State.groups_notify, State.group]

theorem State.groupBare_fileRecord (r : WinRecord) (post note : Bool) :
    (s.fileRecord r post note).groupBare g = s.groupBare g := by
  refine ite_keeps_of (P := fun t => t.groupBare g = s.groupBare g) (fun h => ?_) ?_
  · rw [State.groupBare, State.group_notify]
    exact h
  · exact ite_keeps_of (P := fun t => t.groupBare g = s.groupBare g) (fun h => (State.groupBare_postJob ..).trans h)
      (State.groupBare_modHistory ..)

/-- A filed record of a group stands at the end of its history, its status apart. -/
theorem State.fileRecord_groupLast {r : WinRecord} (hr : r.source = .group g) (post note : Bool) :
    ∃ x, ((s.fileRecord r post note).group g).hist.getLast? = some x ∧ x.noStatus = r.noStatus := by
  have h0 : (s.modHistory r.source fun h => appendHistory h r).groupPast g =
      (appendHistory (s.group g).hist r).map WinRecord.noStatus := by
    rw [hr, State.groupPast, State.modHistory, State.group_modGroup, if_pos rfl]
  have h1 : (s.fileRecord r post note).groupPast g = (appendHistory (s.group g).hist r).map WinRecord.noStatus := by
    refine ite_keeps_of (P := fun t => t.groupPast g = _) (fun h => ?_) ?_
    · rw [State.groupPast, State.group_notify]
      exact h
    · exact ite_keeps_of (P := fun t => t.groupPast g = _) (fun h => (State.groupPast_postJob ..).trans h) h0
  have h2 := congrArg List.getLast? h1
  rw [State.groupPast, List.getLast?_map, List.getLast?_map, appendHistory_last, Option.map_some, Option.map_eq_some_iff] at h2
  exact h2

/-! ### Group windows -/

/-- A group window as it opens (R71), the boundaries that count as passing its last sequence apart. -/
def State.openedGWin (s : State) (g : GroupId) (spec : WinSpec) (rep notices : Bool) (s0 : Option FrameSeq) (offset : Int) : GWin :=
  ⟨(s.group g).nextNumber, spec, rep, notices, s.tick, Counts.zero, false, s0, offset, Eight.all false⟩

/-- The members that count as having passed a window's last sequence as it opens (R73). -/
def State.passedAtOpening (s : State) (g : GroupId) (w : GWin) : Eight Bool :=
  match w.lastSeq with
  | none => Eight.all false
  | some q => Eight.gen fun l => s.isMember g l && s.aligned l && ahead (s.lane l).al.seq q

/-- The group that a window opens in, and its members' items. -/
def State.groupOpened (s : State) (g : GroupId) (w : GWin) : State :=
  (s.modGroup g fun gr => { gr with
    win := some { w with past := s.passedAtOpening g w }, nextNumber := gr.nextNumber + 1 }).forLanes
      fun l s => if s.isMember g l then s.modMem l (fun m => { m with greatestLag := 0, whole := true }) else s

theorem State.groups_forLanes {f : LaneNo → State → State} (hf : ∀ l s, (f l s).groups = s.groups) :
    (s.forLanes f).groups = s.groups :=
  State.forLanes_keeps (P := fun t => t.groups = s.groups) (fun _ h => (hf ..).trans h) rfl

theorem State.groups_clearWholes : (s.clearWholes g).groups = s.groups :=
  State.groups_forLanes fun _ s => ite_keeps (P := fun t => t.groups = s.groups) (fun _ => rfl) fun _ => rfl

theorem State.openGroup_eq (spec : WinSpec) (rep notices : Bool) (s0 : Option FrameSeq) (offset : Int) :
    s.openGroup g spec rep notices s0 offset =
      if (s.openedGWin g spec rep notices s0 offset).live then
        (s.groupOpened g (s.openedGWin g spec rep notices s0 offset)).clearWholes g
      else s.groupOpened g (s.openedGWin g spec rep notices s0 offset) := rfl

theorem State.group_openGroup (spec : WinSpec) (rep notices : Bool) (s0 : Option FrameSeq) (offset : Int) :
    (s.openGroup g spec rep notices s0 offset).group g = { s.group g with
      win := some { s.openedGWin g spec rep notices s0 offset with
        past := s.passedAtOpening g (s.openedGWin g spec rep notices s0 offset) }
      nextNumber := (s.group g).nextNumber + 1 } := by
  have hgroups : (s.openGroup g spec rep notices s0 offset).groups = (s.modGroup g fun gr => { gr with
      win := some { s.openedGWin g spec rep notices s0 offset with
        past := s.passedAtOpening g (s.openedGWin g spec rep notices s0 offset) }
      nextNumber := gr.nextNumber + 1 }).groups := by
    rw [State.openGroup_eq]
    refine ite_keeps_of (P := fun t => t.groups = _) (fun h => State.groups_clearWholes.trans h) ?_
    exact State.groups_forLanes fun _ s => ite_keeps (P := fun t => t.groups = s.groups) (fun _ => rfl) fun _ => rfl
  rw [State.group, hgroups]
  exact (State.group_modGroup ..).trans (if_pos rfl)

theorem State.clearWholes_lane : ((s.clearWholes g).lane l) =
    if s.isMember g l && !(s.lane l).mem.contributing then { s.lane l with mem := { (s.lane l).mem with whole := false } }
    else s.lane l :=
  (State.forLanes_member (s := s) (l := l) (p := fun s l => s.isMember g l && !(s.lane l).mem.contributing)
    (f := fun m => { m with whole := false }) fun h => by rw [State.isMember_of_fixed h.fixed, h.lane]).1

/-- A window that opens sets the greatest lags of the members to 0 (R71). -/
theorem State.openGroup_greatestLag (spec : WinSpec) (rep notices : Bool) (s0 : Option FrameSeq) (offset : Int)
    (h : s.isMember g l = true) : ((s.openGroup g spec rep notices s0 offset).lane l).mem.greatestLag = 0 := by
  have hopened : ((s.groupOpened g (s.openedGWin g spec rep notices s0 offset)).lane l).mem.greatestLag = 0 := by
    have e := (State.forLanes_member (s := s.modGroup g fun gr => { gr with
      win := some { s.openedGWin g spec rep notices s0 offset with
        past := s.passedAtOpening g (s.openedGWin g spec rep notices s0 offset) }
      nextNumber := gr.nextNumber + 1 }) (l := l) (p := fun s l => s.isMember g l)
      (f := fun m => { m with greatestLag := 0, whole := true }) fun h => State.isMember_of_fixed h.fixed g l).1
    refine (congrArg (fun L : Lane => L.mem.greatestLag) (e.trans (if_pos ?_)) :)
    exact h
  rw [State.openGroup_eq]
  split
  · rw [State.clearWholes_lane]
    split <;> exact hopened
  · exact hopened

/-! ### Closing -/

theorem State.closeGroup_command {w : GWin} (h : (s.group g).win = some w) : s.closeGroup g .command = s.groupFiled g w .command :=
  (State.closeGroup_of_open h .command).trans rfl

/-- The record of a closing group window (R73). -/
def State.filedRecord (s : State) (g : GroupId) (w : GWin) (r : CloseReason) : WinRecord :=
  (s.modGroup g fun gr => gr.retire fun e => w.inSpan e.seq).groupRecord g (s.closingWin g w) r

theorem State.groupFiled_bare (w : GWin) (r : CloseReason) :
    (s.groupFiled g w r).groupBare g = { ((s.group g).retire fun e => w.inSpan e.seq) with win := none, hist := [] } := by
  refine (State.groupBare_fileRecord ..).trans ?_
  change { ((s.modGroup g fun gr => gr.retire fun e => w.inSpan e.seq).modGroup g fun gr => { gr with win := none }).group g with
    hist := [] } = _
  rw [State.group_modGroup, if_pos rfl, State.group_modGroup, if_pos rfl]

theorem State.groupFiled_last (w : GWin) (r : CloseReason) :
    ∃ x, ((s.groupFiled g w r).group g).hist.getLast? = some x ∧ x.noStatus = (s.filedRecord g w r).noStatus :=
  State.fileRecord_groupLast rfl ..

theorem State.closingWin_rest (w : GWin) : (s.closingWin g w).number = w.number ∧ (s.closingWin g w).openTick = w.openTick ∧
    (s.closingWin g w).s0 = w.s0 ∧ (s.closingWin g w).spec = w.spec ∧ (s.closingWin g w).offset = w.offset := by
  unfold State.closingWin
  rw [GWin.retired_rest]
  exact ⟨rfl, rfl, rfl, rfl, rfl⟩

theorem Counts.addErroredFrame_others (c : Counts) : c.addErroredFrame.bits = c.bits ∧ c.addErroredFrame.errors = c.errors ∧
    c.addErroredFrame.erroredBlocks = c.erroredBlocks := ⟨rfl, rfl, rfl⟩

/-- What retires adds errored frames alone (R69). -/
theorem GWin.retired_counts (es : List RingEntry) : ∀ w : GWin, (w.retired es).counts.bits = w.counts.bits ∧
    (w.retired es).counts.errors = w.counts.errors ∧ (w.retired es).counts.erroredBlocks = w.counts.erroredBlocks := by
  induction es with
  | nil => exact fun _ => ⟨rfl, rfl, rfl⟩
  | cons e es ih =>
    intro w
    rw [GWin.retired, List.foldl_cons]
    refine (ih _).imp (fun h => h.trans ?_) (And.imp (fun h => h.trans ?_) fun h => h.trans ?_)
    all_goals split <;> rfl

/-! ### The commands -/

theorem State.alignedMembers_of (hf : t.fixed = s.fixed) (hs : ∀ m, (t.lane m).still = (s.lane m).still) (g : GroupId) :
    t.alignedMembers g = s.alignedMembers g := by
  unfold State.alignedMembers
  refine List.filter_congr fun l _ => ?_
  have hal : (t.lane l).al = (s.lane l).al := (congrArg Lane.al (hs l) :)
  rw [State.isMember_of_fixed hf, State.aligned, State.aligned, hal]

/-- The group in which OPEN_GROUP_WINDOW opens: the open window closed, the alarm state CLEAR. -/
def State.vacated (s : State) (g : GroupId) : State :=
  (s.closeGroup g .command).modGroup g fun gr => { gr with alarm := .clear }

theorem State.vacated_group : ((s.vacated g).group g).alarm = .clear ∧ ((s.vacated g).group g).nextNumber = (s.group g).nextNumber ∧
    ((s.vacated g).group g).leading = (s.group g).leading := by
  have hgroup : (s.vacated g).group g = { (s.closeGroup g .command).group g with alarm := .clear } :=
    (State.group_modGroup ..).trans (if_pos rfl)
  rw [hgroup]
  cases hw : (s.group g).win with
  | none =>
    rw [State.closeGroup_of_none hw]
    exact ⟨rfl, rfl, rfl⟩
  | some w =>
    have hb := State.groupFiled_bare (s := s) (g := g) w .command
    rw [State.closeGroup_command hw]
    exact ⟨rfl, (congrArg Group.nextNumber hb :), (congrArg Group.leading hb :)⟩

theorem State.vacated_fixed : (s.vacated g).fixed = s.fixed := State.closeGroup_fixed ..

theorem State.vacated_still (m : LaneNo) : ((s.vacated g).lane m).still = (s.lane m).still :=
  State.still_of_others (t := s.vacated g) (State.closeGroup_others ..) m

theorem State.openingS0_of (hf : t.fixed = s.fixed) (hs : ∀ m, (t.lane m).still = (s.lane m).still)
    (hl : (t.group g).leading = (s.group g).leading) : t.openingS0 g = s.openingS0 g := by
  unfold State.openingS0
  rw [State.alignedMembers_of hf hs, hl]

/-- Settles O31: an open window closes with its record; the next one opens at the sequence after the leading one. -/
theorem groupWindowCommands : Obligations.GroupWindowCommands := by
  intro s rest tag g hc
  refine ⟨fun h => ?_, fun h => ⟨fun hnone => ?_, fun w hw => ?_⟩⟩
  · obtain ⟨halarm, hnext, hlead⟩ := State.vacated_group (s := s) (g := g)
    have hfix := State.vacated_fixed (s := s) (g := g)
    have hstill := State.vacated_still (s := s) (g := g)
    have hdesc : (s.vacated g).groupDesc = s.groupDesc := (congrArg Fixed.groupDesc hfix :)
    have hS0 := State.openingS0_of (g := g) hfix hstill hlead
    have heq : s.commandGroup g = (s.vacated g).openGroup g (((s.groupDesc.get g).getD GroupDesc.absent).spec)
        (((s.groupDesc.get g).getD GroupDesc.absent).rep) (((s.groupDesc.get g).getD GroupDesc.absent).notices)
        (s.openingS0 g).1 (s.openingS0 g).2 := by
      rw [← hS0, ← hdesc]
      rfl
    have hgroup := State.group_openGroup (s := s.vacated g) (g := g) (((s.groupDesc.get g).getD GroupDesc.absent).spec)
      (((s.groupDesc.get g).getD GroupDesc.absent).rep) (((s.groupDesc.get g).getD GroupDesc.absent).notices)
      (s.openingS0 g).1 (s.openingS0 g).2
    have hlag := fun l => State.openGroup_greatestLag (s := s.vacated g) (g := g) (l := l)
      (((s.groupDesc.get g).getD GroupDesc.absent).spec) (((s.groupDesc.get g).getD GroupDesc.absent).rep)
      (((s.groupDesc.get g).getD GroupDesc.absent).notices) (s.openingS0 g).1 (s.openingS0 g).2
    have hfix' : (s.commandGroup g).fixed = s.fixed := by
      rw [heq, State.openGroup_fixed, hfix]
    have hstill' : ∀ m, ((s.commandGroup g).lane m).still = (s.lane m).still := fun m => by
      rw [heq, State.still_of_others (State.openGroup_others ..) m, hstill]
    rw [← heq] at hgroup hlag
    refine ⟨s.commandGroup g, _, State.answer_group hc h rfl (State.cmdQ_of_fixed hfix') (State.waiting_of_fixed hfix'),
      (congrArg Group.win hgroup :), (congrArg Group.alarm hgroup :).trans halarm,
      (congrArg Group.nextNumber hgroup :).trans (congrArg (· + 1) hnext), hnext, rfl, State.tick_of_fixed hfix, rfl, hfix', hstill',
      fun d hd => ?_, fun hno => ?_, fun b hsome hb => ?_, fun l hl => hlag l ?_⟩
    · have : (s.groupDesc.get g).getD GroupDesc.absent = d := by rw [hd]; rfl
      rw [this]
      exact ⟨rfl, rfl, rfl⟩
    · have : s.openingS0 g = (none, 0) := by
        unfold State.openingS0
        rw [hno]
        rfl
      rw [this]
      exact ⟨rfl, rfl⟩
    · have hne : (s.alignedMembers g).isEmpty = false := by simpa [List.isEmpty_iff] using hsome
      have : s.openingS0 g = (some (b + 1), -1) := by
        unfold State.openingS0
        rw [hne, hb]
      rw [this]
      exact ⟨rfl, rfl⟩
    · rw [State.isMember_of_fixed hfix, hl]
  · exact State.answer_group hc h (congrArg Reply.ok (State.closeGroup_of_none hnone _))
  · obtain ⟨x, hx, hrec⟩ := State.groupFiled_last (s := s) (g := g) w .command
    have hfix : (s.groupFiled g w .command).fixed = s.fixed := by
      rw [← State.closeGroup_command hw, State.closeGroup_fixed]
    have hstill : ∀ m, ((s.groupFiled g w .command).lane m).still = (s.lane m).still := fun m => by
      rw [← State.closeGroup_command hw, State.still_of_others (State.closeGroup_others ..) m]
    obtain ⟨hnum, hot, -⟩ := State.closingWin_rest (s := s) (g := g) w
    obtain ⟨hbits, herrs, -⟩ := GWin.retired_counts ((s.group g).ring.filter fun e => w.inSpan e.seq) w
    refine ⟨_, x, State.answer_group hc h (congrArg Reply.ok (State.closeGroup_command hw)) (State.cmdQ_of_fixed hfix)
      (State.waiting_of_fixed hfix), (congrArg Group.win (State.groupFiled_bare (s := s) (g := g) w .command) :), hx,
      (congrArg WinRecord.source hrec :), (congrArg WinRecord.number hrec :).trans hnum, (congrArg WinRecord.reason hrec :),
      (congrArg WinRecord.openTick hrec :).trans hot, (congrArg WinRecord.closeTick hrec :),
      (congrArg (fun r : WinRecord => r.counts.bits) hrec :).trans hbits,
      (congrArg (fun r : WinRecord => r.counts.errors) hrec :).trans herrs, hfix, hstill⟩

end Sys2Proof.Machine
end

section
/-! RATIO_JOB_COMPLETE: the job in service leaves, its record and its source's alarm state are judged. -/

namespace Sys2Proof.Machine

variable {s t u : State} {l m : LaneNo} {j : Job} {js : List Job} {i : JobInputs}

theorem State.startHead_rest : s.startHead = { s with jobs := s.startHead.jobs } := by
  unfold State.startHead
  split
  · rfl
  · split <;> rfl

theorem State.startHead_sources : s.startHead.jobs.map Job.source = s.jobs.map Job.source := by
  unfold State.startHead
  split
  · rfl
  · next k ks e =>
    split
    · rfl
    · rw [e]
      rfl

theorem State.startHead_started {k : Job} {ks : List Job} (h : s.startHead.jobs = k :: ks) : k.inputs.isSome = true := by
  unfold State.startHead at h
  split at h
  · next e => exact absurd (e.symm.trans h) nofun
  · next k' ks' e =>
    split at h
    · next x hx =>
      rw [e, List.cons.injEq] at h
      rw [← h.1, hx]
      rfl
    · rw [List.cons.injEq] at h
      rw [← h.1]
      rfl

/-! ### A judged record (R99) -/

/-- A record as its job judges it. -/
def WinRecord.judged (i : JobInputs) (a : Alarm) (r : WinRecord) : WinRecord :=
  { r with
    status := .done, ratio := some (ratioOf i.errs i.bits), bound := boundOf i.bits i.u, verdict := some (verdictOf i),
    alarmAfter := some a }

/-- The state with a job's record and its source's alarm state judged, the notice apart. -/
def State.verdictGiven (s : State) (j : Job) (i : JobInputs) : State :=
  (s.modRecord j.source j.serial (WinRecord.judged i (alarmNext (s.alarmOf j.source) i))).setAlarm j.source
    (alarmNext (s.alarmOf j.source) i)

theorem State.judge_eq : s.judge j i =
    if s.alarmOf j.source = alarmNext (s.alarmOf j.source) i then s.verdictGiven j i
    else (s.verdictGiven j i).notify (.alarmChange j.source j.number (s.alarmOf j.source) (alarmNext (s.alarmOf j.source) i)
      (ratioOf i.errs i.bits) (s.verdictGiven j i).tick) := rfl

theorem State.lane_setAlarm_modRecord (src : Source) (n : Nat) (f : WinRecord → WinRecord) (a : Alarm) (m : LaneNo) :
    ((s.modRecord src n f).setAlarm src a).lane m = if src = .lane m then { s.lane m with
      hist := (s.lane m).hist.map (fun r => if r.serial = n then f r else r), alarm := a, alarmKnown := true } else s.lane m := by
  cases src with
  | group g => rfl
  | lane l =>
    rw [State.setAlarm, State.modRecord, State.modHistory, State.lane_modLane, State.lane_modLane, State.lane_modLane, if_pos rfl]
    by_cases h : m = l
    · rw [h, if_pos rfl, if_pos rfl]
    · rw [if_neg h, if_neg h, if_neg fun e => h (Source.lane.inj e).symm]

theorem State.group_setAlarm_modRecord (src : Source) (n : Nat) (f : WinRecord → WinRecord) (a : Alarm) (g : GroupId) :
    ((s.modRecord src n f).setAlarm src a).group g = if src = .group g then { s.group g with
      hist := (s.group g).hist.map (fun r => if r.serial = n then f r else r), alarm := a } else s.group g := by
  cases src with
  | lane l => rfl
  | group k =>
    rw [State.setAlarm, State.modRecord, State.modHistory, State.group_modGroup, State.group_modGroup, State.group_modGroup,
      if_pos rfl]
    by_cases h : g = k
    · rw [h, if_pos rfl, if_pos rfl]
    · rw [if_neg h, if_neg h, if_neg fun e => h (Source.group.inj e).symm]

theorem State.verdictGiven_fixed : (s.verdictGiven j i).fixed = s.fixed := by
  unfold State.verdictGiven State.setAlarm State.modRecord State.modHistory
  cases j.source <;> rfl

theorem State.verdictGiven_egress : (s.verdictGiven j i).egress = s.egress := by
  unfold State.verdictGiven State.setAlarm State.modRecord State.modHistory
  cases j.source <;> rfl

/-- What a judged job leaves of lanes and groups. -/
theorem State.verdictGiven_source :
    (s.verdictGiven j i).alarmOf j.source = alarmNext (s.alarmOf j.source) i ∧
    (∀ l, j.source = .lane l → ((s.verdictGiven j i).lane l).alarmKnown = true) ∧
    (s.verdictGiven j i).history j.source = (s.history j.source).map fun r =>
      if r.serial = j.serial then r.judged i (alarmNext (s.alarmOf j.source) i) else r := by
  have hlane := fun m => State.lane_setAlarm_modRecord (s := s) j.source j.serial
    (WinRecord.judged i (alarmNext (s.alarmOf j.source) i)) (alarmNext (s.alarmOf j.source) i) m
  have hgroup := fun g => State.group_setAlarm_modRecord (s := s) j.source j.serial
    (WinRecord.judged i (alarmNext (s.alarmOf j.source) i)) (alarmNext (s.alarmOf j.source) i) g
  change ∀ m, (s.verdictGiven j i).lane m = _ at hlane
  change ∀ g, (s.verdictGiven j i).group g = _ at hgroup
  generalize s.verdictGiven j i = v at hlane hgroup
  cases hsrc : j.source with
  | lane l =>
    rw [hsrc] at hlane
    have hl := (hlane l).trans (if_pos rfl)
    refine ⟨(congrArg Lane.alarm hl :), fun m hm => ?_, (congrArg Lane.hist hl :)⟩
    rw [← Source.lane.inj hm]
    exact (congrArg Lane.alarmKnown hl :)
  | group g =>
    rw [hsrc] at hgroup
    have hg := (hgroup g).trans (if_pos rfl)
    exact ⟨(congrArg Group.alarm hg :), nofun, (congrArg Group.hist hg :)⟩

theorem State.verdictGiven_lane_ne (h : j.source ≠ .lane m) : (s.verdictGiven j i).lane m = s.lane m :=
  (State.lane_setAlarm_modRecord ..).trans (if_neg h)

/-! ### The judgement with its notice -/

/-- A state as far as lanes, groups and the fixed fields go. -/
structure State.SameParts (s t : State) : Prop where
  lanes : t.lanes = s.lanes
  groups : t.groups = s.groups
  fixed : t.fixed = s.fixed

theorem State.judge_parts : (s.verdictGiven j i).SameParts (s.judge j i) := by
  rw [State.judge_eq]
  split
  · exact ⟨rfl, rfl, rfl⟩
  · exact ⟨State.lanes_notify _, State.groups_notify _, State.notify_fixed ..⟩

theorem State.judge_egress : (alarmNext (s.alarmOf j.source) i = s.alarmOf j.source → (s.judge j i).egress = s.egress) ∧
    (alarmNext (s.alarmOf j.source) i ≠ s.alarmOf j.source → s.egress.length ≤ 11 →
      (s.judge j i).egress = s.egress ++ [noticeRec (.alarmChange j.source j.number (s.alarmOf j.source)
        (alarmNext (s.alarmOf j.source) i) (ratioOf i.errs i.bits) s.tick)]) := by
  have he := State.verdictGiven_egress (s := s) (j := j) (i := i)
  rw [State.judge_eq]
  refine ⟨fun h => ?_, fun h hroom => ?_⟩
  · rw [if_pos h.symm, he]
  · rw [if_neg (Ne.symm h), State.notify_of_room (by rw [he]; exact hroom), State.tick_of_fixed State.verdictGiven_fixed, he]

theorem State.completeJob_eq (h : s.jobs = j :: js) (hi : j.inputs = some i) :
    s.completeJob = ({ (if j.discard then s else s.judge j i) with jobs := js } : State).startHead := by
  unfold State.completeJob
  rw [h]
  dsimp only
  rw [hi]

theorem State.endWait_of_free (h : s.waiting = false) : s.endWait = s := by
  rw [State.endWait, h, if_neg Bool.false_ne_true]

theorem State.alarmOf_of_parts (h : s.SameParts t) (src : Source) : t.alarmOf src = s.alarmOf src := by
  cases src with
  | lane l => rw [State.alarmOf, State.lane, h.lanes]; rfl
  | group g => rw [State.alarmOf, State.group, h.groups]; rfl

theorem State.history_of_parts (h : s.SameParts t) (src : Source) : t.history src = s.history src := by
  cases src with
  | lane l => rw [State.history, State.lane, h.lanes]; rfl
  | group g => rw [State.history, State.group, h.groups]; rfl

/-! ### Alarm states (R108) -/

/-- Without errors no threshold of a descriptor in range is met. -/
theorem atOrAbove_of_no_errors {n : Nat} {d : Decimal} (hn : 64 ≤ n) (hd : 100 ≤ d.m) : atOrAbove 0 n d = false := by
  refine decide_eq_false ?_
  rw [Nat.zero_mul, Nat.le_zero, Nat.mul_eq_zero]
  omega

theorem alarmNext_of_no_errors (h : i.errs = 0) (hn : 64 ≤ i.bits) (hc : 100 ≤ i.prof.degradeClear.m)
    (hs : 100 ≤ i.prof.degradeSet.m) (hf : 100 ≤ i.prof.failSet.m) (a : Alarm) : alarmNext a i = .clear := by
  unfold alarmNext
  rw [h, atOrAbove_of_no_errors hn hc, atOrAbove_of_no_errors hn hs, atOrAbove_of_no_errors hn hf]
  cases a <;> rfl

/-- Settles O35: a discarded job writes nothing; another one its record, its alarm state and a notice of a change. -/
theorem ratioJobCompletes : Obligations.RatioJobCompletes := by
  refine ⟨fun s hw => ⟨fun h => ?_, fun j rest i h hi => ?_⟩, fun i => ⟨rfl, ?_, ?_, alarmNext_of_no_errors⟩⟩
  · change execRatioJobComplete s = _
    unfold execRatioJobComplete
    rw [h]
  · have hexec : exec .ratioJobComplete s = .next s.completeJob := by
      rw [exec_ratioJobComplete h (by rw [hi]; rfl), State.endWait_of_free]
      exact (State.waiting_of_fixed (State.completeJob_fixed s)).trans hw
    have hrest := State.startHead_rest (s := { (if j.discard then s else s.judge j i) with jobs := rest })
    have heq := State.completeJob_eq h hi
    refine ⟨s.completeJob, hexec, ?_, fun k ks hk => ?_, State.completeJob_fixed s, fun m hm => ?_, fun hd => ?_, fun hd => ?_⟩
    · rw [heq, State.startHead_sources]
    · rw [heq] at hk
      exact State.startHead_started hk
    · rw [heq, hrest]
      refine ite_keeps (P := fun t : State => (t.lane m).still = (s.lane m).still) (fun _ => rfl) fun _ => ?_
      rw [State.lane, State.judge_parts.lanes]
      exact congrArg Lane.still (State.verdictGiven_lane_ne hm)
    · rw [heq, if_pos hd]
    · rw [if_neg (by simp [hd])] at heq hrest
      rw [← heq] at hrest
      have hparts : (s.verdictGiven j i).SameParts s.completeJob :=
        ⟨(congrArg State.lanes hrest).trans State.judge_parts.lanes, (congrArg State.groups hrest).trans State.judge_parts.groups,
          (congrArg State.fixed hrest).trans State.judge_parts.fixed⟩
      obtain ⟨halarm, hknown, hhist⟩ := State.verdictGiven_source (s := s) (j := j) (i := i)
      obtain ⟨hsame, hchange⟩ := State.judge_egress (s := s) (j := j) (i := i)
      have hegress : s.completeJob.egress = (s.judge j i).egress := (congrArg State.egress hrest :)
      rw [hegress]
      refine ⟨(State.alarmOf_of_parts hparts _).trans halarm, fun l hl => ?_, (State.history_of_parts hparts _).trans hhist,
        hsame, hchange⟩
      rw [State.lane, hparts.lanes]
      exact hknown l hl
  · change (if _ then _ else if !_ then _ else _) = _
    cases atOrAbove i.errs i.bits i.prof.degradeClear <;> rfl
  · change (if _ then _ else if !_ then _ else _) = _
    cases atOrAbove i.errs i.bits i.prof.failClear <;> rfl

end Sys2Proof.Machine
end

section
/-! LOAD_IMAGE: what the loading of sections leaves, the passages, a section written entry by entry. -/

namespace Sys2Proof.Machine

variable {s t u : State} {l : LaneNo} {rest : List CmdRec} {tag : Octet} {body : List Block}

/-! ### Part state and command queue while sections load -/

/-- The part state and the command processor. -/
def Fixed.seat (F : Fixed) : Bool × List CmdRec × Bool := (F.configured, F.cmdQ, F.waiting)

/-- From `s` to `t` the part state and the command processor stand. -/
def State.Seated (s t : State) : Prop := t.fixed.seat = s.fixed.seat

theorem State.Seated.configured (h : s.Seated t) : t.configured = s.configured := (congrArg Prod.fst h :)
theorem State.Seated.cmdQ (h : s.Seated t) : t.cmdQ = s.cmdQ := (congrArg (fun p => p.2.1) h :)
theorem State.Seated.waiting (h : s.Seated t) : t.waiting = s.waiting := (congrArg (fun p => p.2.2) h :)

theorem State.Seated.of_fixed (h : s.Seated t) (e : u.fixed = t.fixed) : s.Seated u := (congrArg Fixed.seat e).trans h

theorem State.writeLaneMap_seated (h : s.Seated t) (l : LaneNo) (a : LaneMapArg) : s.Seated (t.writeLaneMap l a).2 := by
  cases he : LaneMapArg.entry a with
  | none => rwa [State.writeLaneMap_refused he]
  | some e =>
    have hm : s.Seated (t.mapped l e) :=
      State.Seated.of_fixed (t := { t with laneMap := t.laneMap.set l (some e) }) h (State.mapped_keeps e).1
    rw [State.writeLaneMap_taken he]
    split
    · exact h
    · split
      · exact h
      · exact hm

theorem State.redescribed_seated (e : LaneDesc) : s.Seated (s.redescribed l e) := by
  have hb := State.recounted_beside (State.rewrittenDesc_beside (State.described_beside (s := s) (l := l) (e := e))) (s.counting l)
  exact State.Seated.of_fixed (t := ((s.described l e).rewrittenDesc l).recounted (s.counting l) l)
    (congrArg Fixed.seat hb.1 :) (State.settleHolds_fixed _)

theorem State.writeLaneDesc_seated (h : s.Seated t) (l : LaneNo) (a : LaneDescArg) : s.Seated (t.writeLaneDesc l a).2 := by
  cases he : LaneDescArg.entry a with
  | none => rwa [State.writeLaneDesc_refused he]
  | some e =>
    rw [State.writeLaneDesc_taken he]
    split
    · exact h
    · exact (State.redescribed_seated e).trans h

theorem State.writePatDesc_seated (h : s.Seated t) (d : LaneNo) (a : PatDescArg) : s.Seated (t.writePatDesc d a).2 := by
  cases he : PatDescArg.entry a with
  | none => rwa [State.writePatDesc_refused d he]
  | some e =>
    rw [State.writePatDesc_taken d he]
    split
    · exact h
    · have hfix := State.forLanes_fixed (State.rewrittenPat d) (fun l v => State.rewrittenPat_fixed d)
        { t with patDesc := t.patDesc.set d (some e) }
      generalize State.forLanes { t with patDesc := t.patDesc.set d (some e) } (State.rewrittenPat d) = u at hfix
      exact State.Seated.of_fixed (t := { t with patDesc := t.patDesc.set d (some e) }) h hfix

theorem State.writeChan_seated (h : s.Seated t) (a : ChanArg) : s.Seated (t.writeChan a).2 := by
  unfold State.writeChan
  split
  · exact h
  · next e _ =>
    obtain ⟨k, hk, -⟩ := State.rejudgeLink_facts (s := { t with chan := some e }) rfl (t.movesChannel e)
    dsimp only
    split
    · exact h
    · rw [State.periodChanged_rest]
      exact (congrArg Fixed.seat hk.fixed :).trans h

theorem atIndex_seated {ι : Type} (i : Option ι) {f : ι → Status × State} (h : s.Seated t) (hf : ∀ j, s.Seated (f j).2) :
    s.Seated (atIndex t i f).2 := by
  cases i with
  | none => exact h
  | some j => exact hf j

theorem State.writePatMem_seated (h : s.Seated t) (i : Nat) (b : Block) : s.Seated (t.writePatMem i b).2 := by
  unfold State.writePatMem
  split
  · exact h
  · exact h

theorem State.writeSched_seated (h : s.Seated t) (i : Nat) (a : SchedArg) : s.Seated (t.writeSched i a).2 := by
  unfold State.writeSched
  split
  · split
    · exact h
    · split
      · exact h
      · exact h
  · exact h

theorem State.writeConf_seated (h : s.Seated t) (i c : Nat) : s.Seated (t.writeConf i c).2 := by
  unfold State.writeConf
  split
  · split
    · exact h
    · exact h
  · exact h

theorem State.writeProfile_seated (h : s.Seated t) (i : Fin 4) (a : ProfileArg) : s.Seated (t.writeProfile i a).2 := by
  unfold State.writeProfile
  split
  · exact h
  · exact h

theorem State.writeGroupDesc_seated (h : s.Seated t) (g : GroupId) (a : GroupDescArg) : s.Seated (t.writeGroupDesc g a).2 := by
  unfold State.writeGroupDesc
  split
  · exact h
  · split
    · exact h
    · exact h

theorem State.writePermit_seated (h : s.Seated t) (cs : List Octet) : s.Seated (t.writePermit cs).2 := by
  unfold State.writePermit
  split
  · exact h
  · exact h

theorem Loading.sect_seated (w : Loading) (x : ImageSection) (h : s.Seated w.s) : s.Seated (w.sect x).s := by
  cases x with
  | laneMap i es => exact Kept.loadEntries 0 (fun _ e h => atIndex_seated _ h fun l => State.writeLaneMap_seated h l e) es i w h
  | laneDesc i es => exact Kept.loadEntries 1 (fun _ e h => atIndex_seated _ h fun l => State.writeLaneDesc_seated h l e) es i w h
  | patDesc i es => exact Kept.loadEntries 2 (fun _ e h => atIndex_seated _ h fun d => State.writePatDesc_seated h d e) es i w h
  | patMem i es => exact Kept.loadEntries 3 (fun _ b h => atIndex_seated _ h fun k => State.writePatMem_seated h k b) es i w h
  | sched i es => exact Kept.loadEntries (P := s.Seated) 4 (fun {_} j e h => State.writeSched_seated h j e) es i w h
  | conf i es => exact Kept.loadEntries (P := s.Seated) 5 (fun {_} j c h => State.writeConf_seated h j c) es i w h
  | profiles i es => exact Kept.loadEntries 6 (fun _ e h => atIndex_seated _ h fun k => State.writeProfile_seated h k e) es i w h
  | groupDesc i es => exact Kept.loadEntries 7 (fun _ e h => atIndex_seated _ h fun g => State.writeGroupDesc_seated h g e) es i w h
  | chan i es => exact Kept.loadEntries 8 (fun _ e h => atIndex_seated _ h fun _ => State.writeChan_seated h e) es i w h
  | permit i es => exact Kept.loadEntries 9 (fun _ e h => atIndex_seated _ h fun _ => State.writePermit_seated h e) es i w h
  | unknownTable t => exact h

/-- The loading of an image's sections. -/
def State.loading (s : State) (xs : List ImageSection) : Loading := xs.foldl Loading.sect ⟨s, none, false⟩

theorem State.loading_seated (xs : List ImageSection) : s.Seated (s.loading xs).s := by
  have key : ∀ (xs : List ImageSection) (w : Loading), s.Seated w.s → s.Seated (xs.foldl Loading.sect w).s := by
    intro xs
    induction xs with
    | nil => exact fun _ h => h
    | cons x xs ih => exact fun w h => ih _ (w.sect_seated x h)
  exact key xs _ rfl

/-! ### The passages -/

/-- The part passed to UNCONFIGURED: part state, aligners and marker channel alone. -/
theorem State.unconfigure_fixed :
    ({ s.unconfigure with configured := s.configured, link := s.link } : State).fixed = s.fixed ∧ s.unconfigure.configured = false := by
  have hseek : ∀ t : State, (t.forLanes fun l s => s.seekAligner l).fixed = ({ t with
      link := (t.forLanes fun l s => s.seekAligner l).link } : State).fixed := fun t => by
    refine State.forLanes_keeps (P := fun u => u.fixed = ({ t with link := u.link } : State).fixed) (fun {u} l h => ?_) rfl
    exact State.seekAligner_fixed.trans (congrArg (fun F : Fixed => { F with link := (u.seekAligner l).link }) h :)
  have hreset : ∀ t : State, t.resetAligners.fixed = ({ t with link := t.resetAligners.link } : State).fixed := fun t => by
    have h1 : t.resetAligners.fixed = (t.forLanes fun l s => s.seekAligner l).fixed := by
      unfold State.resetAligners
      rw [State.groupEvent_fixed, State.groupEvent_fixed]
    have hlink : t.resetAligners.link = (t.forLanes fun l s => s.seekAligner l).link := (congrArg Fixed.link h1 :)
    rw [h1, hlink, hseek t]
  unfold State.unconfigure
  split
  · have h := hreset { s with configured := false, lanes := s.lanes.map Lane.cancelPending }
    exact ⟨(congrArg (fun F : Fixed => { F with configured := s.configured, link := s.link }) h :), (congrArg Fixed.configured h :)⟩
  · next hc => exact ⟨rfl, by simpa using hc⟩

theorem State.entryView_of_fixed (h : t.fixed = s.fixed) : t.entryView = s.entryView := by
  have h0 : t.laneMap = s.laneMap := (congrArg Fixed.laneMap h :)
  have h1 : t.laneDesc = s.laneDesc := (congrArg Fixed.laneDesc h :)
  have h2 : t.patDesc = s.patDesc := (congrArg Fixed.patDesc h :)
  have h3 : t.patMem = s.patMem := (congrArg Fixed.patMem h :)
  have h4 : t.sched = s.sched := (congrArg Fixed.sched h :)
  have h5 : t.conf = s.conf := (congrArg Fixed.conf h :)
  have h6 : t.profiles = s.profiles := (congrArg Fixed.profiles h :)
  have h7 : t.groupDesc = s.groupDesc := (congrArg Fixed.groupDesc h :)
  have h8 : t.chan = s.chan := (congrArg Fixed.chan h :)
  have h9 : t.permit = s.permit := (congrArg Fixed.permit h :)
  funext n i
  unfold State.entryView
  rw [h0, h1, h2, h3, h8, h9, h6, h7]
  simp only [h4, h5]

theorem State.firstEmpty_of_entryView (h : t.entryView = s.entryView) : t.firstEmpty = s.firstEmpty := by
  unfold State.firstEmpty State.loaded
  rw [h]

theorem State.firstEmpty_unconfigure : s.unconfigure.firstEmpty = s.firstEmpty :=
  State.firstEmpty_of_entryView (State.entryView_of_fixed (t := { s.unconfigure with configured := s.configured, link := s.link })
    State.unconfigure_fixed.1)

theorem Loading.reply_s (w : Loading) : w.reply.s = w.s := by
  unfold Loading.reply
  split <;> rfl

/-- R172: what a load leaves, by its target. -/
theorem State.load_facts (xs : List ImageSection) {n : Nat} (hn : n < 3) :
    (n = 0 → (s.load n xs).s.configured = s.configured) ∧
    (n = 1 → (s.load n xs).s.configured = decide ((s.load n xs).s.firstEmpty = none) ∧
      ∀ p, (s.load n xs).s.firstEmpty = some p → (s.load n xs).status = .badField ∧ (s.load n xs).body = .tableIndex p.1 p.2) ∧
    (n = 2 → (s.load n xs).s.configured = false) ∧ (s.load n xs).s.cmdQ = s.cmdQ ∧ (s.load n xs).s.waiting = s.waiting := by
  have hseat : s.Seated (s.loading xs).reply.s := by
    rw [Loading.reply_s]
    exact State.loading_seated xs
  have hload : s.load n xs = if n = 0 then (s.loading xs).reply
      else if n = 1 then match (s.loading xs).reply.s.firstEmpty with
        | none => { (s.loading xs).reply with s := { (s.loading xs).reply.s with configured := true } }
        | some (t, i) => ⟨(s.loading xs).reply.s.unconfigure, .badField, .tableIndex t i⟩
      else { (s.loading xs).reply with s := (s.loading xs).reply.s.unconfigure } := rfl
  generalize (s.loading xs).reply = a at hseat hload
  obtain ⟨hu, hc⟩ := State.unconfigure_fixed (s := a.s)
  have hq : a.s.unconfigure.cmdQ = s.cmdQ := (congrArg Fixed.cmdQ hu :).trans hseat.cmdQ
  have hw : a.s.unconfigure.waiting = s.waiting := (congrArg Fixed.waiting hu :).trans hseat.waiting
  have hcases : n = 0 ∨ n = 1 ∨ n = 2 := by omega
  rcases hcases with rfl | rfl | rfl
  · rw [hload, if_pos rfl]
    exact ⟨fun _ => hseat.configured, fun h => absurd h (by decide), fun h => absurd h (by decide), hseat.cmdQ, hseat.waiting⟩
  · rw [hload, if_neg (by decide), if_pos rfl]
    cases he : a.s.firstEmpty with
    | none =>
      have he' : ({ a.s with configured := true } : State).firstEmpty = none := he
      refine ⟨fun h => absurd h (by decide), fun _ => ⟨(decide_eq_true he').symm, fun p hp => ?_⟩, fun h => absurd h (by decide),
        hseat.cmdQ, hseat.waiting⟩
      exact absurd (he'.symm.trans hp) nofun
    | some p =>
      have he' : a.s.unconfigure.firstEmpty = some p := State.firstEmpty_unconfigure.trans he
      refine ⟨fun h => absurd h (by decide), fun _ => ⟨?_, fun q hq => ?_⟩, fun h => absurd h (by decide), hq, hw⟩
      · exact hc.trans (decide_eq_false (by rw [he']; exact nofun)).symm
      · obtain rfl := Option.some.inj (he'.symm.trans hq)
        exact ⟨rfl, rfl⟩
  · rw [hload, if_neg (by decide), if_neg (by decide)]
    exact ⟨fun h => absurd h (by decide), fun h => absurd h (by decide), fun _ => hc, hq, hw⟩

/-! ### A section of the confidence table -/

theorem Loading.conf_entry {w : Loading} {i c : Nat} (hi : i < 32) (hc : c ≤ 65535) :
    w.entry 5 i (fun s => s.writeConf i c) = { w with s := { w.s with conf := w.s.conf.set i (some c) hi } } := by
  have hw : w.s.writeConf i c = (.ok, { w.s with conf := w.s.conf.set i (some c) hi }) := by
    unfold State.writeConf
    rw [dif_pos hi, if_pos hc]
  have hj : judgedAt 5 i = true := by
    rw [judgedAt, beq_self_eq_true, Bool.or_true]
  unfold Loading.entry
  rw [hj, if_pos rfl]
  dsimp only
  rw [hw]
  simp

/-- The entries of a section are written one by one from its first index. -/
theorem Loading.conf_entries (cs : List Nat) : ∀ (i : Nat) (w : Loading), i + cs.length ≤ 32 → (∀ c ∈ cs, c ≤ 65535) →
    ∃ v : Vector (Option Nat) 32, Loading.entries 5 (fun s j e => s.writeConf j e) cs i w = { w with s := { w.s with conf := v } } ∧
      ∀ (k : Nat) (h : k < 32), v[k] = if i ≤ k ∧ k < i + cs.length then cs[k - i]? else w.s.conf[k] := by
  induction cs with
  | nil =>
    intro i w _ _
    refine ⟨w.s.conf, rfl, fun k h => ?_⟩
    rw [if_neg]
    rw [List.length_nil]
    omega
  | cons c cs ih =>
    intro i w hlen hall
    rw [List.length_cons] at hlen
    rw [List.forall_mem_cons] at hall
    obtain ⟨v, hv, hat⟩ := ih (i + 1) { w with s := { w.s with conf := w.s.conf.set i (some c) (by omega) } } (by omega) hall.2
    refine ⟨v, ?_, fun k h => ?_⟩
    · rw [Loading.entries, Loading.conf_entry (by omega) hall.1, hv]
    · rw [hat k h, List.length_cons]
      by_cases hk : k = i
      · subst hk
        rw [if_neg (by omega), if_pos (by omega)]
        simp
      · by_cases hin : i + 1 ≤ k ∧ k < i + 1 + cs.length
        · rw [if_pos hin, if_pos (by omega)]
          have : k - i = (k - (i + 1)) + 1 := by omega
          rw [this, List.getElem?_cons_succ]
        · rw [if_neg hin, if_neg (by omega)]
          exact Vector.getElem_set_ne (by omega) h (Ne.symm hk)

/-! ### The command -/

theorem imageOf_params (xs : List ImageSection) (hb : body ≠ []) (target : Octet) :
    imageOf (.params xs) (localCmd 0x03 tag target body) = .params xs :=
  if_neg (by simpa [localCmd, List.isEmpty_iff] using hb)

theorem answer_loadImage {xs : List ImageSection} {target : Octet} {n : Nat} (hb : body ≠ [])
    (h : s.takes (localCmd 0x03 tag target body) rest) (hn : target.toNat = n) (hlt : n < 3) {st : Status} {b : Body}
    (hown : (if s.configured && s.atWork then Reply.of s .busy
      else if xs.all ImageSection.known then s.load n xs else Reply.of s .badLength) = ⟨t, st, b⟩)
    (hq : t.cmdQ = s.cmdQ) (hw : t.waiting = s.waiting) :
    exec (.loadImage (.params xs)) s = .next (t.answered (localCmd 0x03 tag target body) rest st b) := by
  have htarget : imageTarget (localCmd 0x03 tag target body).target.toNat = some n := by
    rw [← hn] at hlt ⊢
    exact if_pos hlt
  have hread := imageOf_params (tag := tag) xs hb target
  exact State.answer_command (read := fun r => some (imageOf (.params xs) r)) (b := .params xs) h (.inr rfl) htarget
    (congrArg some hread) hown hq hw

/-- Settles O52: a part at work and an unknown table are refused; the sections are loaded, then the passage made. -/
theorem loadImagePassages : Obligations.LoadImagePassages := by
  refine ⟨fun s rest tag body xs hb => ⟨fun n h => ?_, fun target ht h => ?_⟩, fun s rest tag body cs hb hc hlen hall h => ?_⟩
  · have hn : (BitVec.ofNat 8 n.val).toNat = n.val := by
      rw [BitVec.toNat_ofNat]
      omega
    refine ⟨fun hc hwork => answer_loadImage hb h hn n.isLt (if_pos (by rw [hc, hwork]; rfl)) rfl rfl, fun hfree => ?_⟩
    have hno : ¬((s.configured && s.atWork) = true) := by
      rw [Bool.and_eq_true]
      rintro ⟨h1, h2⟩
      rcases hfree with h3 | h3
      · exact Bool.false_ne_true (h3.symm.trans h1)
      · exact Bool.false_ne_true (h3.symm.trans h2)
    refine ⟨fun hk => answer_loadImage hb h hn n.isLt ((if_neg hno).trans (if_neg (by simp [hk]))) rfl rfl, fun hk => ?_⟩
    obtain ⟨h0, h1, h2, hq, hw⟩ := State.load_facts (s := s) xs n.isLt
    refine ⟨(s.load n.val xs).s, (s.load n.val xs).status, (s.load n.val xs).body, answer_loadImage hb h hn n.isLt ((if_neg hno).trans (if_pos hk)) hq hw, fun e => h0 ?_,
      fun e => h1 ?_, fun e => h2 ?_, hq⟩
    all_goals rw [e]; rfl
  · exact State.answer_badTarget h rfl (if_neg (by simp only [localCmd]; omega))
  · obtain ⟨v, hv, hat⟩ := Loading.conf_entries cs 0 ⟨s, none, false⟩ (by omega) hall
    have hload : s.load 0 [.conf 0 cs] = ⟨{ s with conf := v }, .ok, .empty⟩ := by
      change (Loading.entries 5 (fun s j e => s.writeConf j e) cs 0 ⟨s, none, false⟩).reply = _
      rw [hv]
      rfl
    refine ⟨v, answer_loadImage hb h rfl (by decide) ?_ rfl rfl, fun k hk => ?_⟩
    · rw [hc, Bool.false_and, if_neg Bool.false_ne_true]
      rw [hc] at hload
      exact (if_pos rfl).trans hload
    · rw [hat k hk, if_pos (by omega)]
      rfl

end Sys2Proof.Machine
end

section
/-! What falls due at an injection channel, and its four expiries. -/

namespace Sys2Proof.Machine

variable {s : State} {c : ChanNo} {ch : InjChan} {p : InjSettings} {sched : Nat → SchedEntry}

/-! ### What falls due -/

theorem InjChan.spend_eq (ch : InjChan) (p : InjSettings) :
    ch.spend p = { ch with remaining := if p.count = 0 then ch.remaining else ch.remaining - 1 } := by
  unfold InjChan.spend
  split <;> rfl

/-- A run is used up when the falling count was at its last. -/
theorem InjChan.spent_spend (ch : InjChan) (p : InjSettings) :
    (ch.spend p).spent p = decide (p.count ≠ 0 ∧ ch.remaining ≤ 1) := by
  rw [InjChan.spend_eq, InjChan.spent, Bool.eq_iff_iff]
  by_cases hc : p.count = 0
  · simp [hc]
  · simp [hc, Nat.sub_eq_zero_iff_le]

theorem InjChan.spent_of_remaining {ch' : InjChan} (h : ch'.remaining = ch.remaining) (p : InjSettings) : ch'.spent p = ch.spent p := by
  unfold InjChan.spent
  rw [h]

theorem InjChan.rateDue_eq (ch : InjChan) (p : InjSettings) :
    ch.rateDue p = (⟨p.kind, p.bits, p.pos⟩, { ch with
      rateLeft := p.rateK
      remaining := if p.count = 0 then ch.remaining else ch.remaining - 1
      runOver := decide (p.count ≠ 0 ∧ ch.remaining ≤ 1) }) := by
  unfold InjChan.rateDue
  dsimp only
  rw [InjChan.spent_spend, InjChan.spend_eq]

theorem InjChan.scheduleDue_fst (ch : InjChan) (p : InjSettings) (sched : Nat → SchedEntry) :
    (ch.scheduleDue p sched).1 = ⟨p.kind, (sched ch.entry).bits, (sched ch.entry).pos⟩ := by
  unfold InjChan.scheduleDue
  dsimp only
  split
  · rfl
  · split
    · rfl
    · split
      · rfl
      · split <;> rfl

/-- A slot of a walk leaves the channel's state, settings, activation count and deferred injections. -/
theorem InjChan.scheduleDue_rest (ch : InjChan) (p : InjSettings) (sched : Nat → SchedEntry) :
    (ch.scheduleDue p sched).2.state = ch.state ∧ (ch.scheduleDue p sched).2.settings = ch.settings ∧
    (ch.scheduleDue p sched).2.actCount = ch.actCount ∧ (ch.scheduleDue p sched).2.deferred = ch.deferred := by
  unfold InjChan.scheduleDue
  dsimp only
  split
  · exact ⟨rfl, rfl, rfl, rfl⟩
  · split
    · exact ⟨rfl, rfl, rfl, rfl⟩
    · rw [InjChan.spent_spend, InjChan.spend_eq]
      generalize (if p.count = 0 then ch.remaining else ch.remaining - 1) = left
      split
      · exact ⟨rfl, rfl, rfl, rfl⟩
      · split
        · exact ⟨rfl, rfl, rfl, rfl⟩
        · exact ⟨rfl, rfl, rfl, rfl⟩

/-- A walk inside an entry. -/
theorem InjChan.scheduleDue_inside (h : 1 < ch.blocks) : (ch.scheduleDue p sched).2 = { ch with blocks := ch.blocks - 1 } := by
  have hb : ch.blocks - 1 ≠ 0 := by omega
  unfold InjChan.scheduleDue
  dsimp only
  rw [if_pos hb]

/-- A walk at the end of an entry that is not its last. -/
theorem InjChan.scheduleDue_next (h : ch.blocks = 1) (he : ch.entry < p.schedLast) :
    (ch.scheduleDue p sched).2 = { ch with
      entry := ch.entry + 1, gap := (sched (ch.entry + 1)).gap, blocks := (sched (ch.entry + 1)).blocks } := by
  have hb : ¬(ch.blocks - 1 ≠ 0) := by omega
  unfold InjChan.scheduleDue
  dsimp only
  rw [if_neg hb, if_pos he]
  rfl

/-- A walk at its end: it starts again while the count lasts and the source is CONTINUOUS, else the run is over. -/
theorem InjChan.scheduleDue_last (h : ch.blocks = 1) (he : p.schedLast ≤ ch.entry) :
    (ch.scheduleDue p sched).2 =
      if (p.count = 0 ∨ 1 < ch.remaining) ∧ p.source = .continuous then { ch with
        remaining := if p.count = 0 then ch.remaining else ch.remaining - 1
        entry := p.schedFirst, gap := (sched p.schedFirst).gap, blocks := (sched p.schedFirst).blocks }
      else { ch with
        remaining := if p.count = 0 then ch.remaining else ch.remaining - 1, blocks := 0, runOver := true } := by
  have hb : ¬(ch.blocks - 1 ≠ 0) := by omega
  have hz : ch.blocks - 1 = 0 := by omega
  unfold InjChan.scheduleDue
  dsimp only
  rw [if_neg hb, if_neg (Nat.not_lt.mpr he), InjChan.spent_spend, InjChan.spend_eq, isContinuous_eq, hz]
  generalize (if p.count = 0 then ch.remaining else ch.remaining - 1) = left
  by_cases hrun : p.count = 0 ∨ 1 < ch.remaining
  · have hno : ¬(decide (p.count ≠ 0 ∧ ch.remaining ≤ 1) = true) := by
      rw [decide_eq_true_eq]
      omega
    rw [if_neg hno]
    by_cases hc : p.source = .continuous
    · rw [if_pos (decide_eq_true hc), if_pos ⟨hrun, hc⟩]
      rfl
    · rw [if_neg (by rwa [decide_eq_true_eq]), if_neg fun h => hc h.2]
  · have hyes : decide (p.count ≠ 0 ∧ ch.remaining ≤ 1) = true := by
      rw [decide_eq_true_eq]
      omega
    rw [if_pos hyes, if_neg fun h => hrun h.1]

theorem InjChan.deferDue_eq (ch : InjChan) (p : InjSettings) (i : Injection) :
    ch.deferDue p i = { ch with
      deferred := Eight.gen (fun l => (ch.deferred.get l).or (if p.targets.get l then some i else none)) } := by
  refine congrArg (fun f => { ch with deferred := Eight.gen f }) (funext fun l => ?_)
  cases h : ch.deferred.get l with
  | none => rfl
  | some j => rfl

/-! ### The rows -/

/-- R114: an activation count at its end, whatever is counted. -/
theorem State.activationExpiry (n : Nat) (hon : (s.inj.get c).state ≠ .idle) :
    (n ≤ (s.inj.get c).actCount + 1 →
      (if (s.inj.get c).state ≠ .idle ∧ n ≤ (s.inj.get c).actCount + 1 then
          .next (s.modInj c (fun ch => { ch with actCount := 0 }.activate)) else .next s : Out) =
        .next (s.putInj c { s.inj.get c with
          actCount := 0, state := if (s.inj.get c).state = .waiting then .active else (s.inj.get c).state })) ∧
    ((s.inj.get c).actCount + 1 < n →
      (if (s.inj.get c).state ≠ .idle ∧ n ≤ (s.inj.get c).actCount + 1 then
          .next (s.modInj c (fun ch => { ch with actCount := 0 }.activate)) else .next s : Out) = .next s) := by
  refine ⟨fun hn => ?_, fun hn => if_neg fun h => absurd h.2 (Nat.not_le.mpr hn)⟩
  rw [if_pos ⟨hon, hn⟩, State.modInj_eq_putInj, InjChan.activate_eq]

theorem exec_ticksActivationExpiry {n : Nat} (h : (s.inj.get c).settings.map InjSettings.source = some (.ticks n)) :
    exec (.ticksActivationExpiry c) s = if (s.inj.get c).state ≠ .idle ∧ n ≤ (s.inj.get c).actCount + 1 then
      .next (s.modInj c (fun ch => { ch with actCount := 0 }.activate)) else .next s := by
  change execTicksActivationExpiry c s = _
  unfold execTicksActivationExpiry
  dsimp only
  rw [h]

theorem exec_framesActivationExpiry {n : Nat} (h : (s.inj.get c).settings.map InjSettings.source = some (.frames n)) :
    exec (.framesActivationExpiry c) s = if (s.inj.get c).state ≠ .idle ∧ n ≤ (s.inj.get c).actCount + 1 then
      .next (s.modInj c (fun ch => { ch with actCount := 0 }.activate)) else .next s := by
  change execFramesActivationExpiry c s = _
  unfold execFramesActivationExpiry
  dsimp only
  rw [h]

theorem exec_rateCountdownExpiry (h : (s.inj.get c).settings = some p) :
    exec (.rateCountdownExpiry c) s =
      if (s.inj.get c).state = .active ∧ (s.inj.get c).runOver = false ∧ p.mode = .rate ∧ (s.inj.get c).rateLeft ≤ 1 then
        .next (s.modInj c (fun ch => (ch.rateDue p).2.deferDue p (ch.rateDue p).1)) else .next s := by
  change execRateCountdownExpiry c s = _
  unfold execRateCountdownExpiry
  dsimp only
  rw [h]
  simp only [Bool.and_eq_true, Bool.not_eq_true', beq_iff_eq, decide_eq_true_eq, and_assoc]

theorem exec_scheduleGapExpiry (h : (s.inj.get c).settings = some p) :
    exec (.scheduleGapExpiry c) s =
      if (s.inj.get c).state = .active ∧ (s.inj.get c).runOver = false ∧ p.mode = .schedule ∧ (s.inj.get c).gap = 0 then
        .next (s.modInj c (fun ch => (ch.scheduleDue p s.schedAt).2.deferDue p (ch.scheduleDue p s.schedAt).1)) else .next s := by
  change execScheduleGapExpiry c s = _
  unfold execScheduleGapExpiry
  dsimp only
  rw [h]
  simp only [Bool.and_eq_true, Bool.not_eq_true', beq_iff_eq, and_assoc]

/-- Settles O19: each expiry by what its count makes fall due. -/
theorem channelExpiriesAct : Obligations.ChannelExpiriesAct := by
  refine ⟨fun s c n hon => ⟨fun h => ?_, fun h => ?_⟩, fun s c p hp => ⟨fun hact hover hm hr => ?_, fun hno => ?_⟩,
    fun s c p hp => ⟨fun hact hover hm hg => ?_, fun hno => ?_⟩⟩
  · rw [exec_ticksActivationExpiry h]
    exact State.activationExpiry n hon
  · rw [exec_framesActivationExpiry h]
    exact State.activationExpiry n hon
  · rw [exec_rateCountdownExpiry hp, if_pos ⟨hact, hover, hm, hr⟩, State.modInj_eq_putInj, InjChan.deferDue_eq,
      InjChan.rateDue_eq]
  · rw [exec_rateCountdownExpiry hp, if_neg]
    rintro ⟨h1, h2, h3, h4⟩
    rcases hno with h | h | h | h
    · exact h h1
    · exact Bool.false_ne_true (h2.symm.trans h)
    · exact h h3
    · omega
  · rw [exec_scheduleGapExpiry hp, if_pos ⟨hact, hover, hm, hg⟩, State.modInj_eq_putInj, InjChan.deferDue_eq,
      InjChan.scheduleDue_fst]
    obtain ⟨hst, hset, hcount, hdef⟩ := InjChan.scheduleDue_rest (s.inj.get c) p s.schedAt
    refine ⟨_, rfl, hst.trans hact, hset.trans hp, hcount, fun l => ?_, fun h1 h2 => ?_, fun h1 h2 => ?_, fun h1 h2 => ?_⟩
    · rw [Eight.get_gen, hdef]
    · rw [InjChan.scheduleDue_inside (by omega)]
      exact ⟨rfl, rfl, hg, hover, rfl⟩
    · rw [InjChan.scheduleDue_next h1 h2]
      exact ⟨rfl, rfl, rfl, hover, rfl⟩
    · rw [InjChan.scheduleDue_last h1 h2]
      split
      · next hagain => exact ⟨rfl, ⟨fun _ => hagain, fun _ => hover⟩, fun _ => ⟨rfl, rfl, rfl⟩⟩
      · next hend => exact ⟨rfl, ⟨fun h => Bool.noConfusion (h : true = false), fun h => absurd h hend⟩, fun h => Bool.noConfusion (h : true = false)⟩
  · rw [exec_scheduleGapExpiry hp, if_neg]
    rintro ⟨h1, h2, h3, h4⟩
    rcases hno with h | h | h | h
    · exact h h1
    · exact Bool.false_ne_true (h2.symm.trans h)
    · exact h h3
    · exact h h4

end Sys2Proof.Machine
end

section
/-! The transmit slot: what a lane's source sends, and that the other lanes' blocks leave it. -/

namespace Sys2Proof.Machine

variable {s t u : State} {l m : LaneNo} {c : ChanNo} {dues : Four (Option Injection)}

theorem Eight.map_set {α β : Type} (f : α → β) (v : Eight α) (i : Fin 8) (x : α) : (v.set i x).map f = (v.map f).set i (f x) :=
  Eight.ext_get fun j => by
    rw [Eight.get_map, Eight.get_set, Eight.get_set, Eight.get_map]
    split <;> rfl

theorem Four.ext_get {α : Type} {v w : Four α} (h : ∀ i, v.get i = w.get i) : v = w := by
  obtain ⟨a, b, c, d⟩ := v
  obtain ⟨a', b', c', d'⟩ := w
  exact Four.mk.injEq .. |>.mpr ⟨h 0, h 1, h 2, h 3⟩

/-! ### What a slot leaves alone -/

/-- A lane without what a transmit slot moves: its transmitter, its window and its run totals. -/
def Lane.unsent (L : Lane) : Lane := { L with tx := Lane.reset.tx, win := Lane.reset.win, run := Lane.reset.run }

/-- The part without what a lane's block of a slot moves. -/
def State.slotRest (s : State) : State :=
  { s with
    inj := Four.all InjChan.reset, link := Link.reset, lanes := s.lanes.map Lane.unsent, memFault := Four.all false
    egress := [], noticesLost := false }

theorem State.slotRest_modLane {f : Lane → Lane} (h : (f (s.lane l)).unsent = (s.lane l).unsent) :
    (s.modLane l f).slotRest = s.slotRest := by
  have hl : (s.lanes.set l (f (s.lane l))).map Lane.unsent = s.lanes.map Lane.unsent := by
    rw [Eight.map_set, h, State.lane, ← Eight.get_map Lane.unsent, Eight.set_get]
  exact congrArg (fun ls => { s.slotRest with lanes := ls }) hl

theorem State.slotRest_notify (n : Notice) : (s.notify n).slotRest = s.slotRest := by
  unfold State.notify
  split <;> rfl

theorem State.unsent_of_lanes (h : t.lanes.map Lane.unsent = s.lanes.map Lane.unsent) (l : LaneNo) :
    (t.lane l).unsent = (s.lane l).unsent := by
  have hl := congrArg (fun v => Eight.get v l) h
  rwa [Eight.get_map, Eight.get_map] at hl

theorem State.lane_unsent (h : t.slotRest = s.slotRest) (l : LaneNo) : (t.lane l).unsent = (s.lane l).unsent :=
  State.unsent_of_lanes (congrArg State.lanes h) l

/-- What one lane's block of a slot depends on besides that. -/
def State.ownSlot (l : LaneNo) (s : State) : Tx × RunTotals × Four (InjChan × Option Injection) × Option Link :=
  ((s.lane l).tx, (s.lane l).run, s.inj.map (fun ch => ({ ch with deferred := Eight.all none }, ch.deferred.get l)),
    if s.isMgmt l then some s.link else none)

/-- From `s` to `t` nothing is changed that the block of lane `l` depends on. -/
def State.Aside (l : LaneNo) (s t : State) : Prop := t.slotRest = s.slotRest ∧ t.ownSlot l = s.ownSlot l

namespace State.Aside

theorem refl (s : State) : s.Aside l s := ⟨rfl, rfl⟩

theorem trans (h : s.Aside l t) (k : t.Aside l u) : s.Aside l u := ⟨k.1.trans h.1, k.2.trans h.2⟩

theorem tx (h : s.Aside l t) : (t.lane l).tx = (s.lane l).tx := (congrArg Prod.fst h.2 :)

theorem run (h : s.Aside l t) : (t.lane l).run = (s.lane l).run := (congrArg (fun p => p.2.1) h.2 :)

theorem isMgmt (h : s.Aside l t) (m : LaneNo) : t.isMgmt m = s.isMgmt m := (congrArg (fun r : State => r.isMgmt m) h.1 :)

theorem link (h : s.Aside l t) (hm : s.isMgmt l = true) : t.link = s.link := by
  have h1 := congrArg (fun p => p.2.2.2) h.2
  simp only [State.ownSlot, h.isMgmt, hm, if_true] at h1
  exact Option.some.inj h1

theorem channel (h : s.Aside l t) (c : ChanNo) : { t.inj.get c with deferred := Eight.all none } =
      ({ s.inj.get c with deferred := Eight.all none } : InjChan) ∧
    (t.inj.get c).deferred.get l = (s.inj.get c).deferred.get l := by
  have h1 := congrArg (fun p => p.2.2.1.get c) h.2
  simp only [State.ownSlot, Four.get_map, Prod.mk.injEq] at h1
  exact h1

/-- A lane changed in what its own block depends on stays aside of another lane. -/
theorem modLane {f : Lane → Lane} (hm : m ≠ l) (h : (f (s.lane m)).unsent = (s.lane m).unsent) : s.Aside l (s.modLane m f) := by
  refine ⟨State.slotRest_modLane h, ?_⟩
  have hl : (s.modLane m f).lane l = s.lane l := by
    rw [State.lane_modLane, if_neg (Ne.symm hm)]
  unfold State.ownSlot
  rw [hl]
  rfl

theorem notify (n : Notice) : s.Aside l (s.notify n) := by
  refine ⟨State.slotRest_notify n, ?_⟩
  unfold State.notify
  split <;> rfl

theorem modInj {f : InjChan → InjChan} (hf : ∀ ch, { f ch with deferred := Eight.all none } = ({ ch with deferred := Eight.all none } : InjChan) ∧
    (f ch).deferred.get l = ch.deferred.get l) : s.Aside l (s.modInj c f) := by
  refine ⟨rfl, ?_⟩
  have hinj : (s.modInj c f).inj.map (fun ch => (({ ch with deferred := Eight.all none } : InjChan), ch.deferred.get l)) =
      s.inj.map (fun ch => (({ ch with deferred := Eight.all none } : InjChan), ch.deferred.get l)) :=
    Four.ext_get fun d => by
      rw [Four.get_map, Four.get_map, State.inj_modInj]
      split
      · next e => rw [(hf _).1, (hf _).2, e]
      · rfl
  exact congrArg (fun v => ((s.lane l).tx, (s.lane l).run, v, if s.isMgmt l then some s.link else none)) hinj

theorem setDeferred (hm : m ≠ l) (i : Option Injection) : s.Aside l (s.modInj c (fun ch => ch.setDeferred m i)) :=
  modInj fun ch => ⟨rfl, by rw [InjChan.setDeferred, Eight.get_set, if_neg (Ne.symm hm)]⟩

theorem readPattern (i : Nat) (byChecker : Bool) : s.Aside l (s.readPattern m i byChecker).2 := by
  have hmark : ∀ (u : State) (b : BankNo), u.Aside l (u.markSuspects b) := fun u b => by
    have hsus : ∀ L : Lane, (if L.win.isOpen && L.win.banks.get b && u.memFault.get b then
        { L with win := { L.win with suspect := true } } else L).unsent = L.unsent ∧
        (if L.win.isOpen && L.win.banks.get b && u.memFault.get b then
        { L with win := { L.win with suspect := true } } else L).tx = L.tx ∧
        (if L.win.isOpen && L.win.banks.get b && u.memFault.get b then
        { L with win := { L.win with suspect := true } } else L).run = L.run := fun L => by
      split <;> exact ⟨rfl, rfl, rfl⟩
    constructor
    · refine congrArg (fun ls => { u.slotRest with lanes := ls }) (Eight.ext_get fun k => ?_)
      rw [Eight.get_map, State.markSuspects, Eight.get_map, Eight.get_map]
      exact (hsus _).1
    · unfold State.ownSlot
      rw [show (u.markSuspects b).lane l = _ from Eight.get_map _ u.lanes l, (hsus _).2.1, (hsus _).2.2]
      rfl
  have hwin : s.Aside l (s.modWin m fun v => { v with banks := v.banks.set (bankOf i) true }) := by
    refine ⟨State.slotRest_modLane rfl, ?_⟩
    unfold State.ownSlot
    have htx : ((s.modWin m fun v => { v with banks := v.banks.set (bankOf i) true }).lane l).tx = (s.lane l).tx ∧
        ((s.modWin m fun v => { v with banks := v.banks.set (bankOf i) true }).lane l).run = (s.lane l).run := by
      rw [State.modWin, State.lane_modLane]
      split
      · next e =>
        subst e
        exact ⟨rfl, rfl⟩
      · exact ⟨rfl, rfl⟩
    rw [htx.1, htx.2]
    rfl
  refine trans hwin (trans ?_ (hmark _ _))
  split
  · exact refl _
  · exact trans (t := { s.modWin m fun v => { v with banks := v.banks.set (bankOf i) true } with
        memFault := (s.modWin m fun v => { v with banks := v.banks.set (bankOf i) true }).memFault.set (bankOf i) true })
      ⟨rfl, rfl⟩ (notify _)

end State.Aside

/-! ### What a source sends -/

/-- The block a lane's source supplies, and the transmitter after it (R3, R4, R20 to R22, R32). -/
def State.sourced (s : State) (l : LaneNo) : Block × Tx :=
  let t := (s.lane l).tx
  if s.markerSlot l then (buildMarker (s.markerOf l), t)
  else if t.state = .idle ∨ !s.configured then (filler, t)
  else if t.mode = .pattern then
    if patIsUser (s.txPat l).kind then
      (inverted (s.txPat l).invert (patRead s.patMem ((s.txPat l).start + t.phase)).data,
        { t with phase := nextPhase t.phase (s.txPat l).len })
    else
      (inverted (s.txPat l).invert (prbsBlock (s.txPat l).kind t.stages).1,
        { t with stages := (prbsBlock (s.txPat l).kind t.stages).2 })
  else
    match t.buf with
    | [] => (filler, { t with underrun := t.underrun.add 1 })
    | b :: rest => (b, { t with buf := rest })

theorem State.lane_modTx_same (f : Tx → Tx) : (s.modTx l f).lane l = { s.lane l with tx := f (s.lane l).tx } := by
  rw [State.modTx, State.lane_modLane, if_pos rfl]

theorem State.octetPlaced_lanes : s.octetPlaced.lanes = s.lanes := by
  unfold State.octetPlaced
  split <;> rfl

/-- A source supplies `sourced`, and does nothing else to its lane's run totals and injections. -/
theorem State.sourceBlock_eq (s : State) (l : LaneNo) :
    (s.sourceBlock l).1 = (s.sourced l).1 ∧ ((s.sourceBlock l).2.lane l).tx = (s.sourced l).2 ∧
    (s.sourceBlock l).2.slotRest = s.slotRest ∧ ((s.sourceBlock l).2.lane l).run = (s.lane l).run ∧
    (s.sourceBlock l).2.inj = s.inj ∧
    (s.sourceBlock l).2.link = (if s.markerSlot l && s.isMgmt l then s.octetPlaced else s).link := by
  unfold State.sourceBlock State.sourced
  dsimp only
  split
  · next hms =>
    rw [hms, Bool.true_and]
    have hlane : (if s.isMgmt l then s.octetPlaced else s).lane l = s.lane l := by
      split
      · rw [State.lane, State.octetPlaced_lanes, State.lane]
      · rfl
    refine ⟨rfl, by rw [hlane], ?_, by rw [hlane], ?_, rfl⟩
    all_goals
      unfold State.octetPlaced
      split
      · split <;> rfl
      · rfl
  · next hms =>
    rw [Bool.not_eq_true] at hms
    rw [hms, Bool.false_and, if_neg Bool.false_ne_true]
    split
    · exact ⟨rfl, rfl, rfl, rfl, rfl, rfl⟩
    · split
      · unfold State.generate
        dsimp only
        split
        · have hread := State.Aside.readPattern (s := s) (l := l) (m := l) ((s.txPat l).start + (s.lane l).tx.phase) false
          have hfix := State.readPattern_fixed s l ((s.txPat l).start + (s.lane l).tx.phase) false
          have hdata : (s.readPattern l ((s.txPat l).start + (s.lane l).tx.phase) false).1 =
            (patRead s.patMem ((s.txPat l).start + (s.lane l).tx.phase)).data := rfl
          rw [hdata]
          generalize (s.readPattern l ((s.txPat l).start + (s.lane l).tx.phase) false).2 = u at hread hfix
          refine ⟨rfl, ?_, (State.slotRest_modLane rfl).trans hread.1, ?_, (congrArg Fixed.inj hfix :), (congrArg Fixed.link hfix :)⟩
          · rw [State.lane_modTx_same, hread.tx]
          · rw [State.lane_modTx_same]
            exact hread.run
        · refine ⟨rfl, ?_, State.slotRest_modLane rfl, ?_, rfl, rfl⟩
          · rw [State.lane_modTx_same]
          · rw [State.lane_modTx_same]
      · unfold State.takePass
        cases hb : (s.lane l).tx.buf with
        | nil =>
          refine ⟨rfl, ?_, State.slotRest_modLane rfl, ?_, rfl, rfl⟩
          · rw [State.lane_modTx_same]
            exact congrArg (fun b => { (s.lane l).tx with buf := b, underrun := (s.lane l).tx.underrun.add 1 }) hb
          · rw [State.lane_modTx_same]
        | cons b rest =>
          refine ⟨rfl, ?_, State.slotRest_modLane rfl, ?_, rfl, rfl⟩
          · rw [State.lane_modTx_same]
          · rw [State.lane_modTx_same]

/-- A lane's marker is made of what stands aside of the other lanes. -/
theorem State.markerOf_of (hr : t.slotRest = s.slotRest) (htx : (t.lane l).tx = (s.lane l).tx)
    (hk : s.isMgmt l = true → t.link = s.link) : t.markerOf l = s.markerOf l := by
  have hmg : t.isMgmt l = s.isMgmt l := (congrArg (fun r : State => r.isMgmt l) hr :)
  have hhs : t.handshake = s.handshake := (congrArg State.handshake hr :)
  have hmap : t.map l = s.map l := (congrArg (fun r : State => r.map l) hr :)
  have hpat : t.txPat l = s.txPat l := (congrArg (fun r : State => r.txPat l) hr :)
  have hseq : t.frameSeq = s.frameSeq := (congrArg State.frameSeq hr :)
  have hlane := State.lane_unsent hr l
  have hck : (t.lane l).ck = (s.lane l).ck := (congrArg Lane.ck hlane :)
  have hal : (t.lane l).alarm = (s.lane l).alarm := (congrArg Lane.alarm hlane :)
  have hak : (t.lane l).alarmKnown = (s.lane l).alarmKnown := (congrArg Lane.alarmKnown hlane :)
  have hrep : t.reportedAlarm l = s.reportedAlarm l := by
    unfold State.reportedAlarm State.ckOff
    rw [hck, hal, hak]
  have hsend : (if t.isMgmt l then t.link.sendFields t.handshake else SendFields.zero) =
      if s.isMgmt l then s.link.sendFields s.handshake else SendFields.zero := by
    rw [hmg, hhs]
    split
    · next h => rw [hk h]
    · rfl
  unfold State.markerOf State.markerPhase
  rw [hsend, hck, hmap, hpat, hseq, hrep, htx]

theorem State.sourced_of (hr : t.slotRest = s.slotRest) (htx : (t.lane l).tx = (s.lane l).tx)
    (hk : s.isMgmt l = true → t.link = s.link) : t.sourced l = s.sourced l := by
  have hms : t.markerSlot l = s.markerSlot l := by
    unfold State.markerSlot
    rw [htx, show t.slotPos = s.slotPos from (congrArg State.slotPos hr :)]
  have hpat : t.txPat l = s.txPat l := (congrArg (fun r : State => r.txPat l) hr :)
  have hmem : t.patMem = s.patMem := (congrArg State.patMem hr :)
  have hc : t.configured = s.configured := (congrArg State.configured hr :)
  unfold State.sourced
  rw [hms, hpat, hmem, hc, State.markerOf_of hr htx hk, htx]

theorem State.Aside.markerSlot (h : s.Aside l t) : t.markerSlot l = s.markerSlot l := by
  unfold State.markerSlot
  rw [h.tx, show t.slotPos = s.slotPos from (congrArg State.slotPos h.1 :)]

/-! ### The injection unit at one lane's block -/

/-- What an injection at a lane's block leaves besides: every transmitter and the marker channel. -/
def State.sending (s : State) : State × Eight Tx × Link := (s.slotRest, s.lanes.map Lane.tx, s.link)

theorem State.tx_of_sending (h : t.sending = s.sending) (l : LaneNo) : (t.lane l).tx = (s.lane l).tx := by
  have := congrArg (fun p => p.2.1.get l) h
  rwa [State.sending, State.sending, Eight.get_map, Eight.get_map] at this

theorem State.sending_report (f : Counts → Counts) : (s.report l f).sending = s.sending := by
  have hr : (s.report l f).slotRest = s.slotRest := State.slotRest_modLane rfl
  have htx : (s.lanes.set l ((fun L : Lane => { L with
      win := if L.win.isOpen then { L.win with counts := f L.win.counts } else L.win
      run := { L.run with counts := f L.run.counts } }) (s.lane l))).map Lane.tx = s.lanes.map Lane.tx := by
    rw [Eight.map_set]
    exact (congrArg _ (Eight.get_map Lane.tx s.lanes l).symm).trans (Eight.set_get _ _)
  exact congrArg₂ (fun r v => (r, v, s.link)) hr htx

theorem arbitrateChan_sending (l : LaneNo) (ms : Bool) (dues : Four (Option Injection)) (w : SlotWork) (c : ChanNo) :
    (arbitrateChan l ms dues w c).s.sending = w.s.sending ∧ ∀ m, l ≠ m → w.s.Aside m (arbitrateChan l ms dues w c).s := by
  unfold arbitrateChan
  split
  · exact ⟨rfl, fun _ _ => .refl _⟩
  · split
    · exact ⟨rfl, fun _ hm => .setDeferred hm _⟩
    · exact ⟨rfl, fun _ hm => .setDeferred hm _⟩
    · exact ⟨State.sending_report _, fun _ hm => .trans (.setDeferred hm _) (.modLane hm rfl)⟩

theorem arbitrate_sending (s : State) (l : LaneNo) (ms : Bool) (dues : Four (Option Injection)) (b : Block) :
    (arbitrate s l ms dues b).2.sending = s.sending ∧ ∀ m, l ≠ m → s.Aside m (arbitrate s l ms dues b).2 := by
  have h : ∀ (cs : List ChanNo) (w : SlotWork), (cs.foldl (arbitrateChan l ms dues) w).s.sending = w.s.sending ∧
      ∀ m, l ≠ m → w.s.Aside m (cs.foldl (arbitrateChan l ms dues) w).s := by
    intro cs
    induction cs with
    | nil => exact fun _ => ⟨rfl, fun _ _ => .refl _⟩
    | cons c cs ih =>
      intro w
      obtain ⟨h1, h2⟩ := arbitrateChan_sending l ms dues w c
      obtain ⟨h3, h4⟩ := ih (arbitrateChan l ms dues w c)
      exact ⟨h3.trans h1, fun m hm => (h2 m hm).trans (h4 m hm)⟩
  exact h chansAll ⟨b, false, s⟩

/-- No channel has an injection for the lane: the block goes out as it is. -/
theorem arbitrate_without {ms : Bool} {b : Block} (h : ∀ c, (s.inj.get c).candidate (dues.get c) l = none) :
    arbitrate s l ms dues b = (b, s) := by
  have hchan : ∀ c : ChanNo, arbitrateChan l ms dues ⟨b, false, s⟩ c = ⟨b, false, s⟩ := fun c => by
    unfold arbitrateChan
    dsimp only
    rw [h c]
  have hall : ∀ cs : List ChanNo, cs.foldl (arbitrateChan l ms dues) ⟨b, false, s⟩ = ⟨b, false, s⟩ := by
    intro cs
    induction cs with
    | nil => rfl
    | cons c cs ih => rw [List.foldl_cons, hchan, ih]
  unfold arbitrate
  rw [hall]

/-! ### The lanes of a slot -/

theorem State.sourceBlock_aside (hm : m ≠ l) : s.Aside l (s.sourceBlock m).2 := by
  unfold State.sourceBlock
  split
  · split
    · next hmg =>
      have hl : s.isMgmt l = false := by
        unfold State.isMgmt at hmg ⊢
        cases hc : s.chan with
        | none => rfl
        | some k =>
          rw [hc] at hmg
          have hk : k.lane = m := beq_iff_eq.mp hmg
          exact beq_eq_false_iff_ne.mpr (hk ▸ hm)
      refine ⟨?_, ?_⟩
      · unfold State.octetPlaced
        split <;> rfl
      · unfold State.octetPlaced
        split
        · unfold State.ownSlot
          rw [show (s.modLink Link.advance).isMgmt l = s.isMgmt l from rfl, hl]
          rfl
        · rfl
    · exact .refl _
  · split
    · exact .refl _
    · split
      · unfold State.generate
        dsimp only
        split
        · exact .trans (.readPattern _ _) (.modLane hm rfl)
        · exact .modLane hm rfl
      · unfold State.takePass
        split
        · exact .modLane hm rfl
        · exact .modLane hm rfl

/-- A lane's block and turn leave another lane's aside. -/
theorem State.laneSlot_aside (w : Eight Block × State) (hm : m ≠ l) :
    (State.laneSlot dues w m).1.get l = w.1.get l ∧ w.2.Aside l (State.laneSlot dues w m).2 := by
  refine ⟨?_, .trans (State.sourceBlock_aside hm) ((arbitrate_sending _ m _ _ _).2 l hm)⟩
  unfold State.laneSlot
  dsimp only
  rw [Eight.get_set, if_neg (Ne.symm hm)]

/-- A walk over the lanes, seen from one lane: what the other lanes' turns keep holds before its turn and after it. -/
theorem lanesAll_turn {σ : Type} {R : σ → σ → Prop} (hrefl : ∀ w, R w w) (htrans : ∀ {w x y}, R w x → R x y → R w y)
    {f : σ → LaneNo → σ} (hf : ∀ (w : σ) (m : LaneNo), m ≠ l → R w (f w m)) (w : σ) :
    ∃ x, R w x ∧ R (f x l) (lanesAll.foldl f w) := by
  have skip : ∀ (ls : List LaneNo), l ∉ ls → ∀ w, R w (ls.foldl f w) := by
    intro ls
    induction ls with
    | nil => exact fun _ w => hrefl w
    | cons m ls ih =>
      intro hl w
      rw [List.mem_cons, not_or] at hl
      exact htrans (hf w m (Ne.symm hl.1)) (ih hl.2 _)
  obtain ⟨as, bs, e⟩ := List.append_of_mem (mem_lanesAll l)
  have hn : lanesAll.Nodup := by decide
  rw [e, List.nodup_middle, List.nodup_cons, List.mem_append, not_or] at hn
  refine ⟨as.foldl f w, skip as hn.1.1 w, ?_⟩
  rw [e, List.foldl_append, List.foldl_cons]
  exact skip bs hn.1.2 _

/-- One slot on the eight lanes, the channels' settling still to come. -/
def State.slotSent (u : State) : Eight Block × State :=
  lanesAll.foldl (State.laneSlot u.countSlot.1) (Eight.all 0, u.countSlot.2)

/-- The state in which a slot's sources stand. -/
def State.slotStart (s : State) : State := if s.slotPos = 0 then s.frameStart else s

/-- The channels settled after a slot. -/
def State.chansSettled (s : State) : State := chansAll.foldl State.settleChan s

theorem State.sendSlot_eq (s : State) : s.sendSlot = { s.slotStart.slotSent.2.chansSettled with
    slotOut := some s.slotStart.slotSent.1
    slotPos := if s.slotStart.slotSent.2.chansSettled.slotPos + 1 < 128 then s.slotStart.slotSent.2.chansSettled.slotPos + 1 else 0 } := rfl

/-- One lane's block of a slot: its source's, by the injection unit. -/
theorem State.slotSent_lane (u : State) (l : LaneNo) : ∃ w r : State, u.countSlot.2.Aside l w ∧ r.inj = w.inj ∧
    r.slotRest = u.slotRest ∧ (r.lane l).tx = (u.sourced l).2 ∧ (r.lane l).run = (u.lane l).run ∧
    u.slotSent.1.get l = (arbitrate r l (u.markerSlot l) u.countSlot.1 (u.sourced l).1).1 ∧
    (arbitrate r l (u.markerSlot l) u.countSlot.1 (u.sourced l).1).2.Aside l u.slotSent.2 ∧
    (u.isMgmt l = true → r.link = (if u.markerSlot l then u.octetPlaced else u).link) := by
  obtain ⟨⟨v, w⟩, ⟨-, hw⟩, hv, hafter⟩ := lanesAll_turn (l := l) (σ := Eight Block × State)
    (R := fun w x => x.1.get l = w.1.get l ∧ w.2.Aside l x.2) (fun w => ⟨rfl, .refl _⟩)
    (fun h k => ⟨k.1.trans h.1, h.2.trans k.2⟩) (f := State.laneSlot u.countSlot.1)
    (fun w m hm => State.laneSlot_aside w hm) (Eight.all 0, u.countSlot.2)
  obtain ⟨hb, htx, hrest, hrun, hinj, hlink⟩ := State.sourceBlock_eq w l
  have hsrc : w.sourced l = u.sourced l := State.sourced_of (s := u) (hw.1 :) (hw.tx :) (hw.link :)
  have hms : w.markerSlot l = u.markerSlot l := hw.markerSlot
  rw [hsrc] at hb htx
  have hslot : State.laneSlot u.countSlot.1 (v, w) l =
      (v.set l (arbitrate (w.sourceBlock l).2 l (u.markerSlot l) u.countSlot.1 (u.sourced l).1).1,
        (arbitrate (w.sourceBlock l).2 l (u.markerSlot l) u.countSlot.1 (u.sourced l).1).2) := by
    unfold State.laneSlot
    dsimp only
    rw [hb, hms]
  rw [hslot] at hv hafter
  refine ⟨w, (w.sourceBlock l).2, hw, hinj, hrest.trans hw.1, htx, hrun.trans hw.run, ?_, hafter, fun hmg => ?_⟩
  · exact hv.trans (by rw [Eight.get_set, if_pos rfl])
  · have hwl : w.link = u.link := hw.link hmg
    have hup : w.handshake = u.handshake := (congrArg State.handshake hw.1 :)
    have hmg' : w.isMgmt l = true := (hw.isMgmt l).trans hmg
    rw [hlink, hms, hmg', Bool.and_true]
    unfold State.octetPlaced
    rw [hwl, hup]
    split
    · split
      · exact congrArg Link.advance hwl
      · exact hwl
    · exact hwl

end Sys2Proof.Machine
end

section
/-! TRANSMIT_SLOT: transmit frame boundaries, payload slots and marker slots. -/

namespace Sys2Proof.Machine

variable {s t u : State} {l m : LaneNo} {c : ChanNo} {dues : Four (Option Injection)}

/-! ### The channels' settling -/

/-- The part without what the channels' settling moves. -/
def State.unsettled (s : State) : State := { s with inj := Four.all InjChan.reset, egress := [], noticesLost := false }

theorem State.unsettled_notify (n : Notice) : (s.notify n).unsettled = s.unsettled := by
  unfold State.notify
  split <;> rfl

theorem State.unsettled_endChannel (r : EndReason) : (s.endChannel c r).unsettled = s.unsettled := by
  unfold State.endChannel
  dsimp only
  split
  · rfl
  · split
    · exact State.unsettled_notify _
    · rfl

theorem State.unsettled_settleChan : (s.settleChan c).unsettled = s.unsettled := by
  unfold State.settleChan
  dsimp only
  split
  · rfl
  · split
    · rfl
    · exact ite_keeps (P := fun t => t.unsettled = s.unsettled) (fun _ => State.unsettled_endChannel _) fun _ => rfl

theorem State.unsettled_chansSettled : s.chansSettled.unsettled = s.unsettled :=
  State.unsettled_settleChan.trans (State.unsettled_settleChan.trans (State.unsettled_settleChan.trans State.unsettled_settleChan))

/-! ### Frame boundaries -/

theorem Tx.boundary_starts {t : Tx} (h : t.pendStart = true) (framed : Bool) (d : PatDesc) :
    t.boundary framed d = { t with
      framing := if framed then .framed else .raw, state := .running, mode := t.pendMode.getD t.mode, pendStart := false
      pendMode := none, buf := []
      stages := if t.pendMode.getD t.mode = .pattern then BitVec.ofNat 31 d.seed else t.stages
      phase := if t.pendMode.getD t.mode = .pattern then 0 else t.phase } := by
  unfold Tx.boundary Tx.start
  dsimp only
  rw [if_pos h]
  generalize t.pendMode.getD t.mode = m
  by_cases hm : m = .pattern
  · rw [if_pos hm, if_pos hm, if_pos hm]
    rfl
  · rw [if_neg hm, if_neg hm, if_neg hm]

theorem Tx.boundary_stops {t : Tx} (h : t.pendStart = false) (hs : t.pendStop = true) (framed : Bool) (d : PatDesc) :
    t.boundary framed d = { t with
      framing := if framed then .framed else .raw, state := .idle, mode := t.pendMode.getD t.mode, pendStop := false
      pendMode := none, buf := [], drops := t.drops.add t.buf.length } := by
  unfold Tx.boundary
  dsimp only
  rw [h, if_neg Bool.false_ne_true, if_pos hs]
  rfl

/-- The mode taken up by a RUNNING transmitter. -/
theorem Tx.boundary_changes {t : Tx} (h : t.pendStart = false) (hs : t.pendStop = false) (hrun : t.state = .running)
    (hm : t.pendMode.getD t.mode ≠ t.mode) (framed : Bool) (d : PatDesc) :
    t.boundary framed d = { t with
      framing := if framed then .framed else .raw, mode := t.pendMode.getD t.mode, pendMode := none, buf := []
      stages := if t.pendMode.getD t.mode = .pattern then BitVec.ofNat 31 d.seed else t.stages
      phase := if t.pendMode.getD t.mode = .pattern then 0 else t.phase
      drops := t.drops.add t.buf.length } := by
  unfold Tx.boundary Tx.takeMode
  dsimp only
  rw [h, hs, if_neg Bool.false_ne_true, if_neg Bool.false_ne_true]
  cases hp : t.pendMode with
  | none =>
    rw [hp] at hm
    exact absurd rfl hm
  | some m =>
    rw [hp, Option.getD_some] at hm
    dsimp only
    rw [if_pos ⟨hrun, hm⟩, Option.getD_some]
    by_cases hpat : m = .pattern
    · rw [if_pos hpat, if_pos hpat, if_pos hpat]
      rfl
    · rw [if_neg hpat, if_neg hpat, if_neg hpat]

theorem Tx.boundary_stays {t : Tx} (h : t.pendStart = false) (hs : t.pendStop = false)
    (hm : t.state = .idle ∨ t.pendMode.getD t.mode = t.mode) (framed : Bool) (d : PatDesc) :
    t.boundary framed d = { t with
      framing := if framed then .framed else .raw, mode := t.pendMode.getD t.mode, pendMode := none } := by
  unfold Tx.boundary Tx.takeMode
  dsimp only
  rw [h, hs, if_neg Bool.false_ne_true, if_neg Bool.false_ne_true]
  cases hp : t.pendMode with
  | none => rfl
  | some m =>
    rw [hp, Option.getD_some] at hm
    have hno : ¬(t.state = .running ∧ m ≠ t.mode) := by
      rintro ⟨h1, h2⟩
      rcases hm with h3 | h3
      · exact absurd (h1.symm.trans h3) (by decide)
      · exact h2 h3
    dsimp only
    rw [if_neg hno]
    rfl

/-- R2, R3, R114: a transmit frame boundary. -/
theorem State.frameStart_eq (s : State) :
    s.frameStart.slotRest = { s.slotRest with
      frameSeq := if s.firstFrame then s.frameSeq else s.frameSeq + 1, firstFrame := false } ∧
    s.frameStart.link = s.link ∧ s.frameStart.inj = s.inj.map InjChan.onFrame ∧
    ∀ l, s.frameStart.lane l = { s.lane l with tx := (s.lane l).tx.boundary (s.rxFramed l) (s.txPat l) } := by
  have hframe : s.frameStart = State.forLanes { s with
      frameSeq := if s.firstFrame then s.frameSeq else s.frameSeq + 1, firstFrame := false, inj := s.inj.map InjChan.onFrame }
      (fun l s => s.modTx l fun t => t.boundary (s.rxFramed l) (s.txPat l)) := rfl
  rw [hframe]
  generalize hx : ({ s with
      frameSeq := if s.firstFrame then s.frameSeq else s.frameSeq + 1, firstFrame := false
      inj := s.inj.map InjChan.onFrame } : State) = x
  have hrest : (x.forLanes fun l s => s.modTx l fun t => t.boundary (s.rxFramed l) (s.txPat l)).slotRest = x.slotRest ∧
      (x.forLanes fun l s => s.modTx l fun t => t.boundary (s.rxFramed l) (s.txPat l)).link = x.link ∧
      (x.forLanes fun l s => s.modTx l fun t => t.boundary (s.rxFramed l) (s.txPat l)).inj = x.inj :=
    State.forLanes_keeps (P := fun y => y.slotRest = x.slotRest ∧ y.link = x.link ∧ y.inj = x.inj)
      (fun _ h => ⟨(State.slotRest_modLane rfl).trans h.1, h.2⟩) ⟨rfl, rfl, rfl⟩
  have hlane : ∀ l, (x.forLanes fun l s => s.modTx l fun t => t.boundary (s.rxFramed l) (s.txPat l)).lane l =
      { x.lane l with tx := (x.lane l).tx.boundary (x.rxFramed l) (x.txPat l) } := fun l => by
    obtain ⟨y, ⟨hy1, hy2⟩, -, hz⟩ := State.forLanes_turn (l := l)
      (R := fun s t => t.slotRest = s.slotRest ∧ t.lane l = s.lane l) (fun _ => ⟨rfl, rfl⟩)
      (fun h k => ⟨k.1.trans h.1, k.2.trans h.2⟩)
      (f := fun l s => s.modTx l fun t => t.boundary (s.rxFramed l) (s.txPat l))
      (fun {s} m hm => ⟨State.slotRest_modLane rfl, by rw [State.modTx, State.lane_modLane, if_neg (Ne.symm hm)]⟩)
      (s := x)
    have hr : y.rxFramed l = x.rxFramed l := (congrArg (fun r : State => r.rxFramed l) hy1 :)
    have hp : y.txPat l = x.txPat l := (congrArg (fun r : State => r.txPat l) hy1 :)
    rw [hz, State.lane_modTx_same, hy2, hr, hp]
  generalize (x.forLanes fun l s => s.modTx l fun t => t.boundary (s.rxFramed l) (s.txPat l)) = z at hrest hlane
  subst hx
  exact ⟨hrest.1, hrest.2.1, hrest.2.2, hlane⟩

theorem Tx.boundary_framing (t : Tx) (framed : Bool) (d : PatDesc) :
    (t.boundary framed d).framing = if framed then .framed else .raw := by
  cases h : t.pendStart with
  | true => rw [Tx.boundary_starts h]
  | false =>
    cases hs : t.pendStop with
    | true => rw [Tx.boundary_stops h hs]
    | false =>
      by_cases hm : t.state = .idle ∨ t.pendMode.getD t.mode = t.mode
      · rw [Tx.boundary_stays h hs hm]
      · rw [not_or] at hm
        have hrun : t.state = .running := by
          cases hst : t.state with
          | idle => exact absurd hst hm.1
          | running => rfl
        rw [Tx.boundary_changes h hs hrun hm.2]

/-- The mode after a boundary, in every case. -/
theorem Tx.boundary_mode (t : Tx) (framed : Bool) (d : PatDesc) :
    (t.boundary framed d).mode = t.pendMode.getD t.mode ∧ (t.boundary framed d).pendMode = none ∧
    (t.pendStart = false → t.pendStop = false → (t.boundary framed d).state = t.state) := by
  cases h : t.pendStart with
  | true =>
    rw [Tx.boundary_starts h]
    exact ⟨rfl, rfl, fun h => Bool.noConfusion h⟩
  | false =>
    cases hs : t.pendStop with
    | true =>
      rw [Tx.boundary_stops h hs]
      exact ⟨rfl, rfl, fun _ h => Bool.noConfusion h⟩
    | false =>
      by_cases hm : t.state = .idle ∨ t.pendMode.getD t.mode = t.mode
      · rw [Tx.boundary_stays h hs hm]
        exact ⟨rfl, rfl, fun _ _ => rfl⟩
      · rw [not_or] at hm
        have hrun : t.state = .running := by
          cases hst : t.state with
          | idle => exact absurd hst hm.1
          | running => rfl
        rw [Tx.boundary_changes h hs hrun hm.2]
        exact ⟨rfl, rfl, fun _ _ => rfl⟩

/-! ### A whole slot -/

theorem State.slotStart_rest (s : State) : s.slotStart.slotRest = { s.slotRest with
      frameSeq := if s.slotPos = 0 ∧ s.firstFrame = false then s.frameSeq + 1 else s.frameSeq
      firstFrame := if s.slotPos = 0 then false else s.firstFrame } ∧ s.slotStart.link = s.link := by
  unfold State.slotStart
  by_cases hp : s.slotPos = 0
  · rw [if_pos hp, if_pos hp]
    refine ⟨(State.frameStart_eq s).1.trans ?_, (State.frameStart_eq s).2.1⟩
    cases hf : s.firstFrame with
    | true => rw [if_pos rfl, if_neg fun h => Bool.noConfusion h.2]
    | false => rw [if_neg Bool.false_ne_true, if_pos ⟨hp, rfl⟩]
  · rw [if_neg hp, if_neg hp, if_neg fun h => hp h.1]
    exact ⟨rfl, rfl⟩

theorem State.slotSent_rest (u : State) : u.slotSent.2.slotRest = u.slotRest := by
  obtain ⟨w, r, -, -, hr, -, -, -, hafter, -⟩ := State.slotSent_lane u 0
  exact hafter.1.trans ((congrArg Prod.fst (arbitrate_sending _ _ _ _ _).1).trans hr)

/-- A lane's transmitter after a slot is its source's. -/
theorem State.slotSent_tx (u : State) (l : LaneNo) : (u.slotSent.2.lane l).tx = (u.sourced l).2 := by
  obtain ⟨w, r, -, -, -, htx, -, -, hafter, -⟩ := State.slotSent_lane u l
  exact hafter.tx.trans ((State.tx_of_sending (arbitrate_sending _ _ _ _ _).1 l).trans htx)

theorem State.lanes_chansSettled : s.chansSettled.lanes = s.lanes := (congrArg State.lanes State.unsettled_chansSettled :)

theorem State.link_chansSettled : s.chansSettled.link = s.link := (congrArg State.link State.unsettled_chansSettled :)

theorem State.exec_transmitSlot (h : s.resetPin = false) : exec .transmitSlot s = .next s.sendSlot := by
  change execTransmitSlot s = _
  unfold execTransmitSlot
  rw [h, if_neg Bool.false_ne_true]

/-- The state after a slot, and the blocks sent. -/
theorem State.sendSlot_rest (s : State) : s.sendSlot.lanes = s.slotStart.slotSent.2.lanes ∧
    s.sendSlot.link = s.slotStart.slotSent.2.link ∧ s.sendSlot.slotOut = some s.slotStart.slotSent.1 ∧
    { s.sendSlot with slotPos := s.slotPos, slotOut := s.slotOut }.slotRest = s.slotStart.slotRest ∧
    s.sendSlot.slotPos = if s.slotPos < 127 then s.slotPos + 1 else 0 := by
  have hu := State.unsettled_chansSettled (s := s.slotStart.slotSent.2)
  have hr := State.slotSent_rest s.slotStart
  have h0 := (State.slotStart_rest s).1
  have hlanes := State.lanes_chansSettled (s := s.slotStart.slotSent.2)
  have hlink := State.link_chansSettled (s := s.slotStart.slotSent.2)
  rw [State.sendSlot_eq]
  generalize s.slotStart.slotSent.2.chansSettled = x at hu hlanes hlink ⊢
  generalize s.slotStart.slotSent.2 = y at hu hr hlanes hlink ⊢
  generalize s.slotStart = z at hr h0 ⊢
  have hrest : x.slotRest = z.slotRest := (congrArg State.slotRest hu :).trans hr
  have hpos : x.slotPos = s.slotPos := (congrArg State.slotPos hrest :).trans (congrArg State.slotPos h0 :)
  have hout : x.slotOut = s.slotOut := (congrArg State.slotOut hrest :).trans (congrArg State.slotOut h0 :)
  refine ⟨hlanes, hlink, rfl, ?_, ?_⟩
  · rw [← hpos, ← hout]
    exact hrest
  · dsimp only
    rw [hpos]
    exact if_congr (by omega) rfl rfl

theorem State.sendSlot_tx (s : State) (l : LaneNo) : (s.sendSlot.lane l).tx = (s.slotStart.sourced l).2 := by
  rw [State.lane, (State.sendSlot_rest s).1]
  exact State.slotSent_tx s.slotStart l

theorem State.slotStart_of_zero (h : s.slotPos = 0) : s.slotStart = s.frameStart := if_pos h

/-- A source moves the generator, the pass buffer and its underruns alone. -/
theorem State.sourced_tx (s : State) (l : LaneNo) : ∃ st ph b n, (s.sourced l).2 = { (s.lane l).tx with
    stages := st, phase := ph, buf := b, underrun := n } ∧ ((s.lane l).tx.buf = [] → b = []) := by
  unfold State.sourced
  dsimp only
  split
  · exact ⟨_, _, _, _, rfl, id⟩
  · split
    · exact ⟨_, _, _, _, rfl, id⟩
    · split
      · split
        · exact ⟨_, _, _, _, rfl, id⟩
        · exact ⟨_, _, _, _, rfl, id⟩
      · split
        · exact ⟨_, _, _, _, rfl, id⟩
        · next h => exact ⟨_, _, _, _, rfl, fun h' => absurd (h.symm.trans h') nofun⟩

theorem State.frameStart_framed (hp : s.slotPos = 0) (l : LaneNo) : s.frameStart.markerSlot l = s.rxFramed l := by
  have hpos : s.frameStart.slotPos = s.slotPos := (congrArg State.slotPos (State.frameStart_eq s).1 :)
  unfold State.markerSlot
  rw [hpos, hp, (State.frameStart_eq s).2.2.2 l, Tx.boundary_framing]
  cases s.rxFramed l <;> rfl

/-- Settles O9: a slot by its lanes' sources, a boundary by the changes that were pending. -/
theorem transmitSlotAdvances : Obligations.TransmitSlotAdvances := by
  refine ⟨fun s => ⟨fun h => ?_, fun h => ?_⟩, fun s t l hr hp he => ?_, fun s l m fr st ph hm hfr hst hph => ?_,
    fun s t l hr hp hf he => ?_⟩
  · change execTransmitSlot s = _
    unfold execTransmitSlot
    rw [h, if_pos rfl]
  · obtain ⟨hlanes, -, hout, hrest, hpos⟩ := State.sendSlot_rest s
    obtain ⟨h0, -⟩ := State.slotStart_rest s
    have hall := hrest.trans h0
    rw [State.exec_transmitSlot h]
    generalize s.sendSlot = t at hout hall hpos ⊢
    have hfix : ({ t with
        slotPos := s.slotPos, frameSeq := s.frameSeq, firstFrame := s.firstFrame, inj := s.inj, link := s.link
        slotOut := s.slotOut } : State).fixed = s.fixed :=
      (congrArg (fun r : State => ({ r with
        frameSeq := s.frameSeq, firstFrame := s.firstFrame, inj := s.inj, link := s.link } : State).fixed) hall :)
    refine ⟨t, _, rfl, hout, hpos, (congrArg State.frameSeq hall :), (congrArg State.firstFrame hall :),
      hfix, (congrArg State.capture hall :), (congrArg State.jobs hall :), fun g => (congrArg (fun r : State => r.group g) hall :), fun l => ?_⟩
    have hl := State.unsent_of_lanes (t := t) (s := s) (congrArg State.lanes hall :) l
    exact ⟨(congrArg Lane.al hl :), (congrArg Lane.ck hl :), (congrArg Lane.hist hl :), (congrArg Lane.rxBuf hl :),
      (congrArg Lane.remote hl :)⟩
  · obtain rfl := Host.Outcome.next.inj ((State.exec_transmitSlot hr).symm.trans he)
    rw [State.sendSlot_tx, State.slotStart_of_zero hp]
    obtain ⟨st, ph, b, n, htx, hb⟩ := State.sourced_tx s.frameStart l
    rw [(State.frameStart_eq s).2.2.2 l] at htx hb
    rw [htx]
    dsimp only at hb ⊢
    obtain ⟨hmode, hpend, hstate⟩ := Tx.boundary_mode (s.lane l).tx (s.rxFramed l) (s.txPat l)
    refine ⟨Tx.boundary_framing .., hmode, hpend, fun h => ?_, fun h hs => ?_, hstate⟩
    · rw [Tx.boundary_starts h] at hb ⊢
      exact ⟨rfl, rfl, hb rfl⟩
    · rw [Tx.boundary_stops h hs] at hb ⊢
      exact ⟨rfl, rfl, hb rfl, rfl⟩
  · subst hm hfr hst hph
    rw [(State.frameStart_eq s).2.2.2 l]
    exact ⟨fun h => Tx.boundary_starts h _ _, fun h hs => Tx.boundary_stops h hs _ _,
      fun h hs => ⟨fun hrun hne => Tx.boundary_changes h hs hrun hne _ _, fun hst => Tx.boundary_stays h hs hst _ _⟩⟩
  · obtain rfl := Host.Outcome.next.inj ((State.exec_transmitSlot hr).symm.trans he)
    rw [State.sendSlot_tx, State.slotStart_of_zero hp, State.sourced]
    rw [State.frameStart_framed hp, hf, if_pos rfl]

/-! ### Slots without an injection -/

theorem InjChan.slot_still {ch : InjChan} {sched : Nat → SchedEntry} (h : ch.state ≠ .active) : ch.slot sched = (none, ch) := by
  unfold InjChan.slot
  split
  · rfl
  · rw [if_pos (.inl h)]

theorem InjChan.candidate_none {ch : InjChan} (h : ch.deferred.get l = none) : ch.candidate none l = none := by
  unfold InjChan.candidate
  rw [h]
  dsimp only
  split
  · rfl
  · split <;> rfl

/-- With no channel at work every lane sends its source's block. -/
theorem State.slotSent_plain (h : ∀ c, (u.inj.get c).state ≠ .active ∧ ∀ k, (u.inj.get c).deferred.get k = none) (l : LaneNo) :
    u.slotSent.1.get l = (u.sourced l).1 ∧
    (u.isMgmt l = true → u.slotSent.2.link = (if u.markerSlot l then u.octetPlaced else u).link) := by
  obtain ⟨w, r, hw, hinj, hrest, -, -, hv, hafter, hlink⟩ := State.slotSent_lane u l
  have hnone : ∀ c, (r.inj.get c).candidate (u.countSlot.1.get c) l = none := fun c => by
    have hdue : u.countSlot.1.get c = none := by
      rw [State.countSlot, Four.get_map, InjChan.slot_still (h c).1]
    rw [hdue, hinj]
    refine InjChan.candidate_none ((hw.channel c).2.trans ?_)
    rw [State.countSlot, Four.get_map, InjChan.slot_still (h c).1]
    exact (h c).2 l
  rw [arbitrate_without hnone] at hv hafter
  refine ⟨hv, fun hm => (hafter.link ?_).trans (hlink hm)⟩
  exact (congrArg (fun x : State => x.isMgmt l) hrest :).trans hm

theorem State.slotStart_plain (h : s.slotPos ≠ 0 ∨ s.rxFramed l = false) : s.slotStart.markerSlot l = false := by
  by_cases hp : s.slotPos = 0
  · rw [State.slotStart_of_zero hp, State.frameStart_framed hp]
    exact h.resolve_left fun h => h hp
  · rw [State.slotStart, if_neg hp, State.markerSlot, beq_eq_false_iff_ne.mpr hp, Bool.and_false]

/-- Settles O10: a payload slot holds what the lane's source supplies. -/
theorem payloadSlotHoldsSource : Obligations.PayloadSlotHoldsSource := by
  intro s t u v l hu hr hq hpay he hv
  obtain rfl := Host.Outcome.next.inj ((State.exec_transmitSlot hr).symm.trans he)
  have hstart : s.slotStart = u := hu.symm
  have hms := State.slotStart_plain hpay
  have h0 := (State.slotStart_rest s).1
  have htx := State.sendSlot_tx s l
  have hout := (State.sendSlot_rest s).2.2.1
  rw [hstart] at hms h0 htx hout
  have hblock : v.get l = (u.sourced l).1 := by
    rw [← Option.some.inj (hout.symm.trans hv)]
    exact (State.slotSent_plain hq l).1
  have hc : u.configured = s.configured := (congrArg State.configured h0 :)
  have hp : u.txPat l = s.txPat l := (congrArg (fun r : State => r.txPat l) h0 :)
  have hmem : u.patMem = s.patMem := (congrArg State.patMem h0 :)
  rw [htx, hblock, State.sourced, hms, hc, hp, hmem]
  dsimp only
  rw [if_neg Bool.false_ne_true]
  have hnotIdle : (u.lane l).tx.state = .running → s.configured = true →
      ¬((u.lane l).tx.state = .idle ∨ (!s.configured) = true) := fun h1 h2 => by
    rw [h1, h2]
    decide
  refine ⟨fun h => ?_, fun hrun hcf hmode => ?_, fun hrun hcf hmode => ?_⟩
  · rw [if_pos (h.imp id fun h => by rw [h]; rfl)]
    exact ⟨rfl, rfl⟩
  · rw [if_neg (hnotIdle hrun hcf), if_neg hmode]
    exact ⟨fun hb => by rw [hb]; exact ⟨rfl, rfl⟩,
      fun b bs hb => by rw [hb]; exact ⟨rfl, rfl⟩⟩
  · rw [if_neg (hnotIdle hrun hcf), if_pos hmode]
    refine ⟨fun hk => ?_, fun hk => ?_⟩
    · rw [if_neg fun h => hk ((patIsUser_iff _).mp h)]
      exact ⟨rfl, rfl⟩
    · rw [if_pos ((patIsUser_iff _).mpr hk)]
      exact ⟨rfl, rfl⟩

/-! ### Marker slots -/

theorem Link.sendFields_down {k : Link} (h : k.up = false) (hs : Bool) : k.sendFields hs = SendFields.zero := by
  unfold Link.sendFields
  rw [h]
  rfl

/-- The receiver's resume fields stand in every marker of an UP channel. -/
theorem Link.sendFields_resume {k : Link} (h : k.up = true) (hs : Bool) :
    (k.sendFields hs).resume = (hs && k.resume) ∧ (k.sendFields hs).resumeToggle = (hs && k.resume && k.lastTaken) := by
  unfold Link.sendFields
  rw [h]
  cases k.outbound <;> exact ⟨rfl, rfl⟩

theorem Link.sendFields_idle {k : Link} (h : k.up = true) (ho : k.outbound = []) (hs : Bool) :
    (k.sendFields hs).word = false ∧ (k.sendFields hs).toggle = false ∧ (k.sendFields hs).octet = 0 ∧
    (k.sendFields hs).recordEnd = false := by
  unfold Link.sendFields
  rw [h, ho]
  exact ⟨rfl, rfl, rfl, rfl⟩

theorem Link.sendFields_sending {k : Link} (h : k.up = true) {r : PeerRec} {rest : List PeerRec} (ho : k.outbound = r :: rest) (hs : Bool) :
    (k.sendFields hs).word = true ∧ (k.sendFields hs).toggle = (hs && k.sendToggle) ∧
    (k.sendFields hs).octet = r.octets.getD k.sendIdx 0 ∧
    (k.sendFields hs).recordEnd = (k.sendIdx + 1 == r.octets.length) := by
  unfold Link.sendFields
  rw [h, ho]
  exact ⟨rfl, rfl, rfl, rfl⟩

theorem Link.advance_of_empty {k : Link} (h : k.outbound = []) : k.advance = k := by
  unfold Link.advance
  rw [h]

theorem Link.advance_of_sending {k : Link} {r : PeerRec} {rest : List PeerRec} (h : k.outbound = r :: rest) :
    k.advance = if k.sendIdx + 1 < r.octets.length then { k with sendIdx := k.sendIdx + 1 }
      else { k with outbound := rest, sendIdx := 0 } := by
  unfold Link.advance
  rw [h]

/-- Settles O11: a marker slot holds the lane's marker, and a CONTINUOUS sender moves on. -/
theorem markerSlotHoldsMarker : Obligations.MarkerSlotHoldsMarker := by
  intro s t v l hr hp hq hf he hv
  obtain rfl := Host.Outcome.next.inj ((State.exec_transmitSlot hr).symm.trans he)
  have hms := (State.frameStart_framed hp l).trans hf
  have hstart := State.slotStart_of_zero hp
  obtain ⟨-, hlink, hout, hrest, -⟩ := State.sendSlot_rest s
  obtain ⟨h0, hlink0⟩ := State.slotStart_rest s
  have htx := State.sendSlot_tx s l
  obtain ⟨hblock, hsent⟩ := State.slotSent_plain hq l
  have hlane := (State.frameStart_eq s).2.2.2 l
  have hseq : s.sendSlot.frameSeq = s.frameStart.frameSeq := by
    rw [← hstart]
    generalize s.sendSlot = t at hrest ⊢
    exact (congrArg State.frameSeq hrest :)
  rw [hstart] at hlink hout h0 hlink0 htx
  obtain rfl := Option.some.inj (hout.symm.trans hv)
  have hsrc : s.frameStart.sourced l = (buildMarker (s.frameStart.markerOf l), (s.frameStart.lane l).tx) := by
    rw [State.sourced, hms, if_pos rfl]
  rw [hsrc] at hblock htx
  rw [hms, if_pos rfl] at hsent
  generalize s.sendSlot = t at hlink hrest htx hseq ⊢
  generalize s.frameStart = u at *
  have hmg : u.isMgmt l = s.isMgmt l := (congrArg (fun r : State => r.isMgmt l) h0 :)
  have hhs : u.handshake = s.handshake := (congrArg State.handshake h0 :)
  have hmap : u.map l = s.map l := (congrArg (fun r : State => r.map l) h0 :)
  have hpat : u.txPat l = s.txPat l := (congrArg (fun r : State => r.txPat l) h0 :)
  have hck : (u.lane l).ck = (s.lane l).ck := by rw [hlane]
  have halarm : u.reportedAlarm l = s.reportedAlarm l := by
    unfold State.reportedAlarm State.ckOff
    rw [hlane]
  have hfields : (if u.isMgmt l then u.link.sendFields u.handshake else SendFields.zero) =
      if s.isMgmt l then s.link.sendFields s.handshake else SendFields.zero := by
    rw [hmg, hhs, hlink0]
  have hplaced : s.isMgmt l = true → t.link = if s.link.up && !s.handshake then s.link.advance else s.link := fun hm => by
    rw [hlink, hsent (hmg.trans hm)]
    unfold State.octetPlaced
    rw [hlink0, hhs]
    split
    · exact congrArg Link.advance hlink0
    · exact hlink0
  refine ⟨u.markerOf l, hblock, ?_, ?_, halarm, hseq.symm, ?_, ?_, fun hm hup => ⟨?_, ?_, ?_, ?_⟩⟩
  · exact congrArg LaneMapEntry.txId hmap
  · exact congrArg (fun k : Checker => k.state == .locked) hck
  · rw [htx]
    unfold State.markerOf State.markerPhase
    rw [hpat]
    dsimp only
    simp only [patIsUser_iff]
  · intro h
    have hz : (if s.isMgmt l then s.link.sendFields s.handshake else SendFields.zero) = SendFields.zero := by
      split
      · next hm => exact Link.sendFields_down (h.resolve_left (by rw [hm]; decide)) _
      · rfl
    unfold State.markerOf
    rw [hfields, hz]
    exact ⟨rfl, rfl, rfl, rfl, rfl, rfl⟩
  all_goals
    have hp := hplaced hm
    rw [hup, Bool.true_and] at hp
    rw [if_pos hm] at hfields
    unfold State.markerOf
    rw [hfields]
    dsimp only
  · intro h
    obtain ⟨h1, h2⟩ := Link.sendFields_resume hup s.handshake
    rw [h1, h2, h]
    exact ⟨rfl, rfl⟩
  · intro h
    obtain ⟨h1, h2⟩ := Link.sendFields_resume hup s.handshake
    rw [h1, h2, h]
    exact ⟨rfl, rfl⟩
  · intro ho
    obtain ⟨h1, h2, h3, h4⟩ := Link.sendFields_idle hup ho s.handshake
    refine ⟨h1, h2, h3, h4, hp.trans ?_⟩
    rw [Link.advance_of_empty ho, ite_self]
  · intro r rest ho hidx
    obtain ⟨h1, h2, h3, h4⟩ := Link.sendFields_sending hup ho s.handshake
    refine ⟨h1, ?_, ?_, fun h => ?_, fun h => ?_⟩
    · rw [h3, List.getD_eq_getElem _ _ hidx, List.getElem?_eq_getElem hidx]
    · rw [h4]
      exact (Bool.beq_eq_decide_eq _ _)
    · rw [h2, hp, h]
      exact ⟨rfl, rfl⟩
    · rw [h2, hp, h, Link.advance_of_sending ho]
      refine ⟨rfl, fun h' => ?_, fun h' => ?_⟩
      · exact (if_pos rfl).trans (if_pos h')
      · exact (if_pos rfl).trans (if_neg (by omega))

end Sys2Proof.Machine
end

section
/-! One injection a block: fates, masks, arbitration, settling, and both in TRANSMIT_SLOT. -/

namespace Sys2Proof.Machine

variable {s t u : State} {l m : LaneNo} {c d : ChanNo} {dues : Four (Option Injection)} {ms : Bool} {i : Injection} {ch : InjChan}
  {p : InjSettings} {sched : Nat → SchedEntry}

/-! ### Fates and masks -/

theorem slotFate_discarded_iff (t : Tx) (ms taken : Bool) (i : Injection) :
    slotFate t ms taken i = .discarded ↔ t.state = .idle ∨ (i.kind = .marker ∧ t.framing = .raw) := by
  unfold slotFate
  split
  · next h => exact ⟨fun _ => h, fun _ => rfl⟩
  · next h =>
    refine ⟨fun e => ?_, fun h' => absurd h' h⟩
    split at e <;> exact absurd e nofun

theorem slotFate_applied_iff (t : Tx) (ms taken : Bool) (i : Injection) :
    slotFate t ms taken i = .applied ↔ t.state = .running ∧ taken = false ∧
      ((i.kind = .marker ∧ ms = true ∧ t.framing = .framed) ∨ (i.kind = .payload ∧ ms = false)) := by
  unfold slotFate
  cases t.state <;> cases t.framing <;> cases i.kind <;> cases ms <;> cases taken <;> decide

/-- An applied candidate of a block that a lower channel has taken waits. -/
theorem slotFate_taken {t : Tx} (h : slotFate t ms false i ≠ .discarded) : slotFate t ms true i = .deferred := by
  unfold slotFate at h ⊢
  split
  · next hd =>
    rw [if_pos hd] at h
    exact absurd rfl h
  · rfl

theorem slotFate_deferred {t : Tx} (h : slotFate t ms false i = .deferred) (taken : Bool) : slotFate t ms taken i = .deferred := by
  cases taken with
  | false => exact h
  | true => exact slotFate_taken fun h' => absurd (h.symm.trans h') nofun

/-- Bits of a mask, a row of ones from one position to another. -/
theorem countBits_row {b : Block} {lo hi : Nat} (h : ∀ k, k < 64 → (b.getLsbD k = true ↔ lo ≤ k ∧ k < hi)) :
    ∀ n, n ≤ 64 → countBits b n = min n hi - lo := by
  intro n
  induction n with
  | zero =>
    intro _
    rw [countBits]
    omega
  | succ n ih =>
    intro hn
    have hbit := h n (by omega)
    rw [countBits, ih (by omega)]
    cases hb : b.getLsbD n with
    | true =>
      rw [hb] at hbit
      have := hbit.mp rfl
      rw [Bool.toNat_true]
      omega
    | false =>
      rw [hb] at hbit
      have : ¬(lo ≤ n ∧ n < hi) := fun h => Bool.false_ne_true (hbit.mpr h)
      rw [Bool.toNat_false]
      omega

theorem Injection.mask_bit {i : Injection} {k : Nat} (hk : k < 64) :
    i.mask.getLsbD k = true ↔ (i.kind = .marker ∧ 56 ≤ k) ∨ (i.kind = .payload ∧ i.pos ≤ k ∧ k < i.pos + i.bits) := by
  unfold Injection.mask
  cases hkind : i.kind with
  | marker =>
    dsimp only
    rw [getLsbD_field _ _ _ hk]
    have h255 : (255 : Nat) = 2 ^ 8 - 1 := rfl
    rw [h255, Nat.testBit_two_pow_sub_one]
    simp
    omega
  | payload =>
    dsimp only
    rw [BitVec.getLsbD_ofNat, Nat.testBit_mul_two_pow, Nat.testBit_two_pow_sub_one]
    simp
    omega

theorem Injection.countBits_mask {i : Injection} (hp : i.pos ≤ 63) : countBits i.mask 64 = i.changed := by
  unfold Injection.changed
  cases hkind : i.kind with
  | marker =>
    rw [countBits_row (lo := 56) (hi := 64) (fun k hk => by rw [Injection.mask_bit hk, hkind]; simp [hk]) 64 (by decide)]
    rfl
  | payload =>
    rw [countBits_row (lo := i.pos) (hi := i.pos + i.bits) (fun k hk => by rw [Injection.mask_bit hk, hkind]; simp) 64 (by decide)]
    dsimp only
    omega

/-! ### Arbitration -/

/-- A channel's candidate that would be applied to a block nobody has taken. -/
def State.goes (s : State) (l : LaneNo) (ms : Bool) (dues : Four (Option Injection)) (c : ChanNo) : Prop :=
  ∃ i, (s.inj.get c).candidate (dues.get c) l = some i ∧ slotFate (s.lane l).tx ms false i = .applied

/-- One channel's turn, by its candidate. -/
theorem arbitrateChan_of_none {w : SlotWork} (h : (w.s.inj.get c).candidate (dues.get c) l = none) :
    arbitrateChan l ms dues w c = w := by
  unfold arbitrateChan
  rw [h]

theorem arbitrateChan_applied {w : SlotWork} (h : (w.s.inj.get c).candidate (dues.get c) l = some i)
    (hf : slotFate (w.s.lane l).tx ms w.taken i = .applied) : arbitrateChan l ms dues w c =
      ⟨w.b ^^^ i.mask, true, (w.s.modInj c (fun ch => ch.setDeferred l none)).report l (Counts.addInjected i.changed)⟩ := by
  unfold arbitrateChan
  rw [h]
  dsimp only
  rw [hf]

theorem arbitrateChan_waits {w : SlotWork} (h : (w.s.inj.get c).candidate (dues.get c) l = some i)
    (hf : slotFate (w.s.lane l).tx ms w.taken i ≠ .applied) : arbitrateChan l ms dues w c =
      { w with s := w.s.modInj c (fun ch => ch.setDeferred l
        (if slotFate (w.s.lane l).tx ms w.taken i = .discarded then none else some i)) } := by
  unfold arbitrateChan
  rw [h]
  dsimp only
  cases hfate : slotFate (w.s.lane l).tx ms w.taken i with
  | discarded => rfl
  | deferred => rfl
  | applied => exact absurd hfate hf

theorem State.inj_report (f : Counts → Counts) : (s.report l f).inj = s.inj := rfl

theorem arbitrateChan_inj_ne {w : SlotWork} (h : d ≠ c) : (arbitrateChan l ms dues w c).s.inj.get d = w.s.inj.get d := by
  unfold arbitrateChan
  split
  · rfl
  · split
    · rw [State.inj_modInj, if_neg h]
    · rw [State.inj_modInj, if_neg h]
    · rw [State.inj_report, State.inj_modInj, if_neg h]

theorem arbitrateChan_tx {w : SlotWork} : ((arbitrateChan l ms dues w c).s.lane l).tx = (w.s.lane l).tx :=
  State.tx_of_sending (arbitrateChan_sending l ms dues w c).1 l

/-- What later channels find is what the start had. -/
theorem arbitrateChan_goes {w : SlotWork} (h : d ≠ c) :
    (arbitrateChan l ms dues w c).s.goes l ms dues d ↔ w.s.goes l ms dues d := by
  unfold State.goes
  rw [arbitrateChan_inj_ne h, arbitrateChan_tx]

theorem arbitrateFold_inj {cs : List ChanNo} (hc : c ∉ cs) : ∀ w : SlotWork,
    (cs.foldl (arbitrateChan l ms dues) w).s.inj.get c = w.s.inj.get c ∧
    ((cs.foldl (arbitrateChan l ms dues) w).s.lane l).tx = (w.s.lane l).tx := by
  induction cs with
  | nil => exact fun _ => ⟨rfl, rfl⟩
  | cons d cs ih =>
    intro w
    rw [List.mem_cons, not_or] at hc
    obtain ⟨h1, h2⟩ := ih hc.2 (arbitrateChan l ms dues w d)
    exact ⟨h1.trans (arbitrateChan_inj_ne hc.1), h2.trans arbitrateChan_tx⟩

/-- A block is taken by the first channel whose candidate goes. -/
theorem arbitrateFold_taken {cs : List ChanNo} (hn : cs.Nodup) : ∀ w : SlotWork,
    ((cs.foldl (arbitrateChan l ms dues) w).taken = true ↔ w.taken = true ∨ ∃ d ∈ cs, w.s.goes l ms dues d) := by
  induction cs with
  | nil => exact fun w => by simp
  | cons c cs ih =>
    intro w
    rw [List.nodup_cons] at hn
    have hturn : (arbitrateChan l ms dues w c).taken = true ↔ w.taken = true ∨ w.s.goes l ms dues c := by
      cases hcand : (w.s.inj.get c).candidate (dues.get c) l with
      | none =>
        rw [arbitrateChan_of_none hcand]
        refine ⟨.inl, fun h => h.resolve_right fun ⟨i, hi, _⟩ => absurd (hcand.symm.trans hi) nofun⟩
      | some i =>
        by_cases hf : slotFate (w.s.lane l).tx ms w.taken i = .applied
        · rw [arbitrateChan_applied hcand hf]
          have htaken : w.taken = false := ((slotFate_applied_iff ..).mp hf).2.1
          rw [htaken] at hf
          exact ⟨fun _ => .inr ⟨i, hcand, hf⟩, fun _ => rfl⟩
        · rw [arbitrateChan_waits hcand hf]
          refine ⟨.inl, fun h => h.elim id fun ⟨j, hj, hfj⟩ => ?_⟩
          obtain rfl := Option.some.inj (hcand.symm.trans hj)
          cases ht : w.taken with
          | true => rfl
          | false =>
            rw [ht] at hf
            exact absurd hfj hf
    rw [List.foldl_cons, ih hn.2, hturn, or_assoc]
    refine or_congr_right ?_
    rw [List.exists_mem_cons_iff]
    refine or_congr_right (exists_congr fun d => and_congr_right fun hd => arbitrateChan_goes ?_)
    rintro rfl
    exact hn.1 hd

/-- While no candidate goes, or the block is taken, block and lanes stand. -/
theorem arbitrateFold_still {cs : List ChanNo} (hn : cs.Nodup) : ∀ w : SlotWork,
    (w.taken = true ∨ ∀ d ∈ cs, ¬w.s.goes l ms dues d) →
    (cs.foldl (arbitrateChan l ms dues) w).b = w.b ∧ (cs.foldl (arbitrateChan l ms dues) w).s.lanes = w.s.lanes := by
  induction cs with
  | nil => exact fun _ _ => ⟨rfl, rfl⟩
  | cons c cs ih =>
    intro w hw
    rw [List.nodup_cons] at hn
    have hturn : (arbitrateChan l ms dues w c).b = w.b ∧ (arbitrateChan l ms dues w c).s.lanes = w.s.lanes ∧
        (arbitrateChan l ms dues w c).taken = w.taken := by
      cases hcand : (w.s.inj.get c).candidate (dues.get c) l with
      | none =>
        rw [arbitrateChan_of_none hcand]
        exact ⟨rfl, rfl, rfl⟩
      | some i =>
        have hf : slotFate (w.s.lane l).tx ms w.taken i ≠ .applied := fun hf => by
          have htaken : w.taken = false := ((slotFate_applied_iff ..).mp hf).2.1
          rcases hw with hw | hw
          · exact Bool.false_ne_true (htaken.symm.trans hw)
          · rw [htaken] at hf
            exact hw c List.mem_cons_self ⟨i, hcand, hf⟩
        rw [arbitrateChan_waits hcand hf]
        exact ⟨rfl, rfl, rfl⟩
    obtain ⟨hb, hl, ht⟩ := hturn
    obtain ⟨h1, h2⟩ := ih hn.2 (arbitrateChan l ms dues w c) (hw.imp ht.trans fun h d hd =>
      (arbitrateChan_goes (by rintro rfl; exact hn.1 hd)).not.mpr (h d (List.mem_cons_of_mem _ hd)))
    exact ⟨h1.trans hb, h2.trans hl⟩

/-- The channels before and after one of them. -/
theorem chansAll_split (c : ChanNo) : ∃ as bs, chansAll = as ++ c :: bs ∧ as.Nodup ∧ bs.Nodup ∧ c ∉ as ∧ c ∉ bs ∧
    ∀ d, d ∈ as ↔ d < c := by
  match c with
  | 0 => exact ⟨[], [1, 2, 3], rfl, by decide⟩
  | 1 => exact ⟨[0], [2, 3], rfl, by decide⟩
  | 2 => exact ⟨[0, 1], [3], rfl, by decide⟩
  | 3 => exact ⟨[0, 1, 2], [], rfl, by decide⟩

/-- R122, one channel's view: the turn of channel `c` at a lane's block. -/
theorem arbitrate_turn (s : State) (l : LaneNo) (ms : Bool) (dues : Four (Option Injection)) (b : Block) (c : ChanNo) :
    ∃ (w : SlotWork) (bs : List ChanNo), bs.Nodup ∧ c ∉ bs ∧ w.s.inj.get c = s.inj.get c ∧ (w.s.lane l).tx = (s.lane l).tx ∧
      (w.taken = true ↔ ∃ d, d < c ∧ s.goes l ms dues d) ∧ ((∀ d, d < c → ¬s.goes l ms dues d) → w.b = b ∧ w.s.lanes = s.lanes) ∧
      arbitrate s l ms dues b = ((bs.foldl (arbitrateChan l ms dues) (arbitrateChan l ms dues w c)).b,
        (bs.foldl (arbitrateChan l ms dues) (arbitrateChan l ms dues w c)).s) := by
  obtain ⟨as, bs, e, ha, hb, hca, hcb, hlt⟩ := chansAll_split c
  obtain ⟨hinj, htx⟩ := arbitrateFold_inj (l := l) (ms := ms) (dues := dues) hca ⟨b, false, s⟩
  refine ⟨as.foldl (arbitrateChan l ms dues) ⟨b, false, s⟩, bs, hb, hcb, hinj, htx, ?_, fun h => ?_, ?_⟩
  · rw [arbitrateFold_taken ha]
    simp only [Bool.false_eq_true, false_or, hlt]
  · exact arbitrateFold_still ha _ (.inr fun d hd => h d ((hlt d).mp hd))
  · unfold arbitrate
    rw [e, List.foldl_append, List.foldl_cons]

theorem State.report_lanes (f : Counts → Counts) : (s.report l f).lanes = (s.putLane l { s.lane l with
    run := { (s.lane l).run with counts := f (s.lane l).run.counts }
    win := if (s.lane l).win.isOpen then { (s.lane l).win with counts := f (s.lane l).win.counts } else (s.lane l).win }).lanes := rfl

/-- R122: the first channel whose candidate goes alters the block and is reported. -/
theorem arbitrate_first {b : Block} (h : (s.inj.get c).candidate (dues.get c) l = some i)
    (hf : slotFate (s.lane l).tx ms false i = .applied) (hlow : ∀ d, d < c → ¬s.goes l ms dues d) :
    (arbitrate s l ms dues b).1 = b ^^^ i.mask ∧
    (arbitrate s l ms dues b).2.inj.get c = (s.inj.get c).setDeferred l none ∧
    (arbitrate s l ms dues b).2.lanes = (s.report l (Counts.addInjected i.changed)).lanes := by
  obtain ⟨w, bs, hn, hcb, hinj, htx, htaken, hstill, he⟩ := arbitrate_turn s l ms dues b c
  obtain ⟨hwb, hwl⟩ := hstill hlow
  have ht : w.taken = false := by
    rw [← Bool.not_eq_true, htaken]
    rintro ⟨d, hd, hg⟩
    exact hlow d hd hg
  rw [← hinj] at h
  rw [← htx, ← ht] at hf
  have hturn := arbitrateChan_applied h hf
  obtain ⟨h1, h2⟩ := arbitrateFold_still (l := l) (ms := ms) (dues := dues) hn (arbitrateChan l ms dues w c)
    (.inl (congrArg SlotWork.taken hturn))
  rw [he]
  refine ⟨h1.trans ((congrArg SlotWork.b hturn).trans (by rw [hwb])), ?_, h2.trans ?_⟩
  · rw [(arbitrateFold_inj hcb _).1, hturn]
    rw [State.inj_report, State.inj_modInj, if_pos rfl, hinj]
  · rw [hturn]
    have hlane : w.s.lane l = s.lane l := congrArg (fun v => Eight.get v l) hwl
    exact congrArg₂ (fun (ls : Eight Lane) (L : Lane) => ls.set l { L with
      win := if L.win.isOpen then { L.win with counts := L.win.counts.addInjected i.changed } else L.win
      run := { L.run with counts := L.run.counts.addInjected i.changed } }) hwl hlane

theorem arbitrate_still {b : Block} (h : ∀ d, ¬s.goes l ms dues d) :
    (arbitrate s l ms dues b).1 = b ∧ (arbitrate s l ms dues b).2.lanes = s.lanes :=
  arbitrateFold_still (by decide) _ (.inr fun d _ => h d)

theorem arbitrate_inj_none {b : Block} (h : (s.inj.get c).candidate (dues.get c) l = none) :
    (arbitrate s l ms dues b).2.inj.get c = s.inj.get c := by
  obtain ⟨w, bs, hn, hcb, hinj, htx, htaken, hstill, he⟩ := arbitrate_turn s l ms dues b c
  rw [he]
  rw [← hinj] at h ⊢
  rw [(arbitrateFold_inj hcb _).1, arbitrateChan_of_none h]

/-- A candidate that is not applied is gone, or waits. -/
theorem arbitrate_inj_some {b : Block} (h : (s.inj.get c).candidate (dues.get c) l = some i) :
    (slotFate (s.lane l).tx ms false i = .discarded →
      (arbitrate s l ms dues b).2.inj.get c = (s.inj.get c).setDeferred l none) ∧
    (slotFate (s.lane l).tx ms false i = .deferred ∨
        (slotFate (s.lane l).tx ms false i = .applied ∧ ∃ d, d < c ∧ s.goes l ms dues d) →
      (arbitrate s l ms dues b).2.inj.get c = (s.inj.get c).setDeferred l (some i)) := by
  obtain ⟨w, bs, hn, hcb, hinj, htx, htaken, hstill, he⟩ := arbitrate_turn s l ms dues b c
  rw [he]
  rw [← hinj] at h ⊢
  rw [← htx, (arbitrateFold_inj hcb _).1]
  refine ⟨fun hf => ?_, fun hf => ?_⟩
  · have hf' : slotFate (w.s.lane l).tx ms w.taken i = .discarded := by rwa [slotFate_discarded_iff] at hf ⊢
    rw [arbitrateChan_waits h (by rw [hf']; decide), hf']
    exact (State.inj_modInj ..).trans (if_pos rfl)
  · have hf' : slotFate (w.s.lane l).tx ms w.taken i = .deferred := by
      rcases hf with hf | ⟨hf, hlow⟩
      · exact slotFate_deferred hf _
      · rw [htaken.mpr hlow]
        exact slotFate_taken (by rw [hf]; decide)
    rw [arbitrateChan_waits h (by rw [hf']; decide), hf']
    exact (State.inj_modInj ..).trans (if_pos rfl)

end Sys2Proof.Machine
end

section
/-! The channels' slots, their settling, and TRANSMIT_SLOT with an injection. -/

namespace Sys2Proof.Machine

variable {s t u : State} {l m : LaneNo} {c d : ChanNo} {dues : Four (Option Injection)} {i : Injection} {ch : InjChan}
  {p : InjSettings} {sched : Nat → SchedEntry}

/-! ### The slot as a channel counts it -/

theorem InjChan.slot_idle (h : ch.state ≠ .active ∨ ch.runOver = true) : ch.slot sched = (none, ch) := by
  unfold InjChan.slot
  split
  · rfl
  · rw [if_pos h]

theorem InjChan.slot_active (hp : ch.settings = some p) (h1 : ch.state = .active) (h2 : ch.runOver = false) :
    ch.slot sched = match p.mode with
      | .single => (some ⟨p.kind, p.bits, p.pos⟩, { ch with runOver := true })
      | .rate =>
        if 1 < ch.rateLeft then (none, { ch with rateLeft := ch.rateLeft - 1 })
        else (some (ch.rateDue p).1, (ch.rateDue p).2)
      | .schedule =>
        if ch.gap ≠ 0 then (none, { ch with gap := ch.gap - 1 })
        else (some (ch.scheduleDue p sched).1, (ch.scheduleDue p sched).2) := by
  have hno : ¬(ch.state ≠ .active ∨ ch.runOver = true) := by
    rw [h1, h2]
    decide
  unfold InjChan.slot
  rw [hp]
  exact if_neg hno

/-- A slot leaves a channel's settings and its deferred injections; what falls due is of the channel's kind. -/
theorem InjChan.slot_rest (ch : InjChan) (sched : Nat → SchedEntry) :
    (ch.slot sched).2.settings = ch.settings ∧ (ch.slot sched).2.deferred = ch.deferred ∧
    ∀ p i, ch.settings = some p → (ch.slot sched).1 = some i → i.kind = p.kind := by
  by_cases hoff : ch.state ≠ .active ∨ ch.runOver = true
  · rw [InjChan.slot_idle hoff]
    exact ⟨rfl, rfl, fun _ _ _ h => nomatch h⟩
  · rw [not_or, not_not, Bool.not_eq_true] at hoff
    cases hp : ch.settings with
    | none =>
      unfold InjChan.slot
      rw [hp]
      exact ⟨hp, rfl, fun _ _ _ h => nomatch h⟩
    | some p =>
      rw [InjChan.slot_active hp hoff.1 hoff.2]
      have kind : ∀ (bits pos : Nat) (q : InjSettings) (i : Injection), some p = some q → some ⟨p.kind, bits, pos⟩ = some i →
          i.kind = q.kind := fun bits pos q i hq hi => by
        rw [← Option.some.inj hq, ← Option.some.inj hi]
      obtain ⟨-, hset, -, hdef⟩ := InjChan.scheduleDue_rest ch p sched
      cases p.mode with
      | single => exact ⟨hp, rfl, kind _ _⟩
      | rate =>
        dsimp only
        split
        · exact ⟨hp, rfl, fun _ _ _ h => nomatch h⟩
        · rw [InjChan.rateDue_eq]
          exact ⟨hp, rfl, kind _ _⟩
      | schedule =>
        dsimp only
        split
        · exact ⟨hp, rfl, fun _ _ _ h => nomatch h⟩
        · rw [InjChan.scheduleDue_fst]
          exact ⟨hset.trans hp, hdef, kind _ _⟩

/-! ### Settling after a slot -/

/-- The count and the walk's progress of a channel whose run is over. -/
def InjChan.ended (ch : InjChan) (p : InjSettings) (sched : Nat → SchedEntry) : InjChan :=
  let ch := { ch with runOver := false }
  let ch := if p.mode = .single then ch.spend p else ch
  if p.mode = .schedule then ch.loadEntry p.schedFirst (sched p.schedFirst) else ch

theorem InjChan.ended_eq (ch : InjChan) (p : InjSettings) (sched : Nat → SchedEntry) : ch.ended p sched = { ch with
    runOver := false
    remaining := if p.mode = .single ∧ p.count ≠ 0 then ch.remaining - 1 else ch.remaining
    entry := if p.mode = .schedule then p.schedFirst else ch.entry
    gap := if p.mode = .schedule then (sched p.schedFirst).gap else ch.gap
    blocks := if p.mode = .schedule then (sched p.schedFirst).blocks else ch.blocks } := by
  unfold InjChan.ended
  dsimp only
  rw [InjChan.spend_eq]
  cases p.mode with
  | single =>
    by_cases hc : p.count = 0
    · simp [hc]
    · simp [hc]
  | rate => rfl
  | schedule => rfl

theorem noDeferred_iff : noDeferred ch = true ↔ ∀ l, ch.deferred.get l = none := by
  unfold noDeferred
  rw [List.all_eq_true]
  exact ⟨fun h l => Option.isNone_iff_eq_none.mp (h l (mem_lanesAll l)), fun h l _ => Option.isNone_iff_eq_none.mpr (h l)⟩

theorem InjChan.deferred_eq (h : ∀ l, ch.deferred.get l = none) : ch.deferred = Eight.all none :=
  Eight.ext_get fun l => by rw [h l, Eight.get_all]

theorem State.putInj_putInj (ch ch' : InjChan) : (s.putInj c ch).putInj c ch' = s.putInj c ch' := by
  unfold State.putInj
  rw [Four.set_set]

theorem State.inj_putInj (ch : InjChan) : (s.putInj c ch).inj.get d = if d = c then ch else s.inj.get d := by
  rw [State.putInj, Four.get_set]

theorem State.settleChan_def (s : State) (c : ChanNo) : s.settleChan c = match (s.inj.get c).settings with
    | none => s
    | some p =>
      if (s.inj.get c).state ≠ .active ∨ !(s.inj.get c).runOver ∨ !noDeferred (s.inj.get c) then s
      else if p.mode = .rate ∨ ((s.inj.get c).ended p s.schedAt).spent p then
        (s.putInj c ((s.inj.get c).ended p s.schedAt)).endChannel c .complete
      else (s.putInj c ((s.inj.get c).ended p s.schedAt)).modInj c InjChan.toWaiting := rfl

theorem State.settleChan_stays (h : ch.state ≠ .active ∨ ch.runOver = false ∨ ∃ l, ch.deferred.get l ≠ none)
    (hc : s.inj.get c = ch) : s.settleChan c = s := by
  have hstay : ch.state ≠ .active ∨ (!ch.runOver) = true ∨ (!noDeferred ch) = true := by
    refine h.imp id (.imp (fun h => by rw [h]; rfl) fun ⟨l, hl⟩ => ?_)
    rw [Bool.not_eq_true', ← Bool.not_eq_true, noDeferred_iff]
    exact fun hall => hl (hall l)
  rw [State.settleChan_def, hc]
  split
  · rfl
  · rw [if_pos hstay]

/-- R116, R120: a run that is over ends the channel, or returns it to WAITING. -/
theorem State.settleChan_acts (hc : s.inj.get c = ch) (hp : ch.settings = some p) (h1 : ch.state = .active)
    (h2 : ch.runOver = true) (h3 : ∀ l, ch.deferred.get l = none) :
    s.settleChan c = if p.mode = .rate ∨ (ch.ended p s.schedAt).spent p = true
      then (s.putInj c (ch.ended p s.schedAt)).endChannel c .complete
      else s.putInj c (ch.ended p s.schedAt).toWaiting := by
  have hacts : ¬(ch.state ≠ .active ∨ (!ch.runOver) = true ∨ (!noDeferred ch) = true) := by
    rw [h1, h2, noDeferred_iff.mpr h3]
    decide
  rw [State.settleChan_def, hc, hp]
  dsimp only
  rw [if_neg hacts, State.modInj_eq_putInj, State.inj_putInj, if_pos rfl, State.putInj_putInj]

theorem State.endChannel_eq (r : EndReason) (hc : s.inj.get c = ch) (hp : ch.settings = some p) :
    s.endChannel c r = if p.notify = true then
        (s.putInj c ch.toIdle).notify (.injectionEnd c r (if r = .complete ∨ p.count = 0 then 0 else ch.remaining) s.tick)
      else s.putInj c ch.toIdle := by
  unfold State.endChannel
  dsimp only
  rw [State.modInj_eq_putInj, hc, hp]
  rfl

theorem InjChan.spent_iff (ch : InjChan) (p : InjSettings) : ch.spent p = true ↔ p.count ≠ 0 ∧ ch.remaining = 0 := by
  unfold InjChan.spent
  rw [Bool.and_eq_true, decide_eq_true_iff, beq_iff_eq]

theorem State.inj_notify (n : Notice) : (s.notify n).inj = s.inj := (congrArg Fixed.inj (State.notify_fixed s n) :)

/-- A channel after its settling, from its schedule and itself. -/
def InjChan.after (ch : InjChan) (sched : Nat → SchedEntry) : InjChan :=
  match ch.settings with
  | none => ch
  | some p =>
    if ch.state ≠ .active ∨ !ch.runOver ∨ !noDeferred ch then ch
    else if p.mode = .rate ∨ (ch.ended p sched).spent p then (ch.ended p sched).toIdle
    else (ch.ended p sched).toWaiting

theorem State.inj_endChannel (r : EndReason) : (s.endChannel c r).inj = (s.putInj c (s.inj.get c).toIdle).inj := by
  unfold State.endChannel
  dsimp only
  split
  · rfl
  · split
    · rw [State.inj_notify]
      rfl
    · rfl

/-- A channel's settling is its own, and no other channel's. -/
theorem State.inj_settleChan : (s.settleChan c).inj.get d = if d = c then (s.inj.get c).after s.schedAt else s.inj.get d := by
  have hself : (if d = c then s.inj.get c else s.inj.get d) = s.inj.get d := by
    split
    · next h => rw [h]
    · rfl
  rw [State.settleChan_def, InjChan.after]
  cases hp : (s.inj.get c).settings with
  | none => exact hself.symm
  | some p =>
    dsimp only
    split
    · exact hself.symm
    · split
      · rw [State.inj_endChannel, State.inj_putInj, State.inj_putInj, State.inj_putInj, if_pos rfl]
        split <;> rfl
      · rw [State.modInj_eq_putInj, State.inj_putInj, State.inj_putInj, State.inj_putInj, if_pos rfl]
        split <;> rfl

theorem State.schedAt_settleChan : (s.settleChan c).schedAt = s.schedAt :=
  (congrArg State.schedAt (State.unsettled_settleChan (s := s) (c := c)) :)

/-- The settling of all channels, seen from one. -/
theorem State.inj_chansSettled (c : ChanNo) : s.chansSettled.inj.get c = (s.inj.get c).after s.schedAt := by
  have hfold : ∀ (cs : List ChanNo), cs.Nodup → ∀ s : State, (cs.foldl State.settleChan s).schedAt = s.schedAt ∧
      (cs.foldl State.settleChan s).inj.get c = if c ∈ cs then (s.inj.get c).after s.schedAt else s.inj.get c := by
    intro cs
    induction cs with
    | nil => exact fun _ _ => ⟨rfl, rfl⟩
    | cons d cs ih =>
      intro hn s
      rw [List.nodup_cons] at hn
      obtain ⟨h1, h2⟩ := ih hn.2 (s.settleChan d)
      refine ⟨h1.trans State.schedAt_settleChan, h2.trans ?_⟩
      rw [State.schedAt_settleChan, State.inj_settleChan]
      by_cases hcd : c = d
      · subst hcd
        rw [if_neg hn.1, if_pos rfl, if_pos List.mem_cons_self]
      · rw [if_neg hcd]
        exact if_congr (by rw [List.mem_cons, or_iff_right hcd]) rfl rfl
  exact (hfold chansAll (by decide) s).2.trans (if_pos (mem_chansAll c))

/-! ### An injection in a payload slot -/

theorem InjChan.candidate_due (hd : ch.deferred.get l = none) (hp : ch.settings = some p) (ht : p.targets.get l = true)
    (due : Option Injection) : ch.candidate due l = due := by
  unfold InjChan.candidate
  rw [hd, hp]
  exact if_pos ht

theorem State.inj_countSlot (u : State) (c : ChanNo) : u.countSlot.1.get c = ((u.inj.get c).slot u.schedAt).1 ∧
    u.countSlot.2.inj.get c = ((u.inj.get c).slot u.schedAt).2 := ⟨Four.get_map .., Four.get_map ..⟩

/-- A channel without a deferred injection for the lane and not ACTIVE has no candidate. -/
theorem State.candidate_still {w : State} (hc : (w.inj.get c).deferred.get l = ((u.inj.get c).slot u.schedAt).2.deferred.get l)
    (h1 : (u.inj.get c).state ≠ .active) (h2 : (u.inj.get c).deferred.get l = none) :
    (w.inj.get c).candidate (u.countSlot.1.get c) l = none := by
  rw [InjChan.slot_still h1] at hc
  rw [(State.inj_countSlot u c).1, InjChan.slot_still h1]
  exact InjChan.candidate_none (hc.trans h2)

/-- R122: the lowest ACTIVE channel's injection alters the block of a RUNNING target lane, and is reported. -/
theorem State.slotSent_injected (hpos : u.slotPos ≠ 0) (hrun : (u.lane l).tx.state = .running) (hp : (u.inj.get c).settings = some p)
    (ht : p.targets.get l = true) (hd : (u.inj.get c).deferred.get l = none)
    (hdue : ((u.inj.get c).slot u.schedAt).1 = some i) (hk : i.kind = .payload)
    (hlow : ∀ d, d < c → (u.inj.get d).state ≠ .active ∧ (u.inj.get d).deferred.get l = none) :
    u.slotSent.1.get l = (u.sourced l).1 ^^^ i.mask ∧
    (u.slotSent.2.lane l).run.counts = (u.lane l).run.counts.addInjected i.changed := by
  obtain ⟨w, r, hw, hinj, hrest, htx, hrunT, hv, hafter, -⟩ := State.slotSent_lane u l
  have hms : u.markerSlot l = false := by
    rw [State.markerSlot, beq_eq_false_iff_ne.mpr hpos, Bool.and_false]
  have hchan : ∀ d, (r.inj.get d).deferred.get l = ((u.inj.get d).slot u.schedAt).2.deferred.get l := fun d => by
    rw [hinj, (hw.channel d).2, (State.inj_countSlot u d).2]
  obtain ⟨hset, hdef, -⟩ := InjChan.slot_rest (u.inj.get c) u.schedAt
  have hrset : (r.inj.get c).settings = some p := by
    have h := (congrArg InjChan.settings (hw.channel c).1 :)
    rw [(State.inj_countSlot u c).2] at h
    rw [hinj]
    exact h.trans (hset.trans hp)
  have hcand : (r.inj.get c).candidate (u.countSlot.1.get c) l = some i := by
    rw [InjChan.candidate_due ((hchan c).trans ((congrArg (fun v => Eight.get v l) hdef).trans hd)) hrset ht,
      (State.inj_countSlot u c).1, hdue]
  obtain ⟨st, ph, b, n, hsrc, -⟩ := State.sourced_tx u l
  have hfate : slotFate (r.lane l).tx (u.markerSlot l) false i = .applied := by
    rw [slotFate_applied_iff, htx, hsrc]
    exact ⟨hrun, rfl, .inr ⟨hk, hms⟩⟩
  have hnot : ∀ d, d < c → ¬r.goes l (u.markerSlot l) u.countSlot.1 d := fun d hdc ⟨j, hj, _⟩ =>
    absurd ((State.candidate_still (hchan d) (hlow d hdc).1 (hlow d hdc).2).symm.trans hj) nofun
  obtain ⟨hb, -, hl⟩ := arbitrate_first (b := (u.sourced l).1) hcand hfate hnot
  refine ⟨hv.trans hb, ?_⟩
  have hlane := congrArg (fun v => (Eight.get v l).run.counts) hl
  rw [hafter.run]
  refine Eq.trans hlane ?_
  rw [State.report, State.modLane, Eight.get_set, if_pos rfl, hrunT]

end Sys2Proof.Machine
end

section
/-! One injection a block: the channel through a whole slot, and the obligation. -/

namespace Sys2Proof.Machine

variable {s t u : State} {l m : LaneNo} {c d : ChanNo} {dues : Four (Option Injection)} {i : Injection} {ch : InjChan}
  {p : InjSettings} {sched : Nat → SchedEntry}

/-! ### The channel through a slot -/

theorem InjChan.due_of_candidate {due : Option Injection} (hd : ch.deferred.get l = none) (h : ch.candidate due l = some i) :
    due = some i := by
  unfold InjChan.candidate at h
  rw [hd] at h
  dsimp only at h
  split at h
  · exact absurd h nofun
  · split at h
    · exact h
    · exact absurd h nofun

theorem InjChan.setDeferred_none (h : ch.deferred.get l = none) : ch.setDeferred l none = ch := by
  have hset : ch.deferred.set l none = ch.deferred := by
    rw [← h, Eight.set_get]
  exact congrArg (fun v => { ch with deferred := v }) hset

/-- A payload injection of the lowest channel at a payload slot is applied, or discarded: nothing of the channel moves. -/
theorem arbitrate_inj_payload {b : Block} (hd : (s.inj.get c).deferred.get l = none)
    (hk : ∀ i, dues.get c = some i → i.kind = .payload) (hlow : ∀ d, d < c → (s.inj.get d).candidate (dues.get d) l = none) :
    (arbitrate s l false dues b).2.inj.get c = s.inj.get c := by
  cases hcand : (s.inj.get c).candidate (dues.get c) l with
  | none => exact arbitrate_inj_none hcand
  | some i =>
    have hkind := hk i (InjChan.due_of_candidate hd hcand)
    have hself := InjChan.setDeferred_none hd
    cases hst : (s.lane l).tx.state with
    | idle => exact ((arbitrate_inj_some hcand).1 ((slotFate_discarded_iff ..).mpr (.inl hst))).trans hself
    | running =>
      have hnot : ∀ d, d < c → ¬s.goes l false dues d := fun d hdc ⟨j, hj, _⟩ => absurd ((hlow d hdc).symm.trans hj) nofun
      exact (arbitrate_first hcand ((slotFate_applied_iff ..).mpr ⟨hst, rfl, .inr ⟨hkind, rfl⟩⟩) hnot).2.1.trans hself

/-- With no deferred injection in the lowest channels, a payload slot leaves such a channel as the slot counts it. -/
theorem State.slotSent_inj (hpos : u.slotPos ≠ 0) (hp : (u.inj.get c).settings = some p) (hk : p.kind = .payload)
    (hd : ∀ d, d ≤ c → ∀ k, (u.inj.get d).deferred.get k = none) (hlow : ∀ d, d < c → (u.inj.get d).state ≠ .active) :
    u.slotSent.2.inj.get c = ((u.inj.get c).slot u.schedAt).2 := by
  have hturn : ∀ (w : Eight Block × State) (m : LaneNo),
      w.2.slotPos ≠ 0 ∧ (∀ d, d ≤ c → w.2.inj.get d = u.countSlot.2.inj.get d) →
      (State.laneSlot u.countSlot.1 w m).2.slotPos ≠ 0 ∧
      ∀ d, d ≤ c → (State.laneSlot u.countSlot.1 w m).2.inj.get d = u.countSlot.2.inj.get d := by
    rintro w m ⟨hw, hall⟩
    obtain ⟨-, -, hrest, -, hinj, -⟩ := State.sourceBlock_eq w.2 m
    have hms : w.2.markerSlot m = false := by
      rw [State.markerSlot, beq_eq_false_iff_ne.mpr hw, Bool.and_false]
    unfold State.laneSlot
    dsimp only
    rw [hms]
    generalize (w.2.sourceBlock m).1 = b
    have hsend := (arbitrate_sending (w.2.sourceBlock m).2 m false u.countSlot.1 b).1
    generalize (w.2.sourceBlock m).2 = r at hrest hinj hsend ⊢
    have hdef : ∀ d, d ≤ c → ∀ k, (r.inj.get d).deferred.get k = none := fun d hdc k => by
      rw [hinj, hall d hdc, (State.inj_countSlot u d).2, (InjChan.slot_rest _ _).2.1]
      exact hd d hdc k
    have hnone : ∀ d, d < c → (r.inj.get d).candidate (u.countSlot.1.get d) m = none := fun d hdc => by
      rw [(State.inj_countSlot u d).1, InjChan.slot_still (hlow d hdc)]
      exact InjChan.candidate_none (hdef d hdc.le m)
    refine ⟨?_, fun d hdc => ?_⟩
    · have h1 : (arbitrate r m false u.countSlot.1 b).2.slotPos = r.slotPos := (congrArg (fun p => p.1.slotPos) hsend :)
      have h2 : r.slotPos = w.2.slotPos := (congrArg State.slotPos hrest :)
      rw [h1, h2]
      exact hw
    · rw [← hall d hdc, ← hinj]
      rcases hdc.lt_or_eq with hlt | rfl
      · exact arbitrate_inj_none (hnone d hlt)
      · refine arbitrate_inj_payload (hdef d le_rfl m) (fun i hi => ?_) hnone
        rw [(State.inj_countSlot u d).1] at hi
        exact ((InjChan.slot_rest _ _).2.2 p i hp hi).trans hk
  have hfold : ∀ (ls : List LaneNo) (w : Eight Block × State),
      w.2.slotPos ≠ 0 ∧ (∀ d, d ≤ c → w.2.inj.get d = u.countSlot.2.inj.get d) →
      ∀ d, d ≤ c → (ls.foldl (State.laneSlot u.countSlot.1) w).2.inj.get d = u.countSlot.2.inj.get d := by
    intro ls
    induction ls with
    | nil => exact fun _ h => h.2
    | cons m ls ih => exact fun w h => ih _ (hturn w m h)
  exact (hfold lanesAll _ ⟨hpos, fun _ _ => rfl⟩ c le_rfl).trans (State.inj_countSlot u c).2

theorem State.slotStart_of_payload (h : s.slotPos ≠ 0) : s.slotStart = s := if_neg h

theorem State.inj_sendSlot : s.sendSlot.inj = s.slotStart.slotSent.2.chansSettled.inj := by
  rw [State.sendSlot_eq]

theorem State.schedAt_slotSent (u : State) : u.slotSent.2.schedAt = u.schedAt := by
  have h := State.slotSent_rest u
  generalize u.slotSent.2 = x at h ⊢
  exact (congrArg State.schedAt h :)

/-! ### The obligation's parts -/

/-- R122 with R113, R94: one block's arbitration. -/
theorem arbitrate_facts (s : State) (l : LaneNo) (ms : Bool) (dues : Four (Option Injection)) (b : Block) :
     (∀ c i, (s.inj.get c).candidate (dues.get c) l = some i → slotFate (s.lane l).tx ms false i = .applied →
       (∀ d, d < c → ∀ j, (s.inj.get d).candidate (dues.get d) l = some j →
         slotFate (s.lane l).tx ms false j ≠ .applied) →
       (arbitrate s l ms dues b).1 = b ^^^ i.mask ∧
       ((arbitrate s l ms dues b).2.inj.get c).deferred.get l = none ∧
       (arbitrate s l ms dues b).2.lanes = (s.putLane l { s.lane l with
         run := { (s.lane l).run with counts := (s.lane l).run.counts.addInjected i.changed }
         win := if (s.lane l).win.isOpen
           then { (s.lane l).win with counts := (s.lane l).win.counts.addInjected i.changed }
           else (s.lane l).win }).lanes) ∧
     ((∀ c i, (s.inj.get c).candidate (dues.get c) l = some i →
         slotFate (s.lane l).tx ms false i ≠ .applied) →
       (arbitrate s l ms dues b).1 = b ∧ (arbitrate s l ms dues b).2.lanes = s.lanes) ∧
     (∀ c, ((s.inj.get c).candidate (dues.get c) l = none →
         (arbitrate s l ms dues b).2.inj.get c = s.inj.get c) ∧
       (∀ i, (s.inj.get c).candidate (dues.get c) l = some i →
         (slotFate (s.lane l).tx ms false i = .discarded →
           (arbitrate s l ms dues b).2.inj.get c = (s.inj.get c).setDeferred l none) ∧
         (slotFate (s.lane l).tx ms false i = .deferred ∨
             (slotFate (s.lane l).tx ms false i = .applied ∧
               ∃ d, d < c ∧ ∃ j, (s.inj.get d).candidate (dues.get d) l = some j ∧
                 slotFate (s.lane l).tx ms false j = .applied) →
           (arbitrate s l ms dues b).2.inj.get c = (s.inj.get c).setDeferred l (some i)))) := by
  refine ⟨fun c i hi hf hlow => ?_, fun h => ?_, fun c => ⟨arbitrate_inj_none, fun i hi => arbitrate_inj_some hi⟩⟩
  · obtain ⟨h1, h2, h3⟩ := arbitrate_first (b := b) hi hf fun d hd ⟨j, hj, hfj⟩ => hlow d hd j hj hfj
    refine ⟨h1, ?_, h3⟩
    rw [h2, InjChan.setDeferred, Eight.get_set, if_pos rfl]
  · exact arbitrate_still fun d ⟨j, hj, hfj⟩ => h d j hj hfj

/-- R116 to R118: the slot as a channel counts it. -/
theorem InjChan.slot_facts (hp : ch.settings = some p) (h1 : ch.state = .active) (h2 : ch.runOver = false) :
    (p.mode = .single → ch.slot sched = (some ⟨p.kind, p.bits, p.pos⟩, { ch with runOver := true })) ∧
    (p.mode = .rate →
      (1 < ch.rateLeft → ch.slot sched = (none, { ch with rateLeft := ch.rateLeft - 1 })) ∧
      (ch.rateLeft ≤ 1 → ch.slot sched = (some ⟨p.kind, p.bits, p.pos⟩, { ch with
        rateLeft := p.rateK, remaining := if p.count = 0 then ch.remaining else ch.remaining - 1
        runOver := decide (p.count ≠ 0 ∧ ch.remaining ≤ 1) }))) ∧
    (p.mode = .schedule →
      (ch.gap ≠ 0 → ch.slot sched = (none, { ch with gap := ch.gap - 1 })) ∧
      (ch.gap = 0 → ch.slot sched = (some ⟨p.kind, (sched ch.entry).bits, (sched ch.entry).pos⟩, (ch.scheduleDue p sched).2))) := by
  rw [InjChan.slot_active hp h1 h2]
  refine ⟨fun hm => by rw [hm], fun hm => ⟨fun h => ?_, fun h => ?_⟩, fun hm => ⟨fun h => ?_, fun h => ?_⟩⟩
  all_goals
    rw [hm]
    dsimp only
  · rw [if_pos h]
  · rw [if_neg (Nat.not_lt.mpr h), InjChan.rateDue_eq]
  · rw [if_pos h]
  · rw [if_neg (not_not.mpr h), InjChan.scheduleDue_fst]

/-- R120: the settling of a channel, `e` being its progress after the run. -/
theorem State.settleChan_facts (hc : s.inj.get c = ch) (hp : ch.settings = some p) {e : InjChan} (he : ch.ended p s.schedAt = e)
    (h1 : ch.state = .active) (h2 : ch.runOver = true) (h3 : ∀ l, ch.deferred.get l = none) :
    (p.mode ≠ .rate → p.count = 0 ∨ e.remaining ≠ 0 →
      s.settleChan c = s.putInj c { e with state := if p.source = .continuous then .active else .waiting }) ∧
    (p.mode = .rate ∨ (p.count ≠ 0 ∧ e.remaining = 0) →
      (p.notify = false → s.settleChan c = s.putInj c { e with state := .idle }) ∧
      (p.notify = true → s.egress.length ≤ 11 → s.settleChan c = { s.putInj c { e with state := .idle } with
        egress := s.egress ++ [noticeRec (.injectionEnd c .complete 0 s.tick)] })) := by
  have hends := InjChan.ended_eq ch p s.schedAt
  rw [he] at hends
  have hset : e.settings = some p := by rw [hends]; exact hp
  have hidle : e.toIdle = { e with state := .idle } := by
    rw [InjChan.toIdle, hends, InjChan.deferred_eq h3]
  have hact := State.settleChan_acts hc hp h1 h2 h3
  rw [he] at hact
  rw [hact]
  refine ⟨fun hm hleft => ?_, fun hend => ?_⟩
  · rw [if_neg, InjChan.toWaiting_eq, hset, Option.map_some]
    · simp only [Option.some.injEq]
    · rw [InjChan.spent_iff]
      rintro (h | ⟨h, h'⟩)
      · exact hm h
      · exact hleft.elim h fun hne => hne h'
  · rw [if_pos (hend.imp id (InjChan.spent_iff _ _).mpr),
      State.endChannel_eq (s := s.putInj c e) .complete (by rw [State.inj_putInj, if_pos rfl]) hset, State.putInj_putInj, hidle]
    refine ⟨fun hn => ?_, fun hn hroom => ?_⟩
    · rw [hn, if_neg Bool.false_ne_true]
    · rw [if_pos hn, if_pos (.inl rfl)]
      exact State.notify_of_room (s := s.putInj c { e with state := .idle }) hroom _

/-- Settles O20: arbitration by the channels' turns, the slot and the settling by what a channel counts. -/
theorem oneInjectionPerBlock : Obligations.OneInjectionPerBlock := by
  refine ⟨arbitrate_facts, fun t ms taken i => ⟨slotFate_discarded_iff t ms taken i, slotFate_applied_iff t ms taken i⟩,
    fun s t v l c p hr _ hpos hrun hst hp hover hm hk ht hd hlow he hv => ?_,
    fun i hi => ⟨fun k hk => Injection.mask_bit hk, Injection.countBits_mask hi⟩,
    fun ch p sched hp => ⟨InjChan.slot_idle, fun h1 h2 => ?_⟩, fun s c ch p rem done hc hp hrem hdone => ⟨fun h =>
      State.settleChan_stays h hc, fun h1 h2 h3 => ?_⟩, fun s c ch p hc hp hr hpos hst hk hd hlow => ?_⟩
  · obtain rfl := Host.Outcome.next.inj ((State.exec_transmitSlot hr).symm.trans he)
    obtain ⟨hlanes, -, hout, -, -⟩ := State.sendSlot_rest s
    rw [State.slotStart_of_payload hpos] at hlanes hout
    have hdue := congrArg Prod.fst ((InjChan.slot_facts (sched := s.schedAt) hp hst hover).1 hm)
    rw [hk] at hdue
    obtain ⟨hb, hcount⟩ := State.slotSent_injected hpos hrun hp ht hd hdue rfl hlow
    rw [← Option.some.inj (hout.symm.trans hv), (State.sourceBlock_eq s l).1, State.lane, hlanes]
    exact ⟨hb, hcount⟩
  · obtain ⟨hs, hrate, hsched⟩ := InjChan.slot_facts (sched := sched) hp h1 h2
    refine ⟨hs, hrate, fun hm => ?_⟩
    obtain ⟨hgap, hdue⟩ := hsched hm
    refine ⟨hgap, fun hg => congrArg Prod.fst (hdue hg), fun hg hb => ?_, fun hg hb he => ?_, fun hg hb he => ⟨fun hl hsrc => ?_, fun hl => ?_⟩⟩
    · rw [hdue hg]
      exact InjChan.scheduleDue_inside hb
    · rw [hdue hg]
      exact InjChan.scheduleDue_next hb he
    · rw [hdue hg]
      exact (InjChan.scheduleDue_last hb he).trans (if_pos ⟨hl, hsrc⟩)
    · rw [hdue hg]
      refine (InjChan.scheduleDue_last hb he).trans (if_neg ?_)
      rintro ⟨h3, h4⟩
      rcases hl with h | h
      · omega
      · exact h h4
  · have hends : ch.ended p s.schedAt = done := by
      rw [hdone, hrem, InjChan.ended_eq]
    have hleft : done.remaining = rem := by rw [hdone]
    rw [← hleft]
    exact State.settleChan_facts hc hp hends h1 h2 h3
  · obtain ⟨hlanes, -, hout, -, -⟩ := State.sendSlot_rest s
    rw [State.slotStart_of_payload hpos] at hlanes hout
    refine ⟨_, _, State.exec_transmitSlot hr, hout, ?_, fun l i hi ht hrun => ?_⟩
    · rw [State.inj_sendSlot, State.slotStart_of_payload hpos, State.inj_chansSettled, State.schedAt_slotSent,
        State.inj_settleChan, if_pos rfl, State.inj_putInj, if_pos rfl,
        State.slotSent_inj hpos (by rw [hc]; exact hp) hk hd hlow, hc]
      rfl
    · subst hc
      obtain ⟨hb, hcount⟩ := State.slotSent_injected hpos hrun hp ht (hd c le_rfl l) hi
        (((InjChan.slot_rest _ _).2.2 p i hp hi).trans hk) fun d hdc => ⟨hlow d hdc, hd d hdc.le l⟩
      rw [(State.sourceBlock_eq s l).1, State.lane, hlanes]
      exact ⟨hb, hcount⟩

end Sys2Proof.Machine
end

section
/-! A payload block in its lane: the buffers, the expected pattern, acquisition, the locked checker. -/

namespace Sys2Proof.Machine

variable {s t u : State} {l m : LaneNo} {X Y : Lane} {b : Block} {fp : Option (FrameSeq × Nat)}

/-! ### The expected pattern -/

/-- R43: the expected block of a checker's pattern state. -/
def State.expectedBlock (s : State) (l : LaneNo) (k : Checker) : Block :=
  if patIsUser (s.rxPat l).kind then inverted (s.rxPat l).invert (patRead s.patMem ((s.rxPat l).start + k.phase)).data
  else inverted (s.rxPat l).invert (prbsBlock (s.rxPat l).kind k.stages).1

/-- The pattern state one block on. -/
def State.expectedCk (s : State) (l : LaneNo) (k : Checker) : Checker :=
  if patIsUser (s.rxPat l).kind then { k with phase := nextPhase k.phase (s.rxPat l).len }
  else { k with stages := (prbsBlock (s.rxPat l).kind k.stages).2 }

theorem State.expected_fst : (s.expected l).1 = s.expectedBlock l (s.lane l).ck := by
  unfold State.expectedBlock
  split
  · next h => rw [State.expected_of_user h]; rfl
  · next h => rw [State.expected_of_prbs h]

/-- The pattern state alone moves. -/
theorem State.expectedCk_rest (k : Checker) : s.expectedCk l k = { k with
    phase := (s.expectedCk l k).phase, stages := (s.expectedCk l k).stages } := by
  unfold State.expectedCk
  split <;> rfl

/-- A window without what a read of pattern memory changes (R24, R25). -/
def Win.unread (w : Win) : Win := { w with banks := Four.all false, suspect := false }

theorem State.lane_markSuspects (bk : BankNo) : (s.markSuspects bk).lane l =
    if (s.lane l).win.isOpen && (s.lane l).win.banks.get bk && s.memFault.get bk then
      { s.lane l with win := { (s.lane l).win with suspect := true } } else s.lane l := Eight.get_map _ s.lanes l

namespace State.As

theorem patMem (h : s.As l t X) : t.patMem = s.patMem := (congrArg Fixed.patMem h.fixed :)

theorem expected_fst (h : s.As l t X) : (t.expected l).1 = s.expectedBlock l X.ck := by
  rw [State.expected_fst, h.ck]
  unfold State.expectedBlock
  rw [h.rxPat, h.patMem]

theorem readPattern (h : s.As l t X) (i : Nat) (byChecker : Bool) : ∃ w, w.unread = X.win.unread ∧
    w.banks = X.win.banks.set (bankOf i) true ∧ s.As l (t.readPattern l i byChecker).2 { X with win := w } := by
  have hmark : ∀ {v : State} {Y : Lane} (bk : BankNo), s.As l v Y → ∃ su, s.As l (v.markSuspects bk)
      { Y with win := { Y.win with suspect := su } } := fun {v Y} bk hv => by
    refine ⟨if Y.win.isOpen && Y.win.banks.get bk && v.memFault.get bk then true else Y.win.suspect, hv.fixed, ?_⟩
    rw [State.lane_markSuspects, hv.win]
    split
    · next hc =>
      exact congrArg (fun L : Lane => { L with win := { Y.win with suspect := true } }) hv.stands
    · next hc => exact hv.stands
  have hwin := h.modWin fun v => { v with banks := v.banks.set (bankOf i) true }
  have hfault : s.As l (if (patRead t.patMem i).agrees || (t.modWin l fun v => { v with banks := v.banks.set (bankOf i) true }).memFault.get (bankOf i)
      then t.modWin l fun v => { v with banks := v.banks.set (bankOf i) true }
      else State.notify { t.modWin l fun v => { v with banks := v.banks.set (bankOf i) true } with
        memFault := (t.modWin l fun v => { v with banks := v.banks.set (bankOf i) true }).memFault.set (bankOf i) true }
        (.memoryFault (bankOf i) i l byChecker)) { X with win := { X.win with banks := X.win.banks.set (bankOf i) true } } := by
    split
    · exact hwin
    · exact State.As.notify (t := { t.modWin l fun v => { v with banks := v.banks.set (bankOf i) true } with
        memFault := (t.modWin l fun v => { v with banks := v.banks.set (bankOf i) true }).memFault.set (bankOf i) true })
        ⟨hwin.fixed, hwin.stands⟩ _
  obtain ⟨su, hsu⟩ := hmark (bankOf i) hfault
  exact ⟨{ X.win with banks := X.win.banks.set (bankOf i) true, suspect := su }, rfl, rfl, hsu⟩

theorem expected (h : s.As l t X) : ∃ w, w.unread = X.win.unread ∧
    s.As l (t.expected l).2 { X with ck := s.expectedCk l X.ck, win := w } := by
  unfold State.expectedCk
  by_cases hu : patIsUser (t.rxPat l).kind = true
  · rw [State.expected_of_user hu]
    rw [h.rxPat] at hu
    rw [if_pos hu, h.rxPat]
    obtain ⟨w, hw, -, has⟩ := h.readPattern ((s.rxPat l).start + (t.lane l).ck.phase) true
    exact ⟨w, hw, has.modCk fun k => { k with phase := nextPhase k.phase (s.rxPat l).len }⟩
  · rw [State.expected_of_prbs hu]
    rw [h.rxPat] at hu
    rw [if_neg hu, h.rxPat, h.ck]
    exact ⟨X.win, rfl, h.modCk fun k => { k with stages := (prbsBlock (s.rxPat l).kind X.ck.stages).2 }⟩

/-- R55: the pattern state goes on without a read. -/
theorem advanceHeld (h : s.As l t X) : s.As l (t.advanceHeld l) { X with ck := s.expectedCk l X.ck } := by
  unfold State.advanceHeld State.expectedCk
  dsimp only
  rw [h.rxPat]
  exact h.modCk _

end State.As

/-! ### Acquisition -/

/-- R41: the checker after a seed block. -/
def State.seededCk (s : State) (l : LaneNo) (b : Block) (k : Checker) : Checker :=
  if seedStages (patOrder (s.rxPat l).kind) (inverted (s.rxPat l).invert b) = 0 then
    { k with state := .hunt, reason := .waitSeed, confirmRun := 0 }
  else
    { k with state := .confirm, confirmRun := 0, stages := seedStages (patOrder (s.rxPat l).kind) (inverted (s.rxPat l).invert b) }

/-- R44: the checker after a block taken in CONFIRM. -/
def State.confirmedCk (s : State) (l : LaneNo) (b : Block) (k : Checker) : Checker :=
  if bitErrors b (s.expectedBlock l k) = 0 then
    if (s.desc l).confirm ≤ k.confirmRun + 1 then
      { s.expectedCk l k with confirmRun := k.confirmRun + 1, state := .locked, sinceLock := 0 }
    else { s.expectedCk l k with confirmRun := k.confirmRun + 1 }
  else if patIsUser (s.rxPat l).kind then { s.expectedCk l k with state := .hunt, reason := .waitPhase, confirmRun := 0 }
  else s.seededCk l b (s.expectedCk l k)

theorem State.expectedCk_confirmRun (k : Checker) : (s.expectedCk l k).confirmRun = k.confirmRun := by
  rw [State.expectedCk_rest]

theorem State.seededCk_run (k : Checker) : (s.seededCk l b k).run = k.run := by
  unfold State.seededCk
  split <;> rfl

theorem State.expectedCk_run (k : Checker) : (s.expectedCk l k).run = k.run := by
  rw [State.expectedCk_rest]

theorem State.confirmedCk_run (k : Checker) : (s.confirmedCk l b k).run = k.run := by
  unfold State.confirmedCk
  split
  · split <;> exact State.expectedCk_run k
  · split
    · exact State.expectedCk_run k
    · rw [State.seededCk_run, State.expectedCk_run]

namespace State.As

theorem seedBlock (h : s.As l t X) (b : Block) : s.As l (t.seedBlock l b) { X with ck := s.seededCk l b X.ck } := by
  unfold State.seedBlock State.seededCk
  dsimp only
  rw [h.rxPat]
  exact h.modCk _

theorem enterLocked (h : s.As l t X) : s.As l (t.enterLocked l)
    { X with ck := { X.ck with state := .locked, sinceLock := 0 }, firstErr := false } :=
  (h.modLane (f := fun L => { L with ck := { L.ck with state := .locked, sinceLock := 0 }, firstErr := false })).notify _

theorem confirmBlock (h : s.As l t X) (b : Block) : ∃ w fe, w.unread = X.win.unread ∧ s.As l (t.confirmBlock l b)
    { Lane.report (Counts.addUnsynced 1) { X with win := w } with ck := s.confirmedCk l b X.ck, firstErr := fe } := by
  obtain ⟨w, hw, hexp⟩ := h.expected
  have hrep := hexp.report (Counts.addUnsynced 1)
  unfold State.confirmBlock State.confirmedCk
  dsimp only
  rw [h.expected_fst, h.rxPat]
  split
  · have hrun := hrep.modCk fun k => { k with confirmRun := k.confirmRun + 1 }
    rw [hrun.desc, hrun.ck]
    have hcount : (Lane.report (Counts.addUnsynced 1) { X with ck := s.expectedCk l X.ck, win := w }).ck.confirmRun =
      X.ck.confirmRun := State.expectedCk_confirmRun X.ck
    dsimp only
    rw [hcount]
    split
    · refine ⟨w, false, hw, hrun.enterLocked.congr ?_⟩
      dsimp only
      rw [hcount]
      rfl
    · refine ⟨w, X.firstErr, hw, hrun.congr ?_⟩
      rw [hcount]
      rfl
  · split
    · exact ⟨w, X.firstErr, hw, hrep.modCk fun k => { k with state := .hunt, reason := .waitPhase, confirmRun := 0 }⟩
    · exact ⟨w, X.firstErr, hw, hrep.seedBlock b⟩

end State.As

/-! ### The locked checker -/

/-- What the checker learns of a block taken in LOCKED (R43, R46). -/
def State.checked (s : State) (l : LaneNo) (b : Block) (fp : Option (FrameSeq × Nat)) (L : Lane) : Checked where
  errs := bitErrors b (s.expectedBlock l L.ck)
  seq := fp.map Prod.fst
  pos := match fp with
    | some p => p.2
    | none => L.ck.sinceLock.toNat
  tick := s.tick
  wants := policyAdmits (s.desc l).policy .bitErrors
  winTag := L.win.tag
  runTag := L.run.tag

/-- The lane after the comparison of a block taken in LOCKED. -/
def State.compared (s : State) (l : LaneNo) (w : Win) (L : Lane) : Lane :=
  { L with ck := { s.expectedCk l L.ck with sinceLock := L.ck.sinceLock + 1 }, win := w }

/-- The lane with a heavy block at the end of its pending heavy run. -/
def Lane.pending (c : Checked) (L : Lane) : Lane := { L with ck := { L.ck with run := L.ck.run ++ [.heavy c] } }

/-- R45 to R48: the lane after a block taken in LOCKED. -/
def State.lockedLane (s : State) (l : LaneNo) (c : Checked) (L : Lane) : Lane :=
  if c.errs < (s.desc l).heavy then s.countedLane l c (s.releasedLane l L)
  else if (s.desc l).lossRun ≤ heavyCount L.ck.run + 1 then s.lostLane l .block ((L.pending c).discarded true)
  else L.pending c

theorem State.compared_run (w : Win) (L : Lane) : (s.compared l w L).ck.run = L.ck.run := State.expectedCk_run L.ck

/-- The state in which a block taken in LOCKED is judged. -/
def State.comparedAt (t : State) (l : LaneNo) : State := (t.expected l).2.modCk l fun k => { k with sinceLock := k.sinceLock + 1 }

theorem State.As.comparedAt (h : s.As l t X) : ∃ w, w.unread = X.win.unread ∧ s.As l (t.comparedAt l) (s.compared l w X) := by
  obtain ⟨w, hw, hexp⟩ := h.expected
  refine ⟨w, hw, (hexp.modCk fun k => { k with sinceLock := k.sinceLock + 1 }).congr ?_⟩
  have hsince : (s.expectedCk l X.ck).sinceLock = X.ck.sinceLock := by rw [State.expectedCk_rest]
  unfold State.compared
  dsimp only
  rw [hsince]

/-- R45 to R48, in two steps: the comparison, then what follows from it. -/
theorem State.As.lockedBlock_eq (h : s.As l t X) (b : Block) (fp : Option (FrameSeq × Nat)) :
    t.lockedBlock l b fp =
      if (s.checked l b fp X).errs < (s.desc l).heavy then ((t.comparedAt l).releaseRun l).countBlock l (s.checked l b fp X)
      else if (s.desc l).lossRun ≤ heavyCount X.ck.run + 1 then
        (((t.comparedAt l).modCk l fun k => { k with run := k.run ++ [.heavy (s.checked l b fp X)] }).discardRun l true true).countLoss l
          .block (s.checked l b fp X).seq (s.checked l b fp X).pos
      else (t.comparedAt l).modCk l fun k => { k with run := k.run ++ [.heavy (s.checked l b fp X)] } := by
  obtain ⟨w, hw, hexp⟩ := h.expected
  obtain ⟨w', -, hcomp⟩ := h.comparedAt
  have htag : w.tag = X.win.tag := (congrArg Win.tag hw :)
  have hsince : (s.expectedCk l X.ck).sinceLock = X.ck.sinceLock := by rw [State.expectedCk_rest]
  have hc : (⟨bitErrors b (t.expected l).1, fp.map Prod.fst, match fp with
      | some p => p.2
      | none => ((t.expected l).2.lane l).ck.sinceLock.toNat,
      (t.expected l).2.tick, policyAdmits ((t.expected l).2.desc l).policy .bitErrors, ((t.expected l).2.lane l).win.tag,
      ((t.expected l).2.lane l).run.tag⟩ : Checked) = s.checked l b fp X := by
    rw [h.expected_fst, hexp.ck, hexp.win, hexp.run, hexp.tick, hexp.desc]
    unfold State.checked
    dsimp only
    rw [htag, hsince]
  unfold State.lockedBlock
  dsimp only
  have hrun : (((t.expected l).2.modCk l fun k => { k with sinceLock := k.sinceLock + 1 }).lane l).ck.run = X.ck.run := by
    refine (congrArg Checker.run hcomp.ck).trans ?_
    exact State.compared_run w' X
  have hd : ((t.expected l).2.modCk l fun k => { k with sinceLock := k.sinceLock + 1 }).desc l = s.desc l := hcomp.desc l
  rw [hd, hrun]
  have herr : bitErrors b (t.expected l).1 = (s.checked l b fp X).errs := (congrArg Checked.errs hc :)
  rw [herr] at hc ⊢
  refine if_congr Iff.rfl ?_ (if_congr Iff.rfl ?_ ?_)
  · exact congrArg (fun c => ((t.comparedAt l).releaseRun l).countBlock l c) hc
  · exact congrArg (fun c => (((t.comparedAt l).modCk l fun k => { k with run := k.run ++ [.heavy c] }).discardRun l true true).countLoss l
          .block c.seq c.pos) hc
  · exact congrArg (fun c => (t.comparedAt l).modCk l fun k => { k with run := k.run ++ [.heavy c] }) hc

theorem State.As.lockedBlock (h : s.As l t X) (b : Block) (fp : Option (FrameSeq × Nat)) : ∃ w, w.unread = X.win.unread ∧
    s.As l (t.lockedBlock l b fp) (s.lockedLane l (s.checked l b fp X) (s.compared l w X)) := by
  obtain ⟨w, hw, hcomp⟩ := h.comparedAt
  refine ⟨w, hw, ?_⟩
  rw [h.lockedBlock_eq, State.lockedLane, State.compared_run]
  split
  · exact hcomp.releaseRun.countBlock (by rw [State.releasedLane_ck]) _
  · have hpend := hcomp.modCk fun k => { k with run := k.run ++ [.heavy (s.checked l b fp X)] }
    split
    · exact (hpend.discardRun true true).countLoss (by rw [Lane.discarded_ck]) _ _ _
    · exact hpend

end Sys2Proof.Machine
end

section
/-! RECEIVE_BLOCK with a payload block: buffers, held and unsynced blocks. -/

namespace Sys2Proof.Machine

variable {s t u : State} {l m : LaneNo} {X Y : Lane} {b : Block} {fp : Option (FrameSeq × Nat)}

/-! ### What no measuring operation moves -/

/-- A lane without what its checker, its windows, its trigger and its hold change. -/
def Lane.unchecked (L : Lane) : Lane :=
  { Lane.reset with
    tx := L.tx, al := L.al, alarm := L.alarm, alarmKnown := L.alarmKnown, idm := L.idm, rxBuf := L.rxBuf, rxDrops := L.rxDrops
    remote := L.remote }

theorem State.releasedLane_unchecked (L : Lane) : (s.releasedLane l L).unchecked = L.unchecked :=
  (congrArg Lane.unchecked (State.releasedLane_rest L) :)

theorem Lane.discarded_unchecked (c : Bool) (L : Lane) : (L.discarded c).unchecked = L.unchecked :=
  (congrArg Lane.unchecked (Lane.discarded_rest c L) :)

theorem State.closedLane_unchecked (r : CloseReason) (L : Lane) : (s.closedLane l r L).unchecked = L.unchecked :=
  (congrArg Lane.unchecked (State.closingLane_rest r L) :)

theorem State.lostLane_unchecked (k : LossKind) (L : Lane) : (s.lostLane l k L).unchecked = L.unchecked := rfl

theorem State.lockedLane_unchecked (c : Checked) (L : Lane) : (s.lockedLane l c L).unchecked = L.unchecked := by
  unfold State.lockedLane
  split
  · exact State.releasedLane_unchecked L
  · split
    · exact Lane.discarded_unchecked true (L.pending c)
    · rfl

/-! ### After the checker: pseudo-frames, frame steps -/

namespace State.As

/-- R80: a payload block on a RAW lane whose window does not reach a pseudo-frame boundary, or whose run is empty. -/
theorem rawAdvance (h : s.As l t X) (hr : X.ck.run = []) : ∃ w, s.As l (t.rawAdvance l) { X with run := X.run.rawAdvance, win := w } := by
  unfold State.rawAdvance
  have hrun := h.modLane (f := fun L => { L with run := L.run.rawAdvance })
  dsimp only
  rw [hrun.win]
  split
  · exact ⟨X.win, hrun⟩
  · next ho =>
    split
    · exact ⟨_, hrun.modWin fun w => { w with pseudo := w.pseudo + 1 }⟩
    · unfold State.pseudoBoundary
      have hpseudo := hrun.modWin Win.addPseudo
      dsimp only
      split
      · have hclosed := hpseudo.closeWindow (show X.win.isOpen = true by simpa using ho) .length
        unfold State.closedLane at hclosed
        rw [State.closingLane_of_nil (by exact hr)] at hclosed
        exact ⟨_, hclosed⟩
      · exact ⟨_, hpseudo⟩

/-- The same where the window is closed or its pseudo-frame goes on: the window's position alone moves. -/
theorem rawAdvance_inside (h : s.As l t X) (hw : X.win.isOpen = false ∨ X.win.pseudo < 127) :
    ∃ n, s.As l (t.rawAdvance l) { X with run := X.run.rawAdvance, win := { X.win with pseudo := n } } := by
  unfold State.rawAdvance
  have hrun := h.modLane (f := fun L => { L with run := L.run.rawAdvance })
  dsimp only
  rw [hrun.win]
  split
  · exact ⟨X.win.pseudo, hrun⟩
  · next ho =>
    have hp : X.win.pseudo + 1 < 128 := by
      have := hw.resolve_left (by simpa using ho)
      omega
    rw [if_pos hp]
    exact ⟨_, hrun.modWin fun w => { w with pseudo := w.pseudo + 1 }⟩

theorem rawAdvance_unchecked (h : s.As l t X) : ∃ Y, s.As l (t.rawAdvance l) Y ∧ Y.unchecked = X.unchecked := by
  unfold State.rawAdvance
  have hrun := h.modLane (f := fun L => { L with run := L.run.rawAdvance })
  dsimp only
  rw [hrun.win]
  split
  · exact ⟨_, hrun, rfl⟩
  · next ho =>
    split
    · exact ⟨_, hrun.modWin fun w => { w with pseudo := w.pseudo + 1 }, rfl⟩
    · unfold State.pseudoBoundary
      have hpseudo := hrun.modWin Win.addPseudo
      dsimp only
      split
      · exact ⟨_, hpseudo.closeWindow (show X.win.isOpen = true by simpa using ho) .length, State.closedLane_unchecked ..⟩
      · exact ⟨_, hpseudo, rfl⟩

/-- R141: the end of a frame step, and the step count of a RAW lane, move the hold alone, and only of a STEPPING lane. -/
theorem endStep (h : s.As l t X) (q : Option FrameSeq) : ∃ hold n, s.As l (t.endStep l q) { X with hold := hold, stepCount := n } ∧
    (X.hold ≠ .stepping → hold = X.hold) := by
  unfold State.endStep
  rw [h.hold]
  split
  · next hs =>
    refine ⟨_, _, ((h.modLane (f := fun L => { L with hold := .held, stepCount := 0 })).notify _).groupRefresh l, fun hne => ?_⟩
    exact absurd (beq_iff_eq.mp hs) hne
  · exact ⟨X.hold, X.stepCount, h, fun _ => rfl⟩

theorem stepRaw (h : s.As l t X) : ∃ hold n, s.As l (t.stepRaw l) { X with hold := hold, stepCount := n } ∧
    (X.hold ≠ .stepping → hold = X.hold) := by
  unfold State.stepRaw
  rw [h.hold]
  split
  · next hs =>
    split
    · exact ⟨X.hold, _, h.modLane (f := fun L => { L with stepCount := L.stepCount + 1 }), fun _ => rfl⟩
    · exact h.endStep none
  · exact ⟨X.hold, X.stepCount, h, fun _ => rfl⟩

/-! ### The checker -/

/-- A lane that does not count takes a held block (R52, R55). -/
theorem checkerTake_held (h : s.As l t X) (hon : X.ck.state ≠ .off) (hc : s.countsAt l X.hold = false) :
    s.As l (t.checkerTake l b fp) { X.report Counts.addHeld with
      ck := if X.ck.state = .confirm ∨ X.ck.state = .locked then s.expectedCk l X.ck else X.ck } := by
  have hrep := h.report Counts.addHeld
  have hst : (X.report Counts.addHeld).ck = X.ck := rfl
  unfold State.checkerTake
  rw [h.ckOff, if_neg (by simpa using hon), h.counts, hc, if_neg Bool.false_ne_true]
  dsimp only
  rw [hrep.ck, hst]
  cases hk : X.ck.state with
  | off => exact absurd hk hon
  | hunt => exact hrep
  | lost => exact hrep
  | confirm => exact hrep.advanceHeld
  | locked => exact hrep.advanceHeld

theorem checkerTake_counts (h : s.As l t X) (hon : X.ck.state ≠ .off) (hc : s.countsAt l X.hold = true) :
    t.checkerTake l b fp = if s.rxFramed l then t.checkBlock l b fp else (t.checkBlock l b fp).rawAdvance l := by
  have hframed : (t.checkBlock l b fp).rxFramed l = s.rxFramed l := by
    have hf : (t.checkBlock l b fp).fixed = s.fixed := (State.checkBlock_fixed ..).trans h.fixed
    have h1 : (t.checkBlock l b fp).configured = s.configured := (congrArg Fixed.configured hf :)
    rw [State.rxFramed, h1, State.desc_of_fixed hf, State.rxFramed]
  unfold State.checkerTake
  rw [h.ckOff, if_neg (by simpa using hon), h.counts, hc, if_pos rfl]
  dsimp only
  rw [hframed]

/-- The state in which a counting checker takes a payload block: a LOST one hunts with auto-resync (R49). -/
theorem checkBlock_eq (h : s.As l t X) (hno : X.ck.state ≠ .lost ∨ (s.desc l).autoResync = false) :
    t.checkBlock l b fp = match X.ck.state with
      | .off => t
      | .lost => t.report l (Counts.addUnsynced 1)
      | .hunt => if X.ck.reason == .waitSeed then (t.report l (Counts.addUnsynced 1)).seedBlock l b
        else t.report l (Counts.addUnsynced 1)
      | .confirm => t.confirmBlock l b
      | .locked => t.lockedBlock l b fp := by
  have hc : ¬(((t.lane l).ck.state == .lost && (t.desc l).autoResync) = true) := by
    rw [h.ck, h.desc, Bool.and_eq_true, beq_iff_eq]
    rintro ⟨h1, h2⟩
    rcases hno with h3 | h3
    · exact h3 h1
    · exact Bool.false_ne_true (h3.symm.trans h2)
  have hstate : (t.lane l).ck.state = X.ck.state := by rw [h.ck]
  have hreason : ((t.report l (Counts.addUnsynced 1)).lane l).ck.reason = X.ck.reason := by
    rw [(h.report (Counts.addUnsynced 1)).ck]
    rfl
  unfold State.checkBlock
  dsimp only
  rw [if_neg hc, hreason]
  cases hk : X.ck.state with
  | off => rw [hstate, hk]
  | hunt => rw [hstate, hk]
  | confirm => rw [hstate, hk]
  | locked => rw [hstate, hk]
  | lost => rw [hstate, hk]

theorem checkBlock_resyncs (h : s.As l t X) (hal : X.al.state = (s.lane l).al.state) (hst : X.ck.state = .lost)
    (ha : (s.desc l).autoResync = true) : t.checkBlock l b fp = (t.enterHunt l).checkBlock l b fp := by
  have hc : ((t.lane l).ck.state == .lost && (t.desc l).autoResync) = true := by
    rw [h.ck, h.desc, hst, ha]
    rfl
  have hh := h.enterHunt hal
  have hc' : ¬((((t.enterHunt l).lane l).ck.state == .lost && ((t.enterHunt l).desc l).autoResync) = true) := by
    rw [hh.ck]
    exact fun h => Bool.false_ne_true h
  unfold State.checkBlock
  dsimp only
  rw [if_pos hc, if_neg hc']

theorem checkBlock_unchecked (h : s.As l t X) (hal : X.al.state = (s.lane l).al.state) :
    ∃ Y, s.As l (t.checkBlock l b fp) Y ∧ Y.unchecked = X.unchecked := by
  have key : ∀ {t : State} {X : Lane}, s.As l t X → (X.ck.state ≠ .lost ∨ (s.desc l).autoResync = false) →
      ∃ Y, s.As l (t.checkBlock l b fp) Y ∧ Y.unchecked = X.unchecked := fun {t X} h hno => by
    rw [h.checkBlock_eq hno]
    have hrep := h.report (Counts.addUnsynced 1)
    cases X.ck.state with
    | off => exact ⟨X, h, rfl⟩
    | lost => exact ⟨_, hrep, rfl⟩
    | hunt =>
      dsimp only
      split
      · exact ⟨_, hrep.seedBlock b, rfl⟩
      · exact ⟨_, hrep, rfl⟩
    | confirm =>
      obtain ⟨w, fe, -, has⟩ := h.confirmBlock b
      exact ⟨_, has, rfl⟩
    | locked =>
      obtain ⟨w, -, has⟩ := h.lockedBlock b fp
      exact ⟨_, has, (State.lockedLane_unchecked _ _).trans rfl⟩
  by_cases hno : X.ck.state ≠ .lost ∨ (s.desc l).autoResync = false
  · exact key h hno
  · rw [not_or, not_not, Bool.not_eq_false] at hno
    rw [h.checkBlock_resyncs hal hno.1 hno.2]
    have hne : (X.hunting (s.huntReason l)).ck.state ≠ .lost := fun h => nomatch (h : CkState.hunt = .lost)
    obtain ⟨Y, hY, hu⟩ := key (h.enterHunt hal) (.inl hne)
    exact ⟨Y, hY, hu⟩

theorem checkerTake_unchecked (h : s.As l t X) (hal : X.al.state = (s.lane l).al.state) :
    ∃ Y, s.As l (t.checkerTake l b fp) Y ∧ Y.unchecked = X.unchecked := by
  by_cases hoff : X.ck.state = .off
  · unfold State.checkerTake
    rw [h.ckOff, if_pos (by simpa using hoff)]
    exact ⟨X, h, rfl⟩
  · cases hc : s.countsAt l X.hold with
    | false => exact ⟨_, h.checkerTake_held hoff hc, rfl⟩
    | true =>
      obtain ⟨Y, hY, hu⟩ := h.checkBlock_unchecked (b := b) (fp := fp) hal
      rw [h.checkerTake_counts hoff hc]
      split
      · exact ⟨Y, hY, hu⟩
      · obtain ⟨Z, hZ, hv⟩ := hY.rawAdvance_unchecked
        exact ⟨Z, hZ, hv.trans hu⟩

end State.As

end Sys2Proof.Machine
end

section
/-! Payload blocks: buffers, held blocks, acquisition, LOST. -/

namespace Sys2Proof.Machine

variable {s t u v : State} {l m : LaneNo} {X Y : Lane} {a : Aligner} {b : Block} {fp : Option (FrameSeq × Nat)}

/-! ### The arrival of a payload block -/

/-- A payload block at the echo path and the receive pass buffer of its lane, the aligner moved on (R33, R169). -/
def Lane.arrived (b : Block) (buffered : Bool) (a : Aligner) (L : Lane) : Lane :=
  if buffered then Lane.placeRx { L with al := a, tx := L.tx.echo b } b else { L with al := a, tx := L.tx.echo b }

/-- The state in which the checker takes a payload block. -/
def State.placed (s : State) (l : LaneNo) (b : Block) (a : Aligner) : State :=
  s.putLane l ((s.lane l).arrived b (s.rxMode l == some .pass || s.rxMode l == some .monitor) a)

/-- What follows the checker at a payload block: a RAW lane's frame step, and the hold requests. -/
def State.payloadEnd (s : State) (l : LaneNo) (v : State) : State := (if s.rxFramed l then v else v.stepRaw l).settleHolds

theorem Lane.arrived_rest (b : Block) (f : Bool) (a : Aligner) (L : Lane) : L.arrived b f a = { L with
    al := a, tx := L.tx.echo b, rxBuf := (L.arrived b f a).rxBuf, rxDrops := (L.arrived b f a).rxDrops } := by
  unfold Lane.arrived Lane.placeRx
  split
  · dsimp only
    split <;> rfl
  · rfl

theorem State.lane_placed : (s.placed l b a).lane l = (s.lane l).arrived b (s.rxMode l == some .pass || s.rxMode l == some .monitor) a :=
  (Eight.get_set ..).trans (if_pos rfl)

theorem State.payload_eq : (s.modAl l (fun _ => a)).payload l b fp =
    if s.rxFramed l then (s.placed l b a).checkerTake l b fp else ((s.placed l b a).checkerTake l b fp).stepRaw l := by
  have hplaced : (if s.rxMode l == some .pass || s.rxMode l == some .monitor then
        ((s.modAl l (fun _ => a)).modTx l fun t => t.echo b).modLane l fun L => L.placeRx b
      else (s.modAl l (fun _ => a)).modTx l fun t => t.echo b) = s.placed l b a := by
    unfold State.placed Lane.arrived
    split
    · rw [State.modAl, State.modTx, State.modLane_modLane, State.modLane_modLane]
      rfl
    · rw [State.modAl, State.modTx, State.modLane_modLane]
      rfl
  have hframed : ((s.placed l b a).checkerTake l b fp).rxFramed l = s.rxFramed l := by
    have hf : ((s.placed l b a).checkerTake l b fp).fixed = s.fixed := State.checkerTake_fixed ..
    have h1 : ((s.placed l b a).checkerTake l b fp).configured = s.configured := (congrArg Fixed.configured hf :)
    rw [State.rxFramed, h1, State.desc_of_fixed hf, State.rxFramed]
  unfold State.payload
  dsimp only
  have hmode : ((s.modAl l (fun _ => a)).modTx l fun t => t.echo b).rxMode l = s.rxMode l := rfl
  rw [hmode, hplaced, hframed]

theorem State.modAl_self : s.modAl l (fun _ => (s.lane l).al) = s := by
  rw [State.modAl, State.modLane_eq_putLane]
  exact State.putLane_self

theorem State.modAl_const (f : Aligner → Aligner) : s.modAl l f = s.modAl l (fun _ => f (s.lane l).al) := rfl

/-- R8 to R13: a payload block, as the aligner hands it on. -/
theorem State.receive_payload (h : s.isPayload l b = true) : ∃ a fp,
    s.receive l b = (s.modAl l (fun _ => a)).payload l b fp ∧ (a.state = .aligned ↔ (s.lane l).al.state = .aligned) ∧
    (s.rxFramed l = true → s.aligned l = true → fp = some ((s.lane l).al.seq, (s.lane l).al.pos)) ∧
    (s.rxFramed l = false → fp = none) := by
  unfold State.receive
  cases hf : s.rxFramed l with
  | false =>
    refine ⟨(s.lane l).al, none, ?_, Iff.rfl, fun h => Bool.noConfusion h, fun _ => rfl⟩
    rw [if_neg Bool.false_ne_true, State.modAl_self]
  | true =>
    unfold State.isPayload at h
    rw [hf, Bool.not_true, Bool.false_or] at h
    rw [if_pos rfl]
    unfold State.alignBlock
    dsimp only
    cases hst : (s.lane l).al.state with
    | seek =>
      rw [hst] at h
      have hbad : goodMarker b = false := by simpa using h
      have hno : s.aligned l = true → False := fun h => by
        rw [State.aligned_iff, hst] at h
        exact nomatch h
      dsimp only
      rw [hbad, if_neg Bool.false_ne_true]
      exact ⟨(s.lane l).al, none, by rw [State.modAl_self], by rw [hst], fun _ h => (hno h).elim, fun h => Bool.noConfusion h⟩
    | trial =>
      rw [hst] at h
      have hno : s.aligned l = true → False := fun h => by
        rw [State.aligned_iff, hst] at h
        exact nomatch h
      dsimp only
      split
      · exact ⟨{ (s.lane l).al with pos := (s.lane l).al.pos + 1 }, none, rfl, by rw [hst], fun _ h => (hno h).elim,
          fun h => Bool.noConfusion h⟩
      · next hp =>
        have hbad : goodMarker b = false := by
          simp only [Bool.or_eq_true, decide_eq_true_eq, Bool.not_eq_true'] at h
          exact h.resolve_left (by omega)
        rw [hbad, if_neg Bool.false_ne_true]
        exact ⟨{ (s.lane l).al with state := .seek, pos := 0, trial := 0 }, none, rfl,
          ⟨fun h => (nomatch (h : AlState.seek = .aligned)), fun h => (nomatch h)⟩,
          fun _ h => (hno h).elim, fun h => Bool.noConfusion h⟩
    | aligned =>
      rw [hst] at h
      have hp : (s.lane l).al.pos + 1 < 128 := by
        simp only [decide_eq_true_eq] at h
        omega
      dsimp only
      rw [if_pos hp]
      exact ⟨{ (s.lane l).al with pos := (s.lane l).al.pos + 1 }, _, rfl, by rw [hst], fun _ _ => rfl,
        fun h => Bool.noConfusion h⟩

theorem exec_receiveBlock : exec (.receiveBlock l b) s = .next (s.receive l b).settleHolds := rfl

/-- A payload block's step, from the state in which its checker takes it. -/
theorem State.exec_payload (h : s.isPayload l b = true) : ∃ a fp,
    exec (.receiveBlock l b) s = .next (s.payloadEnd l ((s.placed l b a).checkerTake l b fp)) ∧
    (a.state = .aligned ↔ (s.lane l).al.state = .aligned) ∧
    (s.rxFramed l = true → s.aligned l = true → fp = some ((s.lane l).al.seq, (s.lane l).al.pos)) ∧
    (s.rxFramed l = false → fp = none) := by
  obtain ⟨a, fp, he, hal, hfp, hnone⟩ := State.receive_payload h
  refine ⟨a, fp, ?_, hal, hfp, hnone⟩
  rw [exec_receiveBlock, he, State.payload_eq, State.payloadEnd]

namespace State.As

/-- The end of a payload block moves the lane's hold alone. -/
theorem payloadEnd (h : u.As l v Y) (s : State) : ∃ hold n, u.As l (s.payloadEnd l v) (Lane.settled { Y with hold := hold, stepCount := n }) ∧
    (Y.hold ≠ .stepping → hold = Y.hold) := by
  unfold State.payloadEnd
  split
  · exact ⟨Y.hold, Y.stepCount, h.settleHolds, fun _ => rfl⟩
  · obtain ⟨hold, n, hs, hk⟩ := h.stepRaw
    exact ⟨hold, n, hs.settleHolds, hk⟩

/-- A counting checker whose pending heavy run is empty after the block. -/
theorem checkerTake_counted (h : s.As l t X) (hon : X.ck.state ≠ .off) (hc : s.countsAt l X.hold = true)
    (hB : s.As l (t.checkBlock l b fp) Y) (hr : Y.ck.run = []) :
    ∃ w r, s.As l (t.checkerTake l b fp) { Y with win := w, run := r } ∧ r.counts = Y.run.counts ∧
      (s.rxFramed l = true → w = Y.win ∧ r = Y.run) ∧ (s.rxFramed l = false → r = Y.run.rawAdvance) := by
  have hcounts : Y.run.rawAdvance.counts = Y.run.counts := by
    unfold RunTotals.rawAdvance
    split <;> rfl
  rw [h.checkerTake_counts hon hc]
  cases hf : s.rxFramed l with
  | true => exact ⟨Y.win, Y.run, hB, rfl, fun _ => ⟨rfl, rfl⟩, fun h => Bool.noConfusion h⟩
  | false =>
    obtain ⟨w, hw⟩ := hB.rawAdvance hr
    exact ⟨w, Y.run.rawAdvance, hw, hcounts, fun h => Bool.noConfusion h, fun _ => rfl⟩

end State.As

/-! ### The buffers -/

/-- Settles O22: the block at the echo path and the receive pass buffer, which nothing after it moves. -/
theorem payloadReachesBuffers : Obligations.PayloadReachesBuffers := by
  intro s l b h
  obtain ⟨a, fp, he, -, -, -⟩ := State.exec_payload h
  have hrefl : (s.placed l b a).As l (s.placed l b a) _ := .refl
  obtain ⟨Y, hY, hu⟩ := hrefl.checkerTake_unchecked (b := b) (fp := fp) rfl
  obtain ⟨hold, n, hend, -⟩ := hY.payloadEnd s
  rw [State.lane_placed] at hu
  refine ⟨_, he, ?_⟩
  rw [hend.rxBuf, hend.rxDrops, hend.tx]
  have hbuf : Y.rxBuf = _ := (congrArg Lane.rxBuf hu :)
  have hdrops : Y.rxDrops = _ := (congrArg Lane.rxDrops hu :)
  have htx : Y.tx = (s.lane l).tx.echo b := (congrArg Lane.tx hu :).trans (congrArg Lane.tx (Lane.arrived_rest ..) :)
  change ((_ ∨ _ → (_ → Y.rxBuf = _ ∧ Y.rxDrops = _) ∧ (_ → Y.rxBuf = _ ∧ Y.rxDrops = _)) ∧ (_ → _ → Y.rxBuf = _ ∧ Y.rxDrops = _) ∧
    (_ → _ → (_ → Y.tx = _) ∧ (_ → Y.tx = _)) ∧ (_ → Y.tx = _))
  rw [hbuf, hdrops, htx]
  refine ⟨fun hm => ?_, fun h1 h2 => ?_, fun hrun hecho => ?_, fun hno => ?_⟩
  · have hm' : (s.rxMode l == some .pass || s.rxMode l == some .monitor) = true := by simpa using hm
    unfold Lane.arrived Lane.placeRx
    rw [if_pos hm']
    refine ⟨fun hroom => ?_, fun hfull => ?_⟩
    · rw [if_pos hroom]
      exact ⟨rfl, rfl⟩
    · rw [if_neg (Nat.not_lt.mpr hfull)]
      exact ⟨rfl, rfl⟩
  · have hm' : ¬((s.rxMode l == some .pass || s.rxMode l == some .monitor) = true) := by simp [h1, h2]
    unfold Lane.arrived
    rw [if_neg hm']
    exact ⟨rfl, rfl⟩
  · unfold Tx.echo
    rw [if_pos (by simp [hrun, hecho])]
    exact ⟨fun hroom => if_pos hroom, fun hfull => if_neg (Nat.not_lt.mpr hfull)⟩
  · unfold Tx.echo
    refine if_neg ?_
    rw [Bool.and_eq_true, beq_iff_eq, beq_iff_eq]
    exact fun ⟨h1, h2⟩ => hno.elim (fun h => h h1) fun h => h h2

end Sys2Proof.Machine
end

section
/-! Payload blocks that are not counted: held, hunting, confirming, lost. -/

namespace Sys2Proof.Machine

variable {s t u v : State} {l m : LaneNo} {X Y : Lane} {a : Aligner} {b : Block} {fp : Option (FrameSeq × Nat)}

/-! ### Bit errors -/

theorem countBits_eq_zero_iff (b : Block) (n : Nat) : countBits b n = 0 ↔ ∀ k, k < n → b.getLsbD k = false := by
  induction n with
  | zero => exact ⟨fun _ _ h => absurd h (Nat.not_lt_zero _), fun _ => rfl⟩
  | succ n ih =>
    rw [countBits, Nat.add_eq_zero_iff, ih, Bool.toNat_eq_zero]
    refine ⟨fun ⟨h, hn⟩ k hk => ?_, fun h => ⟨fun k hk => h k (Nat.lt_succ_of_lt hk), h n (Nat.lt_succ_self n)⟩⟩
    rcases Nat.lt_succ_iff_lt_or_eq.mp hk with hk | rfl
    · exact h k hk
    · exact hn

theorem bitErrors_eq_zero_iff (b x : Block) : bitErrors b x = 0 ↔ b = x := by
  rw [bitErrors, countBits_eq_zero_iff]
  refine ⟨fun h => BitVec.eq_of_getLsbD_eq fun k hk => ?_, fun h k _ => by rw [h, BitVec.xor_self, BitVec.getLsbD_zero]⟩
  have := h k hk
  rwa [BitVec.getLsbD_xor, bne_eq_false_iff_eq] at this

/-! ### Where the checker finds its lane -/

/-- The lane in which the checker takes a payload block: checker, counts, trigger and hold as they were. -/
theorem State.As.placed (s : State) (l : LaneNo) (b : Block) (a : Aligner) : (s.placed l b a).As l (s.placed l b a) { s.lane l with
    al := a, tx := (s.lane l).tx.echo b
    rxBuf := ((s.lane l).arrived b (s.rxMode l == some .pass || s.rxMode l == some .monitor) a).rxBuf
    rxDrops := ((s.lane l).arrived b (s.rxMode l == some .pass || s.rxMode l == some .monitor) a).rxDrops } := by
  refine ⟨rfl, ?_⟩
  rw [State.lane_placed]
  exact congrArg Lane.still (Lane.arrived_rest ..)

theorem State.al_placed : ((s.placed l b a).lane l).al = a := (State.As.placed s l b a).al

theorem State.expectedBlock_placed (k : Checker) : (s.placed l b a).expectedBlock l k = s.expectedBlock l k := rfl

theorem State.expectedCk_placed (k : Checker) : (s.placed l b a).expectedCk l k = s.expectedCk l k := rfl

theorem State.huntReason_placed (h : a.state = .aligned ↔ (s.lane l).al.state = .aligned) :
    (s.placed l b a).huntReason l = s.huntReason l := by
  have hal : (s.placed l b a).aligned l = s.aligned l := by
    rw [Bool.eq_iff_iff, State.aligned_iff, State.aligned_iff, State.al_placed, h]
  unfold State.huntReason
  rw [hal]
  rfl

/-- A counting checker's block after which the run is empty, to the end of the step. -/
theorem State.exec_counted (h : s.isPayload l b = true) (hon : (s.lane l).ck.state ≠ .off) (hc : s.counting l = true)
    {P : Lane → Prop} (hP : ∀ a fp, (a.state = .aligned ↔ (s.lane l).al.state = .aligned) →
      ∃ Y, (s.placed l b a).As l ((s.placed l b a).checkBlock l b fp) Y ∧ Y.ck.run = [] ∧ P Y) :
    ∃ t : State, exec (.receiveBlock l b) s = .next t ∧ ∃ Y, P Y ∧ (t.lane l).ck = Y.ck ∧ (t.lane l).run.counts = Y.run.counts := by
  obtain ⟨a, fp, he, hal, -, -⟩ := State.exec_payload h
  obtain ⟨Y, hY, hr, hPY⟩ := hP a fp hal
  obtain ⟨w, r, hT, hcounts, -, -⟩ := (State.As.placed s l b a).checkerTake_counted (b := b) (fp := fp) hon hc hY hr
  obtain ⟨hold, n, hend, -⟩ := hT.payloadEnd s
  exact ⟨_, he, Y, hPY, hend.ck, (congrArg RunTotals.counts hend.run).trans hcounts⟩

theorem patIsUser_of_ne {k : PatKind} (h : k ≠ .user) : ¬(patIsUser k = true) := fun h' => h ((patIsUser_iff k).mp h')

/-- R40: the reason of a hunt. -/
theorem State.huntReason_facts (s : State) (l : LaneNo) :
    (s.rxFramed l = true → s.aligned l = false → s.huntReason l = .waitAlign) ∧
    (s.rxFramed l = true → s.aligned l = true → (s.rxPat l).kind ≠ .user → s.huntReason l = .waitSeed) ∧
    (s.rxFramed l = true → s.aligned l = true → (s.rxPat l).kind = .user → s.huntReason l = .waitPhase) ∧
    (s.rxFramed l = false → (s.rxPat l).kind ≠ .user → s.huntReason l = .waitSeed) ∧
    (s.rxFramed l = false → (s.rxPat l).kind = .user → s.huntReason l = .noPhaseSource) := by
  unfold State.huntReason
  refine ⟨fun h1 h2 => ?_, fun h1 h2 h3 => ?_, fun h1 h2 h3 => ?_, fun h1 h3 => ?_, fun h1 h3 => ?_⟩
  · rw [h1, h2]
    rfl
  · rw [h1, h2, Bool.eq_false_iff.mpr (patIsUser_of_ne h3)]
    rfl
  · rw [h1, h2, (patIsUser_iff _).mpr h3]
    rfl
  · rw [h1, Bool.eq_false_iff.mpr (patIsUser_of_ne h3)]
    rfl
  · rw [h1, (patIsUser_iff _).mpr h3]
    rfl

/-- Settles O24: what the checker makes of a block that it does not count, state by state. -/
theorem unlockedAndHeldBlocks : Obligations.UnlockedAndHeldBlocks := by
  refine ⟨fun s l b h hon hc => ?_, fun s l b h hc hrun => ⟨fun hst hreason => ?_, fun hst => ?_⟩, State.huntReason_facts,
    fun s l b h hc hrun hst => ?_, fun s l b h hc hrun hst hauto => ?_⟩
  · obtain ⟨a, fp, he, -, -, -⟩ := State.exec_payload h
    have hT := (State.As.placed s l b a).checkerTake_held (b := b) (fp := fp) hon hc
    obtain ⟨hold, n, hend, -⟩ := hT.payloadEnd s
    refine ⟨_, he, (congrArg RunTotals.counts hend.run :), ?_⟩
    rw [hend.ck]
    change (if (s.lane l).ck.state = .confirm ∨ (s.lane l).ck.state = .locked then s.expectedCk l (s.lane l).ck else
      (s.lane l).ck).state = _ ∧ (if (s.lane l).ck.state = .confirm ∨ (s.lane l).ck.state = .locked then
      s.expectedCk l (s.lane l).ck else (s.lane l).ck).run = _ ∧ (if (s.lane l).ck.state = .confirm ∨ (s.lane l).ck.state = .locked
      then s.expectedCk l (s.lane l).ck else (s.lane l).ck).sinceLock = _ ∧ (if (s.lane l).ck.state = .confirm ∨
      (s.lane l).ck.state = .locked then s.expectedCk l (s.lane l).ck else (s.lane l).ck).stages = _
    by_cases hgoes : (s.lane l).ck.state = .confirm ∨ (s.lane l).ck.state = .locked
    · rw [if_pos hgoes]
      have hno : ¬((s.lane l).ck.state = .hunt) ∧ ¬((s.lane l).ck.state = .lost) := by
        rcases hgoes with h | h <;> rw [h] <;> decide
      unfold State.expectedCk
      by_cases hu : (s.rxPat l).kind = .user
      · rw [if_pos ((patIsUser_iff _).mpr hu), if_pos (.inr (.inr hu))]
        exact ⟨rfl, rfl, rfl, rfl⟩
      · rw [if_neg (patIsUser_of_ne hu), if_neg (by rintro (h | h | h); exacts [hno.1 h, hno.2 h, hu h])]
        exact ⟨rfl, rfl, rfl, rfl⟩
    · rw [if_neg hgoes, if_pos]
      · exact ⟨rfl, rfl, rfl, rfl⟩
      · rw [not_or] at hgoes
        cases hk : (s.lane l).ck.state with
        | off => exact absurd hk hon
        | hunt => exact .inl rfl
        | lost => exact .inr (.inl rfl)
        | confirm => exact absurd hk hgoes.1
        | locked => exact absurd hk hgoes.2
  · obtain ⟨t, he, Y, ⟨hck, hcounts⟩, htck, htc⟩ := State.exec_counted h (by rw [hst]; decide) hc
      (P := fun Y => Y.ck = s.seededCk l b (s.lane l).ck ∧ Y.run.counts = (s.lane l).run.counts.addUnsynced 1) fun a fp _ => by
        have hX := State.As.placed s l b a
        have hB' : (s.placed l b a).checkBlock l b fp = ((s.placed l b a).report l (Counts.addUnsynced 1)).seedBlock l b := by
          rw [hX.checkBlock_eq (.inl (by rw [hst]; decide))]
          dsimp only
          rw [hst]
          exact if_pos (beq_iff_eq.mpr hreason)
        rw [hB']
        exact ⟨_, (hX.report (Counts.addUnsynced 1)).seedBlock b, (State.seededCk_run (s.lane l).ck).trans hrun, rfl, rfl⟩
    refine ⟨t, he, htc.trans hcounts, fun hz => ?_, fun hz => ?_⟩
    · rw [htck, hck, State.seededCk, if_pos hz]
    · rw [htck, hck, State.seededCk, if_neg hz]
      exact ⟨rfl, rfl, rfl⟩
  · obtain ⟨t, he, Y, ⟨hck, hcounts⟩, htck, htc⟩ := State.exec_counted h (by rw [hst]; decide) hc
      (P := fun Y => Y.ck = s.confirmedCk l b (s.lane l).ck ∧ Y.run.counts = (s.lane l).run.counts.addUnsynced 1) fun a fp _ => by
        have hX := State.As.placed s l b a
        obtain ⟨w, fe, -, hB⟩ := hX.confirmBlock b
        have hB' : (s.placed l b a).checkBlock l b fp = (s.placed l b a).confirmBlock l b := by
          rw [hX.checkBlock_eq (.inl (by rw [hst]; decide))]
          dsimp only
          rw [hst]
        rw [hB']
        exact ⟨_, hB, (State.confirmedCk_run (s.lane l).ck).trans hrun, rfl, rfl⟩
    have hexp : b = (s.expected l).1 ↔ bitErrors b (s.expectedBlock l (s.lane l).ck) = 0 := by
      rw [bitErrors_eq_zero_iff, State.expected_fst]
    refine ⟨t, he, htc.trans hcounts, fun hb => ?_, fun hb hu => ?_, fun hb hu hz => ?_⟩
    · rw [htck, hck, State.confirmedCk, if_pos (hexp.mp hb)]
      split
      · exact ⟨rfl, rfl⟩
      · refine ⟨rfl, ?_⟩
        rw [State.expectedCk_rest]
        exact hst
    · rw [htck, hck, State.confirmedCk, if_neg (hexp.not.mp hb), if_pos ((patIsUser_iff _).mpr hu)]
      exact ⟨rfl, rfl⟩
    · rw [htck, hck, State.confirmedCk, if_neg (hexp.not.mp hb), if_neg (patIsUser_of_ne hu), State.seededCk, if_neg hz]
      exact ⟨rfl, rfl, rfl⟩
  · have hon : (s.lane l).ck.state ≠ .off := by
      rcases hst with ⟨h, -⟩ | ⟨h, -⟩ <;> rw [h] <;> decide
    obtain ⟨t, he, Y, ⟨hck, hcounts⟩, htck, htc⟩ := State.exec_counted h hon hc
      (P := fun Y => Y.ck = (s.lane l).ck ∧ Y.run.counts = (s.lane l).run.counts.addUnsynced 1) fun a fp _ => by
        have hX := State.As.placed s l b a
        have hB := hX.report (Counts.addUnsynced 1)
        have hB' : (s.placed l b a).checkBlock l b fp = (s.placed l b a).report l (Counts.addUnsynced 1) := by
          rcases hst with ⟨hst, hr⟩ | ⟨hst, ha⟩
          · rw [hX.checkBlock_eq (.inl (by rw [hst]; decide))]
            dsimp only
            rw [hst]
            exact if_neg (by rwa [beq_iff_eq])
          · rw [hX.checkBlock_eq (.inr ha)]
            dsimp only
            rw [hst]
        rw [hB']
        exact ⟨_, hB, hrun, rfl, rfl⟩
    exact ⟨t, he, htc.trans hcounts, htck.trans hck⟩
  · obtain ⟨t, he, Y, ⟨hck, hcounts⟩, htck, htc⟩ := State.exec_counted h (by rw [hst]; decide) hc
      (P := fun Y => Y.ck = (if s.huntReason l = .waitSeed then
          s.seededCk l b { (s.lane l).ck with state := .hunt, reason := s.huntReason l, confirmRun := 0 }
        else { (s.lane l).ck with state := .hunt, reason := s.huntReason l, confirmRun := 0 }) ∧
        Y.run.counts = (s.lane l).run.counts.addUnsynced 1) fun a fp hal => by
        have hX := State.As.placed s l b a
        have hH := hX.enterHunt (congrArg Aligner.state State.al_placed.symm)
        rw [State.huntReason_placed hal] at hH
        have hrep := hH.report (Counts.addUnsynced 1)
        rw [hX.checkBlock_resyncs (congrArg Aligner.state State.al_placed.symm) hst hauto,
          hH.checkBlock_eq (.inl (fun h => nomatch (h : CkState.hunt = .lost)))]
        change ∃ Y, (s.placed l b a).As l (if s.huntReason l == .waitSeed then _ else _) Y ∧ _
        by_cases hw : s.huntReason l = .waitSeed
        · rw [if_pos (beq_iff_eq.mpr hw), if_pos hw]
          exact ⟨_, hrep.seedBlock b, (State.seededCk_run _).trans hrun, rfl, rfl⟩
        · rw [if_neg (by rwa [beq_iff_eq]), if_neg hw]
          exact ⟨_, hrep, hrun, rfl, rfl⟩
    refine ⟨t, he, htc.trans hcounts, fun hw => ?_, fun hw => ⟨fun hz => ?_, fun hz => ?_⟩⟩
    · rw [htck, hck, if_neg hw]
    · rw [htck, hck, if_pos hw, State.seededCk, if_pos hz]
    · rw [htck, hck, if_pos hw, State.seededCk, if_neg hz]
      exact ⟨rfl, rfl, rfl⟩

end Sys2Proof.Machine
end

section
/-! The capture queue and the notices of a payload block, and what its counting does to the trigger. -/

namespace Sys2Proof.Machine

variable {s t u v : State} {l m : LaneNo} {X Y : Lane} {a : Aligner} {b : Block} {fp : Option (FrameSeq × Nat)}

/-! ### The capture queue -/

theorem State.capture_notify (n : Notice) : (s.notify n).capture = s.capture := by
  unfold State.notify
  split <;> rfl

/-- The group aligner leaves the capture queue. -/
theorem GroupKept.captured (cs : List CapEntry) : GroupKept ⟨False, False⟩ (fun s => s.capture = cs) where
  aware h := h.elim
  mem _ _ h := h
  group h _ := h
  notify _ h := (State.capture_notify _).trans h
  serial h := h
  append h _ := h
  post _ _ _ _ _ h := (State.capture_postJob ..).trans h

theorem State.capture_groupRefresh : (s.groupRefresh m).capture = s.capture := (GroupKept.captured _).groupRefresh m rfl

theorem State.capture_groupCount (c : Checked) : (s.groupCount m c).capture = s.capture :=
  (GroupKept.captured _).groupCount m (fun h => h.elim) rfl

theorem State.capture_fileRecord (r : WinRecord) (p n : Bool) : (s.fileRecord r p n).capture = s.capture := by
  have hmod : (s.modHistory r.source fun h => appendHistory h r).capture = s.capture := by
    cases r.source <;> rfl
  unfold State.fileRecord
  exact ite_keeps_of (P := fun t => t.capture = s.capture) (fun h => (State.capture_notify _).trans h)
    (ite_keeps (P := fun t => t.capture = s.capture) (fun _ => (State.capture_postJob ..).trans hmod) fun _ => hmod)

theorem State.capture_requestHold : (s.requestHold m).capture = s.capture :=
  ite_keeps (P := fun t => t.capture = s.capture) (fun _ => State.capture_groupRefresh) fun _ => rfl

theorem State.capture_settleHolds : s.settleHolds.capture = s.capture :=
  State.forLanes_keeps (P := fun t => t.capture = s.capture)
    (fun _ h => ite_keeps (P := fun t => t.capture = s.capture) (fun _ => State.capture_requestHold.trans h) fun _ => h) rfl

theorem State.capture_endStep (q : Option FrameSeq) : (s.endStep m q).capture = s.capture :=
  ite_keeps (P := fun t => t.capture = s.capture) (fun _ => State.capture_groupRefresh.trans (State.capture_notify _)) fun _ => rfl

theorem State.capture_payloadEnd : (s.payloadEnd l v).capture = v.capture := by
  unfold State.payloadEnd
  refine State.capture_settleHolds.trans ?_
  refine ite_keeps (P := fun t => t.capture = v.capture) (fun _ => rfl) fun _ => ?_
  unfold State.stepRaw
  exact ite_keeps (P := fun t => t.capture = v.capture)
    (fun _ => ite_keeps (P := fun t => t.capture = v.capture) (fun _ => rfl) fun _ => State.capture_endStep _) fun _ => rfl

theorem State.capture_readPattern (i : Nat) (c : Bool) : (s.readPattern l i c).2.capture = s.capture := by
  unfold State.readPattern
  dsimp only [State.markSuspects]
  split
  · rfl
  · exact State.capture_notify _

theorem State.capture_comparedAt : (s.comparedAt l).capture = s.capture := by
  unfold State.comparedAt State.expected
  dsimp only
  split
  · exact State.capture_readPattern ..
  · rfl

theorem State.capture_closeWindow (hr : (s.lane l).ck.run = []) (r : CloseReason) : (s.closeWindow l r).capture = s.capture := by
  cases ho : (s.lane l).win.isOpen with
  | false => rw [State.closeWindow_of_closed ho]
  | true =>
    have hrel : s.released l r = s := by
      unfold State.released State.releaseRun
      dsimp only
      rw [hr, if_pos List.isEmpty_nil, ite_self]
    have hfiled : (s.windowFiled l r).capture = s.capture := by
      unfold State.windowFiled
      rw [hrel]
      exact State.capture_fileRecord ..
    rw [State.closeWindow_of_open ho]
    exact ite_keeps (P := fun t => t.capture = s.capture) (fun _ => hfiled) fun _ => hfiled

theorem State.capture_rawAdvance (h : (s.lane l).ck.run = [] ∨ (s.lane l).win.isOpen = false ∨ (s.lane l).win.pseudo < 127) :
    (s.rawAdvance l).capture = s.capture := by
  have hlane : (s.modLane l fun L => { L with run := L.run.rawAdvance }).lane l = { s.lane l with run := (s.lane l).run.rawAdvance } := by
    rw [State.lane_modLane, if_pos rfl]
  unfold State.rawAdvance
  dsimp only
  rw [hlane]
  refine ite_keeps (P := fun t => t.capture = s.capture) (fun _ => rfl) fun ho =>
    ite_keeps (P := fun t => t.capture = s.capture) (fun _ => rfl) fun hp => ?_
  have hr : (s.lane l).ck.run = [] := by
    rcases h with h | h | h
    · exact h
    · rw [h] at ho
      exact absurd rfl ho
    · dsimp only at hp
      omega
  unfold State.pseudoBoundary
  refine ite_keeps (P := fun t => t.capture = s.capture) (fun _ => (State.capture_closeWindow ?_ _).trans rfl) fun _ => rfl
  rw [State.modWin, State.lane_modLane, if_pos rfl]
  dsimp only
  rw [hlane]
  exact hr

theorem State.capture_placeCapture (h : s.capture.length < 256) (c : CapEntry) : (s.placeCapture c).capture = s.capture ++ [c] := by
  unfold State.placeCapture
  rw [if_pos h]

/-- The held entries of a discarded run are placed in list order (R39, R48). -/
theorem State.capture_discardItems (run : List RunItem) : ∀ {t : State}, t.capture.length + run.length ≤ 256 →
    (run.foldl State.discardItem t).capture = t.capture ++ heldEntries run := by
  induction run with
  | nil => exact fun _ => (List.append_nil _).symm
  | cons it run ih =>
    intro t h
    rw [List.length_cons] at h
    cases it with
    | heavy r => exact ih (t := t) (by omega)
    | entry c =>
      have hplace := State.capture_placeCapture (s := t) (by omega) c
      rw [List.foldl_cons, State.discardItem, ih (by rw [hplace, List.length_append, List.length_singleton]; omega), hplace,
        List.append_assoc]
      rfl

theorem State.As.capture_discardRun (h : s.As l t X) (hroom : t.capture.length + X.ck.run.length ≤ 256) (count : Bool) :
    (t.discardRun l count true).capture = t.capture ++ heldEntries X.ck.run := by
  unfold State.discardRun
  dsimp only
  rw [h.ck]
  by_cases hr : X.ck.run = []
  · rw [if_pos (by simp [hr]), hr]
    exact (List.append_nil _).symm
  · rw [if_neg (by simpa [List.isEmpty_iff] using hr), State.capture_groupRefresh, if_pos rfl]
    have hcap : (if count = true then (t.modCk l fun k => { k with run := [] }).report l (Counts.addUnsynced (heavyCount X.ck.run))
        else t.modCk l fun k => { k with run := [] }).capture = t.capture :=
      ite_keeps (P := fun v => v.capture = t.capture) (fun _ => rfl) fun _ => rfl
    rw [State.capture_discardItems _ (by rw [hcap]; exact hroom), hcap]

theorem State.As.capture_offerEvent (h : s.As l t X) (hr : X.ck.run = []) {k : CapKind} (hp : policyAdmits (s.desc l).policy k = true)
    (hroom : t.capture.length < 256) (q : Option FrameSeq) (p : Nat) :
    (t.offerEvent l k q p).capture = t.capture ++ [⟨l, k, q, p, none, s.tick⟩] := by
  unfold State.offerEvent State.giveEntry
  rw [h.desc, if_pos hp, h.ck, if_pos (by rw [hr]; rfl), State.capture_placeCapture hroom, h.tick]

theorem State.As.capture_countLoss (h : s.As l t X) (hr : X.ck.run = []) (harm : X.armed = false)
    (hp : policyAdmits (s.desc l).policy .syncLoss = true) (hroom : t.capture.length < 256) (k : LossKind) (q : Option FrameSeq) (p : Nat) :
    (t.countLoss l k q p).capture = t.capture ++ [⟨l, .syncLoss, q, p, none, s.tick⟩] := by
  have hrep := h.report Counts.addSyncLoss
  have hoff := hrep.offerEvent hr .syncLoss q p
  have hcap := hrep.capture_offerEvent hr hp hroom q p
  have hjudge : ((t.report l Counts.addSyncLoss).offerEvent l .syncLoss q p).trigJudged l = false := by
    rw [hoff.trigJudged]
    exact State.judges_of_unarmed harm
  unfold State.countLoss
  dsimp only
  rw [State.capture_groupRefresh, State.capture_notify, State.modCk_capture, hjudge, Bool.false_and, if_neg Bool.false_ne_true]
  exact hcap

theorem releasedEntries_append (l : LaneNo) (r1 r2 : List RunItem) :
    releasedEntries l (r1 ++ r2) = releasedEntries l r1 ++ releasedEntries l r2 := List.filterMap_append

/-- A counted block of an unarmed lane leaves its BIT_ERRORS entry, if it has errors and its policy asks (R51). -/
theorem State.As.capture_countBlock (h : s.As l t X) (hr : X.ck.run = []) (harm : X.armed = false) (hroom : t.capture.length < 256)
    (c : Checked) : (t.countBlock l c).capture = t.capture ++ releasedEntries l [.heavy c] := by
  have hcount := (h.modLane (f := fun L => { L with win := L.win.count c, run := L.run.count c })).groupCount l c
  have hbase : ((t.modLane l fun L => { L with win := L.win.count c, run := L.run.count c }).groupCount l c).capture = t.capture :=
    State.capture_groupCount c
  unfold State.countBlock
  dsimp only
  generalize ht : (t.modLane l fun L => { L with win := L.win.count c, run := L.run.count c }).groupCount l c = t1 at hcount hbase
  have hgive : t1.giveEntry l ⟨l, .bitErrors, c.seq, c.pos, some c.errs, c.tick⟩ =
      t1.placeCapture ⟨l, .bitErrors, c.seq, c.pos, some c.errs, c.tick⟩ := by
    unfold State.giveEntry
    rw [hcount.ck, if_pos (by rw [hr]; rfl)]
  rw [hgive]
  have hlane : s.As l (if (c.errs ≠ 0 && c.wants) = true then t1.placeCapture ⟨l, .bitErrors, c.seq, c.pos, some c.errs, c.tick⟩ else t1)
      { X with win := X.win.count c, run := X.run.count c } :=
    ite_keeps_of (P := fun v => s.As l v _) (fun h => h.placeCapture _) hcount
  rw [hlane.trigJudged, State.judges_of_unarmed (by exact harm), Bool.false_and, if_neg Bool.false_ne_true, State.modLane_capture]
  by_cases hw : c.errs ≠ 0 ∧ c.wants = true
  · rw [if_pos (by simpa using hw), State.capture_placeCapture (by rw [hbase]; exact hroom), hbase]
    exact congrArg (t.capture ++ ·) (by simp [releasedEntries, hw])
  · rw [if_neg (by simpa using hw), hbase]
    exact ((congrArg (t.capture ++ ·) (by simp [releasedEntries, hw])).trans (List.append_nil _)).symm

theorem State.countedLane_armed (h : X.armed = false) (c : Checked) : (s.countedLane l c X).armed = false := by
  change (X.armed && _) = false
  rw [h, Bool.false_and]

theorem State.countedLanes_armed (cs : List Checked) : ∀ {X : Lane}, X.armed = false →
    (cs.foldl (fun L c => s.countedLane l c L) X).armed = false := by
  induction cs with
  | nil => exact fun h => h
  | cons c cs ih => exact fun h => ih (State.countedLane_armed h c)

theorem State.As.capture_releaseItems (run : List RunItem) : ∀ {t : State} {X : Lane}, s.As l t X → X.ck.run = [] → X.armed = false →
    t.capture.length + run.length ≤ 256 → (run.foldl (State.releaseItem l) t).capture = t.capture ++ releasedEntries l run := by
  induction run with
  | nil => exact fun _ _ _ _ => (List.append_nil _).symm
  | cons it run ih =>
    intro t X h hr harm hroom
    rw [List.length_cons] at hroom
    have hone : ∀ c, (releasedEntries l [.heavy c]).length ≤ 1 := fun c => List.length_filterMap_le _ _
    cases it with
    | heavy c =>
      have hcap := h.capture_countBlock hr harm (by omega) c
      rw [List.foldl_cons, State.releaseItem, ih (h.countBlock hr c) hr (State.countedLane_armed harm c) ?_, hcap, List.append_assoc,
        ← releasedEntries_append]
      · rfl
      · have := hone c
        rw [hcap, List.length_append]
        omega
    | entry c =>
      have hcap := State.capture_placeCapture (s := t) (by omega) c
      rw [List.foldl_cons, State.releaseItem, ih (h.placeCapture c) hr harm ?_, hcap, List.append_assoc]
      · rfl
      · rw [hcap, List.length_append, List.length_singleton]
        omega

theorem State.As.capture_releaseRun (h : s.As l t X) (harm : X.armed = false) (hroom : t.capture.length + X.ck.run.length ≤ 256) :
    (t.releaseRun l).capture = t.capture ++ releasedEntries l X.ck.run := by
  unfold State.releaseRun
  dsimp only
  rw [h.ck]
  by_cases hr : X.ck.run = []
  · rw [if_pos (by simp [hr]), hr]
    exact (List.append_nil _).symm
  · rw [if_neg (by simpa [List.isEmpty_iff] using hr), State.capture_groupRefresh,
      State.As.capture_releaseItems X.ck.run (h.modCk fun k => { k with run := [] }) rfl harm hroom]
    rfl

/-! ### Notices -/

/-- What a state sends after `base` a measuring operation of a lane may only add to. -/
theorem Measured.sends (l : LaneNo) (base : List EgRec) : Measured ⟨False, False⟩ l (fun s => ∃ more, s.egress = base ++ more) where
  toGroupKept := GroupKept.sends base
  lane h _ := h
  capture c h := by
    unfold State.placeCapture
    split <;> exact h
  appendLane h _ := h
  postLane _ _ _ _ h := h.imp fun _ e => (State.egress_postJob ..).trans e
  faults _ h := h
  suspects _ h := h

theorem State.egress_notify_le (n : Notice) : (s.notify n).egress.length ≤ s.egress.length + 1 := by
  unfold State.notify
  split
  · rw [List.length_append, List.length_singleton]
  · exact Nat.le_succ _

theorem State.egress_comparedAt_le : (s.comparedAt l).egress.length ≤ s.egress.length + 1 := by
  have hread : ∀ i, (s.readPattern l i true).2.egress.length ≤ s.egress.length + 1 := fun i => by
    unfold State.readPattern
    dsimp only [State.markSuspects]
    split
    · exact Nat.le_succ _
    · exact State.egress_notify_le _
  unfold State.comparedAt State.expected
  dsimp only
  split
  · exact hread _
  · exact Nat.le_succ _

theorem State.groupRefresh_of_free (h : s.memberOf m = none) : s.groupRefresh m = s := by
  unfold State.groupRefresh
  rw [h]

theorem State.egress_placeCapture (c : CapEntry) : (s.placeCapture c).egress = s.egress := by
  unfold State.placeCapture
  split <;> rfl

theorem State.egress_giveEntry (c : CapEntry) : (s.giveEntry l c).egress = s.egress :=
  ite_keeps (P := fun t => t.egress = s.egress) (fun _ => State.egress_placeCapture c) fun _ => rfl

theorem State.egress_offerEvent (k : CapKind) (q : Option FrameSeq) (p : Nat) : (s.offerEvent l k q p).egress = s.egress :=
  ite_keeps (P := fun t => t.egress = s.egress) (fun _ => State.egress_giveEntry _) fun _ => rfl

/-- A lane of no group discards its run without a notice. -/
theorem State.As.egress_discardRun (h : s.As l t X) (hg : s.memberOf l = none) (count give : Bool) :
    (t.discardRun l count give).egress = t.egress := by
  have hitems : ∀ (run : List RunItem) (v : State), (run.foldl State.discardItem v).egress = v.egress := fun run v =>
    foldl_keeps (P := fun w => w.egress = v.egress) (fun {w} it hw => by
      cases it with
      | heavy r => exact hw
      | entry c => exact (State.egress_placeCapture c).trans hw) run rfl
  have hfree := (h.discardRun count give).memberOf l
  unfold State.discardRun
  dsimp only
  split
  · rfl
  · have hcount : (if count = true then (t.modCk l fun k => { k with run := [] }).report l
        (Counts.addUnsynced (heavyCount (t.lane l).ck.run)) else t.modCk l fun k => { k with run := [] }).egress = t.egress :=
      ite_keeps (P := fun v => v.egress = t.egress) (fun _ => rfl) fun _ => rfl
    have hfix : (if give = true then (t.lane l).ck.run.foldl State.discardItem (if count = true then
        (t.modCk l fun k => { k with run := [] }).report l (Counts.addUnsynced (heavyCount (t.lane l).ck.run))
        else t.modCk l fun k => { k with run := [] }) else if count = true then
        (t.modCk l fun k => { k with run := [] }).report l (Counts.addUnsynced (heavyCount (t.lane l).ck.run))
        else t.modCk l fun k => { k with run := [] }).fixed = s.fixed := by
      refine Eq.trans ?_ h.fixed
      have h0 : (if count = true then (t.modCk l fun k => { k with run := [] }).report l
        (Counts.addUnsynced (heavyCount (t.lane l).ck.run)) else t.modCk l fun k => { k with run := [] }).fixed = t.fixed :=
        ite_keeps (P := fun v => v.fixed = t.fixed) (fun _ => rfl) fun _ => rfl
      exact ite_keeps (P := fun v => v.fixed = t.fixed) (fun _ => foldl_keeps (P := fun w => w.fixed = t.fixed) (fun {w} it hw => by
        cases it with
        | heavy r => exact hw
        | entry c => exact (State.placeCapture_fixed w c).trans hw) _ h0) fun _ => h0
    rw [State.groupRefresh_of_free ((State.memberOf_of_fixed hfix l).trans hg)]
    exact ite_keeps (P := fun v => v.egress = t.egress) (fun _ => (hitems _ _).trans hcount) fun _ => hcount

theorem State.egress_fireTrigger (h : s.egress.length ≤ 11) (q : Option FrameSeq) (p : Nat) (x : Tick) :
    (s.fireTrigger l q p x).egress = s.egress ++ [noticeRec (.trigger l (s.desc l).trigger (s.desc l).action q p x)] := by
  unfold State.fireTrigger
  dsimp only
  have hgive : ((s.modLane l fun L => { L with armed := false, holdReq := L.holdReq || (s.desc l).action == .hold }).giveEntry l
      ⟨l, .trigger, q, p, none, x⟩).egress = s.egress := State.egress_giveEntry _
  have hdesc : ((s.modLane l fun L => { L with armed := false, holdReq := L.holdReq || (s.desc l).action == .hold }).giveEntry l
      ⟨l, .trigger, q, p, none, x⟩).desc l = s.desc l := State.desc_of_fixed (State.giveEntry_fixed ..) l
  rw [State.notify_of_room (by rw [hgive]; exact h), hgive, hdesc]

/-- R48: the notice of a loss, on a lane whose queue has room for it and for a trigger's. -/
theorem State.As.egress_countLoss (h : s.As l t X) (hr : X.ck.run = []) (hroom : t.egress.length + X.armed.toNat ≤ 11) (k : LossKind)
    (q : Option FrameSeq) (p : Nat) : ∃ front back,
    (t.countLoss l k q p).egress = t.egress ++ front ++ noticeRec (.syncChange l .lost (lossCause k) s.tick) :: back ∧
      (X.armed = false → front = []) := by
  have hoff := (h.report Counts.addSyncLoss).offerEvent hr .syncLoss q p
  have hbase : ((t.report l Counts.addSyncLoss).offerEvent l .syncLoss q p).egress = t.egress := State.egress_offerEvent _ _ _
  unfold State.countLoss
  dsimp only
  generalize (t.report l Counts.addSyncLoss).offerEvent l .syncLoss q p = v at hoff hbase ⊢
  have hfire : ∃ front, (if (v.trigJudged l && (v.desc l).trigger == .syncLoss) = true then v.fireTrigger l q p v.tick else v).egress =
      t.egress ++ front ∧ front.length ≤ X.armed.toNat ∧ (X.armed = false → front = []) := by
    by_cases hf : (v.trigJudged l && (v.desc l).trigger == .syncLoss) = true
    · rw [if_pos hf]
      have hn := State.egress_fireTrigger (l := l) (s := v) (by rw [hbase]; omega) q p v.tick
      have harm : X.armed = true := by
        rw [hoff.trigJudged] at hf
        exact ((Bool.and_eq_true ..).mp ((Bool.and_eq_true ..).mp ((Bool.and_eq_true ..).mp hf).1).1).1
      rw [hbase] at hn
      refine ⟨[_], hn, ?_, fun ha => Bool.noConfusion (harm.symm.trans ha)⟩
      rw [harm]
      exact Nat.le_refl 1
    · rw [if_neg hf]
      exact ⟨[], hbase.trans (List.append_nil _).symm, Nat.zero_le _, fun _ => rfl⟩
  have htick := (hoff.fireIf hr (v.trigJudged l && (v.desc l).trigger == .syncLoss) q p v.tick).tick
  obtain ⟨front, he, hlen, hnone⟩ := hfire
  generalize (if (v.trigJudged l && (v.desc l).trigger == .syncLoss) = true then v.fireTrigger l q p v.tick else v) = w at he htick ⊢
  have hsent : ((w.modCk l fun k' => { k' with state := .lost, lastLoss := k }).notify
      (.syncChange l .lost (lossCause k) (w.modCk l fun k' => { k' with state := .lost, lastLoss := k }).tick)).egress =
      t.egress ++ front ++ [noticeRec (.syncChange l .lost (lossCause k) s.tick)] := by
    have hlen' : (w.modCk l fun k' => { k' with state := .lost, lastLoss := k }).egress = t.egress ++ front := he
    have ht' : (w.modCk l fun k' => { k' with state := .lost, lastLoss := k }).tick = s.tick := htick
    rw [State.notify_of_room (by rw [hlen', List.length_append]; omega), hlen', ht']
  obtain ⟨back, hb⟩ := (GroupKept.sends (t.egress ++ front ++ [noticeRec (.syncChange l .lost (lossCause k) s.tick)])).groupRefresh l
    (s := (w.modCk l fun k' => { k' with state := .lost, lastLoss := k }).notify
      (.syncChange l .lost (lossCause k) (w.modCk l fun k' => { k' with state := .lost, lastLoss := k }).tick))
    ⟨[], hsent.trans (List.append_nil _).symm⟩
  exact ⟨front, back, by rw [hb, List.append_assoc]; rfl, hnone⟩

end Sys2Proof.Machine
end

section
/-! A block taken in LOCKED: counted with what its run releases, added to the run, or the loss of synchronization. -/

namespace Sys2Proof.Machine

variable {s t u v : State} {l m : LaneNo} {X Y : Lane} {a : Aligner} {b : Block} {fp : Option (FrameSeq × Nat)}

/-! ### The expected block -/

theorem State.memFault_notify (n : Notice) : (s.notify n).memFault = s.memFault := by
  unfold State.notify
  split <;> rfl

theorem State.memFault_readPattern (i : Nat) (c : Bool) (h : (patRead s.patMem i).agrees = false) :
    (s.readPattern l i c).2.memFault.get (bankOf i) = true := by
  unfold State.readPattern
  dsimp only [State.markSuspects]
  rw [h, Bool.false_or]
  split
  · next hf => exact hf
  · rw [State.memFault_notify]
    exact (Four.get_set ..).trans (if_pos rfl)

theorem State.expected_facts (s : State) (l : LaneNo) :
    ((s.rxPat l).kind ≠ .user →
       (s.expected l).1 = inverted (s.rxPat l).invert (prbsBlock (s.rxPat l).kind (s.lane l).ck.stages).1 ∧
       (s.expected l).2 = s.putLane l { s.lane l with
         ck := { (s.lane l).ck with stages := (prbsBlock (s.rxPat l).kind (s.lane l).ck.stages).2 } }) ∧
     ((s.rxPat l).kind = .user →
       (s.expected l).1 =
         inverted (s.rxPat l).invert (patRead s.patMem ((s.rxPat l).start + (s.lane l).ck.phase)).data ∧
       ((s.expected l).2.lane l).ck = { (s.lane l).ck with
         phase := if (s.lane l).ck.phase + 1 < (s.rxPat l).len then (s.lane l).ck.phase + 1 else 0 } ∧
       ((s.expected l).2.lane l).win.banks =
         (s.lane l).win.banks.set (bankOf ((s.rxPat l).start + (s.lane l).ck.phase)) true ∧
       ((patRead s.patMem ((s.rxPat l).start + (s.lane l).ck.phase)).agrees = false →
         (s.expected l).2.memFault.get (bankOf ((s.rxPat l).start + (s.lane l).ck.phase)) = true)) := by
  refine ⟨fun h => ?_, fun h => ?_⟩
  · rw [State.expected_of_prbs (patIsUser_of_ne h)]
    exact ⟨rfl, State.modLane_eq_putLane fun L => { L with ck := { L.ck with
      stages := (prbsBlock (s.rxPat l).kind (s.lane l).ck.stages).2 } }⟩
  · rw [State.expected_of_user ((patIsUser_iff _).mpr h)]
    obtain ⟨w, -, hbanks, hread⟩ := (State.As.refl (s := s) (l := l)).readPattern ((s.rxPat l).start + (s.lane l).ck.phase) true
    have hck := hread.modCk fun k => { k with phase := nextPhase k.phase (s.rxPat l).len }
    exact ⟨rfl, hck.ck, (congrArg Win.banks hck.win).trans hbanks, State.memFault_readPattern _ _⟩

/-! ### Counting several blocks -/

theorem Win.count_unread (w : Win) (c : Checked) : (w.count c).unread = w.unread.count c := by
  unfold Win.count Win.unread
  dsimp only
  split <;> rfl

theorem Win.counts_unread (cs : List Checked) : ∀ {w w' : Win}, w.unread = w'.unread →
    (cs.foldl Win.count w).unread = (cs.foldl Win.count w').unread := by
  induction cs with
  | nil => exact fun h => h
  | cons c cs ih => exact fun h => ih (by rw [Win.count_unread, h, Win.count_unread])

theorem State.countedLanes_counts (cs : List Checked) : ∀ X : Lane,
    (cs.foldl (fun L c => s.countedLane l c L) X).win = cs.foldl Win.count X.win ∧
    (cs.foldl (fun L c => s.countedLane l c L) X).run = cs.foldl RunTotals.count X.run := by
  induction cs with
  | nil => exact fun _ => ⟨rfl, rfl⟩
  | cons c cs ih => exact fun X => ih _

/-- Counting leaves the pseudo-frame of the run totals. -/
theorem RunTotals.counts_pseudo (cs : List Checked) : ∀ r : RunTotals,
    (cs.foldl RunTotals.count r).pseudo = r.pseudo ∧ (cs.foldl RunTotals.count r).tag = r.tag := by
  induction cs with
  | nil => exact fun _ => ⟨rfl, rfl⟩
  | cons c cs ih => exact fun r => ih _

theorem State.released_counted (c : Checked) (X : Lane) : s.countedLane l c (s.releasedLane l X) =
    (heavyBlocks X.ck.run ++ [c]).foldl (fun L c => s.countedLane l c L) { X with ck := { X.ck with run := [] } } := by
  rw [List.foldl_append]
  rfl

theorem State.desc_placed : (s.placed l b a).desc m = s.desc m := rfl

/-! ### Where a locked block is judged -/

/-- The lane in which the checker takes a payload block. -/
def State.atChecker (s : State) (l : LaneNo) (b : Block) (a : Aligner) : Lane := { s.lane l with
  al := a, tx := (s.lane l).tx.echo b
  rxBuf := ((s.lane l).arrived b (s.rxMode l == some .pass || s.rxMode l == some .monitor) a).rxBuf
  rxDrops := ((s.lane l).arrived b (s.rxMode l == some .pass || s.rxMode l == some .monitor) a).rxDrops }

/-- What the statements say of a checked block. -/
theorem State.checked_facts (s : State) (l : LaneNo) (b : Block)
    (hfp : s.rxFramed l = true → s.aligned l = true → fp = some ((s.lane l).al.seq, (s.lane l).al.pos))
    (hnone : s.rxFramed l = false → fp = none) :
    (s.checked l b fp (s.lane l)).errs = bitErrors b (s.expected l).1 ∧ (s.checked l b fp (s.lane l)).tick = s.tick ∧
    ((s.checked l b fp (s.lane l)).wants = true ↔ (s.desc l).policy = .errors ∨ (s.desc l).policy = .all) ∧
    (s.checked l b fp (s.lane l)).winTag = (s.lane l).win.tag ∧ (s.checked l b fp (s.lane l)).runTag = (s.lane l).run.tag ∧
    (s.rxFramed l = true → s.aligned l = true →
      (s.checked l b fp (s.lane l)).seq = some (s.lane l).al.seq ∧ (s.checked l b fp (s.lane l)).pos = (s.lane l).al.pos) ∧
    (s.rxFramed l = false →
      (s.checked l b fp (s.lane l)).seq = none ∧ (s.checked l b fp (s.lane l)).pos = (s.lane l).ck.sinceLock.toNat) := by
  refine ⟨?_, rfl, ?_, rfl, rfl, fun hf ha => ?_, fun hf => ?_⟩
  · rw [State.expected_fst]
    rfl
  · unfold State.checked policyAdmits
    rw [Bool.or_eq_true, beq_iff_eq, beq_iff_eq]
  · rw [hfp hf ha]
    exact ⟨rfl, rfl⟩
  · rw [hnone hf]
    exact ⟨rfl, rfl⟩

theorem State.checkBlock_locked (h : (s.lane l).ck.state = .locked) :
    (s.placed l b a).checkBlock l b fp = (s.placed l b a).lockedBlock l b fp := by
  rw [(State.As.placed s l b a).checkBlock_eq (.inl (by rw [h]; decide))]
  dsimp only
  rw [h]

/-! ### After the check of a locked block -/

namespace State.As

/-- A block that ends no window: counts and captures as the check left them. -/
theorem checkerTake_inside (h : s.As l t X) (hon : X.ck.state ≠ .off) (hc : s.countsAt l X.hold = true)
    (hB : s.As l (t.checkBlock l b fp) Y) (hw : s.rxFramed l = true ∨ Y.win.isOpen = false ∨ Y.win.pseudo < 127) :
    ∃ n r, s.As l (t.checkerTake l b fp) { Y with win := { Y.win with pseudo := n }, run := r } ∧ r.counts = Y.run.counts ∧
      (s.rxFramed l = true → r = Y.run) := by
  have hcounts : Y.run.rawAdvance.counts = Y.run.counts := by
    unfold RunTotals.rawAdvance
    split <;> rfl
  rw [h.checkerTake_counts hon hc]
  cases hf : s.rxFramed l with
  | true => exact ⟨Y.win.pseudo, Y.run, hB, rfl, fun _ => rfl⟩
  | false =>
    obtain ⟨n, hn⟩ := hB.rawAdvance_inside (hw.resolve_left fun h => Bool.noConfusion (hf.symm.trans h))
    exact ⟨n, _, hn, hcounts, fun h => Bool.noConfusion h⟩

/-- Captures and notices after the check of a block: nothing more is captured, and notices are only added. -/
theorem capture_checkerTake (h : s.As l t X) (hon : X.ck.state ≠ .off) (hc : s.countsAt l X.hold = true)
    (hB : s.As l (t.checkBlock l b fp) Y)
    (hw : s.rxFramed l = true ∨ Y.ck.run = [] ∨ Y.win.isOpen = false ∨ Y.win.pseudo < 127) :
    (t.checkerTake l b fp).capture = (t.checkBlock l b fp).capture := by
  rw [h.checkerTake_counts hon hc]
  cases hf : s.rxFramed l with
  | true => rfl
  | false =>
    refine State.capture_rawAdvance ?_
    rw [hB.ck, hB.win]
    exact hw.resolve_left fun h => Bool.noConfusion (hf.symm.trans h)

theorem sends_checkerTake (h : s.As l t X) (hon : X.ck.state ≠ .off) (hc : s.countsAt l X.hold = true) :
    ∃ more, (t.checkerTake l b fp).egress = (t.checkBlock l b fp).egress ++ more := by
  have hbase : ∃ more, (t.checkBlock l b fp).egress = (t.checkBlock l b fp).egress ++ more := ⟨[], (List.append_nil _).symm⟩
  rw [h.checkerTake_counts hon hc]
  exact ite_keeps (P := fun v => ∃ more, v.egress = (t.checkBlock l b fp).egress ++ more) (fun _ => hbase)
    fun _ => (Measured.sends l (t.checkBlock l b fp).egress).rawAdvance id hbase

end State.As

theorem State.sends_payloadEnd : ∃ more, (s.payloadEnd l v).egress = v.egress ++ more := by
  have hbase : ∃ more, v.egress = v.egress ++ more := ⟨[], (List.append_nil _).symm⟩
  have hstep : ∃ more, (v.stepRaw l).egress = v.egress ++ more :=
    ite_keeps (P := fun w => ∃ more, w.egress = v.egress ++ more)
      (fun _ => ite_keeps (P := fun w => ∃ more, w.egress = v.egress ++ more) (fun _ => hbase)
        fun _ => (Measured.sends l v.egress).endStep _ hbase) fun _ => hbase
  unfold State.payloadEnd
  refine Measured.settleHolds (fun m => Measured.sends m v.egress) id ?_
  exact ite_keeps (P := fun w => ∃ more, w.egress = v.egress ++ more) (fun _ => hbase) fun _ => hstep

/-! ### A block taken in LOCKED, compared -/

/-- `Z` is the lane of a counting LOCKED checker in which a payload block is judged, just after the comparison. -/
structure State.Judging (s : State) (l : LaneNo) (b : Block) (a : Aligner) (Z : Lane) : Prop where
  as : (s.placed l b a).As l ((s.placed l b a).comparedAt l) Z
  empty : Z.ck.run = (s.lane l).ck.run
  sinceLock : Z.ck.sinceLock = (s.lane l).ck.sinceLock + 1
  locked : Z.ck.state = .locked
  totals : Z.run = (s.lane l).run
  win : Z.win.unread = (s.lane l).win.unread
  armed : Z.armed = (s.lane l).armed
  firstErr : Z.firstErr = (s.lane l).firstErr
  hold : Z.hold = (s.lane l).hold
  holdReq : Z.holdReq = (s.lane l).holdReq

theorem State.exists_judging (hst : (s.lane l).ck.state = .locked) (b : Block) (a : Aligner) : ∃ Z, s.Judging l b a Z := by
  have hX : (s.placed l b a).As l (s.placed l b a) (s.atChecker l b a) := State.As.placed s l b a
  obtain ⟨w, hw, hcmp⟩ := hX.comparedAt
  refine ⟨_, hcmp, State.compared_run .., rfl, ?_, rfl, hw, rfl, rfl, rfl, rfl⟩
  change (s.expectedCk l (s.lane l).ck).state = _
  rw [State.expectedCk_rest]
  exact hst

/-- A counting LOCKED checker that has judged its block. -/
theorem State.checkBlock_judged (hst : (s.lane l).ck.state = .locked) (b : Block) (a : Aligner) (fp : Option (FrameSeq × Nat)) :
    (s.placed l b a).checkBlock l b fp =
      if (s.checked l b fp (s.lane l)).errs < (s.desc l).heavy then
        (((s.placed l b a).comparedAt l).releaseRun l).countBlock l (s.checked l b fp (s.lane l))
      else if (s.desc l).lossRun ≤ heavyCount (s.lane l).ck.run + 1 then
        ((((s.placed l b a).comparedAt l).modCk l fun k => { k with run := k.run ++ [.heavy (s.checked l b fp (s.lane l))] }).discardRun l
          true true).countLoss l .block (s.checked l b fp (s.lane l)).seq (s.checked l b fp (s.lane l)).pos
      else ((s.placed l b a).comparedAt l).modCk l fun k => { k with run := k.run ++ [.heavy (s.checked l b fp (s.lane l))] } := by
  have hX : (s.placed l b a).As l (s.placed l b a) (s.atChecker l b a) := State.As.placed s l b a
  rw [State.checkBlock_locked hst, hX.lockedBlock_eq]
  rfl

/-! ### A light block -/

/-- R45, R47, R51: a light block, with everything that its run releases. -/
theorem State.exec_light (h : s.isPayload l b = true) (hst : (s.lane l).ck.state = .locked) (hc : s.counting l = true)
    (hlight : bitErrors b (s.expected l).1 < (s.desc l).heavy) : ∃ t fp, exec (.receiveBlock l b) s = .next t ∧
    (s.rxFramed l = true → s.aligned l = true → fp = some ((s.lane l).al.seq, (s.lane l).al.pos)) ∧
    (s.rxFramed l = false → fp = none) ∧
    (t.lane l).ck.sinceLock = (s.lane l).ck.sinceLock + 1 ∧ (t.lane l).ck.state = .locked ∧ (t.lane l).ck.run = [] ∧
    (t.lane l).run = (if s.rxFramed l then
      (heavyBlocks (s.lane l).ck.run ++ [s.checked l b fp (s.lane l)]).foldl RunTotals.count (s.lane l).run
      else ((heavyBlocks (s.lane l).ck.run ++ [s.checked l b fp (s.lane l)]).foldl RunTotals.count (s.lane l).run).rawAdvance) ∧
    (s.rxFramed l = true → (t.lane l).win.unread =
      ((heavyBlocks (s.lane l).ck.run ++ [s.checked l b fp (s.lane l)]).foldl Win.count (s.lane l).win).unread) ∧
    ((s.lane l).armed = false → s.capture.length + (s.lane l).ck.run.length < 256 →
      t.capture = s.capture ++ releasedEntries l ((s.lane l).ck.run ++ [.heavy (s.checked l b fp (s.lane l))])) := by
  obtain ⟨a, fp, he, -, hfp, hnone⟩ := State.exec_payload h
  have hX : (s.placed l b a).As l (s.placed l b a) (s.atChecker l b a) := State.As.placed s l b a
  have hon : (s.atChecker l b a).ck.state ≠ .off := by
    change (s.lane l).ck.state ≠ .off
    rw [hst]
    decide
  have herrs : (s.checked l b fp (s.lane l)).errs < (s.desc l).heavy := by rwa [(s.checked_facts l b hfp hnone).1]
  have heq := s.checkBlock_judged hst b a fp
  rw [if_pos herrs] at heq
  generalize hcd : s.checked l b fp (s.lane l) = c at heq
  obtain ⟨Z, hZ⟩ := State.exists_judging hst b a
  have hcmp := hZ.as
  have hrun := hZ.empty
  have hrel := hcmp.releaseRun
  have hempty : ((s.placed l b a).releasedLane l Z).ck.run = [] := by rw [State.releasedLane_ck]
  have hB := hrel.countBlock hempty c
  have hBck : ((s.placed l b a).countedLane l c ((s.placed l b a).releasedLane l Z)).ck = { Z.ck with run := [] } :=
    State.releasedLane_ck Z
  rw [← heq] at hB
  have hcounts := State.countedLanes_counts (s := s.placed l b a) (l := l) (heavyBlocks (s.lane l).ck.run ++ [c])
    { Z with ck := { Z.ck with run := [] } }
  rw [← hrun, ← State.released_counted, hrun] at hcounts
  obtain ⟨hcw, hcr⟩ := hcounts
  have hcap : (s.lane l).armed = false → s.capture.length + (s.lane l).ck.run.length < 256 →
      ((s.placed l b a).checkBlock l b fp).capture = s.capture ++ releasedEntries l ((s.lane l).ck.run ++ [.heavy c]) := by
    intro harm hroom
    have hcap0 : ((s.placed l b a).comparedAt l).capture = s.capture := State.capture_comparedAt
    have hcap1 := hcmp.capture_releaseRun (hZ.armed.trans harm) (by rw [hcap0, hrun]; omega)
    rw [hcap0, hrun] at hcap1
    have hshort : (releasedEntries l (s.lane l).ck.run).length ≤ (s.lane l).ck.run.length := List.length_filterMap_le _ _
    rw [heq, hrel.capture_countBlock hempty (State.countedLanes_armed _ (hZ.armed.trans harm))
      (by rw [hcap1, List.length_append]; omega), hcap1, releasedEntries_append, List.append_assoc]
  obtain ⟨w', r', hT, -, hframed, hraw⟩ := hX.checkerTake_counted (b := b) (fp := fp) hon hc hB (by rw [hBck])
  have hcapT := hX.capture_checkerTake (b := b) (fp := fp) hon hc hB (.inr (.inl (by rw [hBck])))
  obtain ⟨hold, n, hend, -⟩ := hT.payloadEnd s
  refine ⟨_, fp, he, hfp, hnone, ?_, ?_, ?_, ?_, fun hf => ?_, fun harm hroom => ?_⟩
  · rw [hend.ck]
    exact (congrArg Checker.sinceLock hBck).trans hZ.sinceLock
  · rw [hend.ck]
    exact (congrArg Checker.state hBck).trans hZ.locked
  · rw [hend.ck]
    exact (congrArg Checker.run hBck :)
  · rw [hend.run]
    change r' = _
    rw [hcd]
    cases hf : s.rxFramed l with
    | true =>
      rw [(hframed hf).2, hcr, if_pos rfl, ← hZ.totals]
    | false =>
      rw [hraw hf, hcr, if_neg Bool.false_ne_true, ← hZ.totals]
  · rw [hend.win]
    change w'.unread = _
    rw [(hframed hf).1, hcw, hcd]
    exact Win.counts_unread _ hZ.win
  · rw [State.capture_payloadEnd, hcapT, hcap harm hroom, hcd]

/-! ### A heavy block -/

theorem heavyCount_append (r1 r2 : List RunItem) : heavyCount (r1 ++ r2) = heavyCount r1 + heavyCount r2 := List.countP_append

theorem heavyCount_pending (c : Checked) (run : List RunItem) : heavyCount (run ++ [.heavy c]) = heavyCount run + 1 := by
  rw [heavyCount_append]
  rfl

theorem heldEntries_pending (c : Checked) (run : List RunItem) : heldEntries (run ++ [.heavy c]) = heldEntries run := by
  unfold heldEntries
  rw [List.filterMap_append]
  exact List.append_nil _

section report
variable (f : Counts → Counts) (L : Lane)

theorem Lane.pseudo_report : (L.report f).win.pseudo = L.win.pseudo := by
  unfold Lane.report
  dsimp only
  split <;> rfl

theorem Lane.counts_report : (L.report f).win.counts = if L.win.isOpen then f L.win.counts else L.win.counts := by
  unfold Lane.report
  dsimp only
  split <;> rfl

end report

theorem Lane.discarded_pending (c : Checked) (L : Lane) : (L.pending c).discarded true =
    Lane.report (Counts.addUnsynced (heavyCount L.ck.run + 1)) { L with ck := { L.ck with run := [] } } := by
  have hne : (L.pending c).ck.run ≠ [] := List.append_ne_nil_of_right_ne_nil _ (List.cons_ne_nil _ _)
  rw [← heavyCount_pending c L.ck.run, Lane.discarded, if_neg hne]
  rfl

/-- R46, R48: a heavy block on a lane whose window it does not end. -/
theorem State.exec_heavy (h : s.isPayload l b = true) (hst : (s.lane l).ck.state = .locked) (hc : s.counting l = true)
    (hheavy : (s.desc l).heavy ≤ bitErrors b (s.expected l).1)
    (hwin : s.rxFramed l = true ∨ (s.lane l).win.isOpen = false ∨ (s.lane l).win.pseudo < 127) :
    ∃ t fp, exec (.receiveBlock l b) s = .next t ∧
    (s.rxFramed l = true → s.aligned l = true → fp = some ((s.lane l).al.seq, (s.lane l).al.pos)) ∧
    (s.rxFramed l = false → fp = none) ∧ (t.lane l).ck.sinceLock = (s.lane l).ck.sinceLock + 1 ∧
    (heavyCount (s.lane l).ck.run + 1 < (s.desc l).lossRun →
      (t.lane l).ck.state = .locked ∧ (t.lane l).ck.run = (s.lane l).ck.run ++ [.heavy (s.checked l b fp (s.lane l))] ∧
      (t.lane l).run.counts = (s.lane l).run.counts ∧ (s.rxFramed l = true → (t.lane l).run = (s.lane l).run) ∧
      (t.lane l).win.counts = (s.lane l).win.counts ∧ (t.lane l).holdReq = false ∧ t.capture = s.capture ∧
      (t.lane l).armed = (s.lane l).armed ∧ (t.lane l).firstErr = (s.lane l).firstErr) ∧
    ((s.desc l).lossRun ≤ heavyCount (s.lane l).ck.run + 1 →
      (t.lane l).ck.state = .lost ∧ (t.lane l).ck.run = [] ∧ (t.lane l).ck.lastLoss = .block ∧
      (t.lane l).run.counts = ((s.lane l).run.counts.addUnsynced (heavyCount (s.lane l).ck.run + 1)).addSyncLoss ∧
      (t.lane l).win.counts = (if (s.lane l).win.isOpen
        then ((s.lane l).win.counts.addUnsynced (heavyCount (s.lane l).ck.run + 1)).addSyncLoss
        else (s.lane l).win.counts) ∧
      ((s.lane l).armed = false → (s.desc l).policy = .events ∨ (s.desc l).policy = .all →
        s.capture.length + (s.lane l).ck.run.length < 256 →
        t.capture = s.capture ++ heldEntries (s.lane l).ck.run ++
          [⟨l, .syncLoss, (s.checked l b fp (s.lane l)).seq, (s.checked l b fp (s.lane l)).pos, none, s.tick⟩]) ∧
      (s.memberOf l = none → s.egress.length ≤ 9 → noticeRec (.syncChange l .lost .lossBlock s.tick) ∈ t.egress) ∧
      (t.lane l).armed = ((s.lane l).armed && !((s.desc l).trigger == .syncLoss))) := by
  obtain ⟨a, fp, he, -, hfp, hnone⟩ := State.exec_payload h
  have hX : (s.placed l b a).As l (s.placed l b a) (s.atChecker l b a) := State.As.placed s l b a
  have hon : (s.atChecker l b a).ck.state ≠ .off := by
    change (s.lane l).ck.state ≠ .off
    rw [hst]
    decide
  have herrs : ¬((s.checked l b fp (s.lane l)).errs < (s.desc l).heavy) := by
    rw [(s.checked_facts l b hfp hnone).1]
    omega
  have heq := s.checkBlock_judged hst b a fp
  rw [if_neg herrs] at heq
  generalize hcd : s.checked l b fp (s.lane l) = c at heq
  obtain ⟨Z, hZ⟩ := State.exists_judging hst b a
  have hcmp := hZ.as
  have hrun := hZ.empty
  have hopen : Z.win.isOpen = (s.lane l).win.isOpen := (congrArg Win.isOpen hZ.win :)
  have hpseudo : Z.win.pseudo = (s.lane l).win.pseudo := (congrArg Win.pseudo hZ.win :)
  have hwcounts : Z.win.counts = (s.lane l).win.counts := (congrArg Win.counts hZ.win :)
  rw [← hopen, ← hpseudo] at hwin
  have hpend := hcmp.modCk fun k => { k with run := k.run ++ [.heavy c] }
  have hcap0 : ((s.placed l b a).comparedAt l).capture = s.capture := State.capture_comparedAt
  by_cases hfull : (s.desc l).lossRun ≤ heavyCount (s.lane l).ck.run + 1
  · rw [if_pos hfull] at heq
    have hdis := hpend.discardRun true true
    have hdrun : (Lane.discarded true (Z.pending c)).ck.run = [] := by rw [Lane.discarded_ck]
    have hB := hdis.countLoss hdrun .block c.seq c.pos
    rw [← heq] at hB
    have hL : Lane.discarded true (Z.pending c) = Lane.report (Counts.addUnsynced (heavyCount (s.lane l).ck.run + 1))
        { Z with ck := { Z.ck with run := [] } } := by
      rw [Lane.discarded_pending, hrun]
    have hBwin : ((s.placed l b a).lostLane l .block (Lane.discarded true (Z.pending c))).win.isOpen = Z.win.isOpen ∧
        ((s.placed l b a).lostLane l .block (Lane.discarded true (Z.pending c))).win.pseudo = Z.win.pseudo := by
      rw [hL]
      exact ⟨(Lane.report_isOpen ..).trans (Lane.report_isOpen ..), (Lane.pseudo_report ..).trans (Lane.pseudo_report ..)⟩
    have hw' : s.rxFramed l = true ∨ ((s.placed l b a).lostLane l .block (Lane.discarded true (Z.pending c))).win.isOpen = false ∨
        ((s.placed l b a).lostLane l .block (Lane.discarded true (Z.pending c))).win.pseudo < 127 := by
      rw [hBwin.1, hBwin.2]
      exact hwin
    obtain ⟨n, r, hT, hcounts, -⟩ := hX.checkerTake_inside (b := b) (fp := fp) hon hc hB hw'
    have hcapT := hX.capture_checkerTake (b := b) (fp := fp) hon hc hB (hw'.imp_right .inr)
    obtain ⟨hold, k, hend, -⟩ := hT.payloadEnd s
    have hsent := hX.sends_checkerTake (b := b) (fp := fp) hon hc
    refine ⟨_, fp, he, hfp, hnone, ?_, fun hlt => absurd hlt (by omega), fun _ => ⟨?_, ?_, ?_, ?_, ?_, fun harm hp hroom => ?_,
      fun hg hroom => ?_, ?_⟩⟩
    · rw [hend.ck]
      change (Lane.discarded true (Z.pending c)).ck.sinceLock = _
      rw [Lane.discarded_ck]
      exact hZ.sinceLock
    · rw [hend.ck]
      rfl
    · rw [hend.ck]
      exact hdrun
    · rw [hend.ck]
      rfl
    · rw [hend.run]
      change r.counts = _
      rw [hcounts, ← hZ.totals]
      change ((Lane.discarded true (Z.pending c)).run.counts).addSyncLoss = _
      rw [hL]
      rfl
    · rw [hend.win]
      change ((s.placed l b a).lostLane l .block (Lane.discarded true (Z.pending c))).win.counts = _
      rw [hL, ← hwcounts, ← hopen]
      refine (Lane.counts_report ..).trans ?_
      rw [Lane.report_isOpen, Lane.counts_report]
      change (if Z.win.isOpen = true then Counts.addSyncLoss (if Z.win.isOpen = true then Z.win.counts.addUnsynced _ else _) else
        if Z.win.isOpen = true then _ else Z.win.counts) = _
      cases ho : Z.win.isOpen with
      | true => rfl
      | false => rfl
    · have hcapd := hpend.capture_discardRun (by
        change ((s.placed l b a).comparedAt l).capture.length + (Z.ck.run ++ [RunItem.heavy c]).length ≤ 256
        rw [hcap0, hrun, List.length_append, List.length_singleton]
        omega) true
      have hheld : heldEntries (Z.ck.run ++ [.heavy c]) = heldEntries (s.lane l).ck.run := by rw [heldEntries_pending, hrun]
      replace hcapd : ((((s.placed l b a).comparedAt l).modCk l fun k => { k with run := k.run ++ [.heavy c] }).discardRun l true
          true).capture = s.capture ++ heldEntries (s.lane l).ck.run := by
        rw [← hheld, ← hcap0]
        exact hcapd
      have hshort : (heldEntries (s.lane l).ck.run).length ≤ (s.lane l).ck.run.length := List.length_filterMap_le _ _
      rw [State.capture_payloadEnd, hcapT, heq, hdis.capture_countLoss hdrun, hcapd, hcd]
      · rfl
      · exact (congrArg Lane.armed hL).trans (hZ.armed.trans harm)
      · rw [State.desc_placed]
        rcases hp with hp | hp <;> rw [hp] <;> rfl
      · rw [hcapd, List.length_append]
        omega
    · have heg0 : ((s.placed l b a).comparedAt l).egress.length ≤ s.egress.length + 1 := State.egress_comparedAt_le
      have heg1 := hpend.egress_discardRun (show (s.placed l b a).memberOf l = none from hg) true true
      obtain ⟨front, back, heg, -⟩ := hdis.egress_countLoss hdrun (by
        rw [heg1]
        exact Nat.add_le_add (le_trans heg0 (Nat.succ_le_succ hroom)) (Bool.toNat_le _)) .block c.seq c.pos
      rw [← heq] at heg
      obtain ⟨more, hmore⟩ := hsent
      obtain ⟨more', hmore'⟩ := State.sends_payloadEnd (s := s) (l := l) (v := (s.placed l b a).checkerTake l b fp)
      rw [hmore', hmore, heg]
      exact List.mem_append_left _ (List.mem_append_left _ (List.mem_append_right _ List.mem_cons_self))
    · rw [hend.armed]
      change ((Lane.discarded true (Z.pending c)).armed && !(((Lane.discarded true (Z.pending c)).armed &&
        !((Lane.discarded true (Z.pending c)).ck.state == .off) && s.countsAt l (Lane.discarded true (Z.pending c)).hold) &&
        (s.desc l).trigger == .syncLoss)) = _
      have hDarm : (Lane.discarded true (Z.pending c)).armed = (s.lane l).armed := (congrArg Lane.armed hL).trans hZ.armed
      have hDst : (Lane.discarded true (Z.pending c)).ck.state = .locked := (congrArg (fun L : Lane => L.ck.state) hL).trans hZ.locked
      have hDhold : (Lane.discarded true (Z.pending c)).hold = (s.lane l).hold := (congrArg Lane.hold hL).trans hZ.hold
      have hcount : s.countsAt l (s.lane l).hold = true := hc
      rw [hDarm, hDst, hDhold, hcount]
      cases (s.lane l).armed <;> rfl
  · rw [if_neg hfull] at heq
    have hB := hpend
    rw [← heq] at hB
    obtain ⟨n, r, hT, hcounts, hframed⟩ := hX.checkerTake_inside (b := b) (fp := fp) hon hc hB hwin
    have hcapT := hX.capture_checkerTake (b := b) (fp := fp) hon hc hB (hwin.imp_right .inr)
    obtain ⟨hold, k, hend, -⟩ := hT.payloadEnd s
    refine ⟨_, fp, he, hfp, hnone, ?_, fun _ => ⟨?_, ?_, ?_, fun hf => ?_, ?_, ?_, ?_, ?_, ?_⟩, fun hle => absurd hle hfull⟩
    · rw [hend.ck]
      exact hZ.sinceLock
    · rw [hend.ck]
      exact hZ.locked
    · rw [hend.ck, hcd]
      exact congrArg (· ++ [.heavy c]) hrun
    · rw [hend.run]
      change r.counts = _
      rw [hcounts, ← hZ.totals]
    · rw [hend.run]
      exact (hframed hf).trans hZ.totals
    · rw [hend.win]
      exact hwcounts
    · rw [hend.holdReq]
      rfl
    · rw [State.capture_payloadEnd, hcapT, heq]
      exact hcap0
    · rw [hend.armed]
      exact hZ.armed
    · rw [hend.firstErr]
      exact hZ.firstErr

end Sys2Proof.Machine
end

section
/-! A marker in its lane: what a frame boundary, an identity check, a trigger and a phase change of it. -/

namespace Sys2Proof.Machine

variable {s t u v : State} {l m : LaneNo} {X Y Z : Lane} {b : Block} {q : FrameSeq} {mk : Marker}

/-! ### Passing a lane -/

/-- A lane without its counts, its pending heavy run and its trigger. -/
def Lane.bare (L : Lane) : Lane :=
  { Lane.reset with
    tx := L.tx, al := L.al, ck := { L.ck with run := [] }, alarm := L.alarm, alarmKnown := L.alarmKnown, hold := L.hold
    stepCount := L.stepCount, idm := L.idm, rxBuf := L.rxBuf, rxDrops := L.rxDrops, remote := L.remote }

section bare
variable (h : Y.bare = X.bare)
include h

theorem Lane.al_of_bare : Y.al = X.al := (congrArg Lane.al h :)
theorem Lane.hold_of_bare : Y.hold = X.hold := (congrArg Lane.hold h :)
theorem Lane.idm_of_bare : Y.idm = X.idm := (congrArg Lane.idm h :)
theorem Lane.ckState_of_bare : Y.ck.state = X.ck.state := (congrArg (fun L : Lane => L.ck.state) h :)
theorem Lane.reason_of_bare : Y.ck.reason = X.ck.reason := (congrArg (fun L : Lane => L.ck.reason) h :)

end bare

/-- What an operation of a marker keeps of its lane that fires no trigger while the pending heavy run is empty, nor any of a lane
that is not judged. -/
structure State.Passes (s : State) (l : LaneNo) (X Y : Lane) : Prop where
  bare : Y.bare = X.bare
  calm : X.ck.run = [] → Y.ck.run = [] ∧ Y.armed = X.armed ∧ Y.holdReq = X.holdReq ∧ Y.run.tag = X.run.tag ∧
    Y.run.errTag = X.run.errTag ∧ Y.win.tag = X.win.tag
  unjudged : s.judges l X = false → Y.armed = X.armed

theorem State.judges_of_bare (h : Y.bare = X.bare) (ha : Y.armed = X.armed) : s.judges l Y = s.judges l X := by
  rw [State.judges, ha, Lane.ckState_of_bare h, Lane.hold_of_bare h, State.judges]

namespace State.Passes

theorem refl : s.Passes l X X := ⟨rfl, fun h => ⟨h, rfl, rfl, rfl, rfl, rfl⟩, fun _ => rfl⟩

theorem trans (h : s.Passes l X Y) (k : s.Passes l Y Z) : s.Passes l X Z := by
  refine ⟨k.bare.trans h.bare, fun hr => ?_, fun hj => ?_⟩
  · obtain ⟨h1, h2, h3, h4, h5, h6⟩ := h.calm hr
    obtain ⟨k1, k2, k3, k4, k5, k6⟩ := k.calm h1
    exact ⟨k1, k2.trans h2, k3.trans h3, k4.trans h4, k5.trans h5, k6.trans h6⟩
  · have ha := h.unjudged hj
    exact (k.unjudged ((State.judges_of_bare h.bare ha).trans hj)).trans ha

theorem report (f : Counts → Counts) : s.Passes l X (X.report f) := by
  refine ⟨rfl, fun h => ⟨h, rfl, rfl, rfl, rfl, ?_⟩, fun _ => rfl⟩
  unfold Lane.report
  dsimp only
  split <;> rfl

theorem given (c : CapEntry) : s.Passes l X (X.given c) := by
  unfold Lane.given
  split
  · exact refl
  · next hr => exact ⟨rfl, fun h => absurd h hr, fun _ => rfl⟩

end State.Passes

theorem State.countedLanes_unjudged (cs : List Checked) : ∀ {X : Lane}, s.judges l X = false →
    (cs.foldl (fun L c => s.countedLane l c L) X).armed = X.armed := by
  induction cs with
  | nil => exact fun _ => rfl
  | cons c cs ih =>
    intro X h
    have ha : (s.countedLane l c X).armed = X.armed := by
      change (X.armed && !(s.judges l X && _)) = X.armed
      rw [h, Bool.false_and, Bool.not_false, Bool.and_true]
    refine (ih (X := s.countedLane l c X) ?_).trans ha
    rw [State.judges, ha]
    exact h

/-- A window that a frame boundary closes. -/
theorem State.Passes.closed (hf : s.rxFramed l = true) (X : Lane) : s.Passes l X (s.closedLane l .length X) := by
  have hck : (s.closingLane l .length X).ck = { X.ck with run := [] } := State.closingLane_ck (r := .length) nofun X
  refine ⟨?_, fun hr => ?_, fun hj => ?_⟩
  · unfold State.closedLane
    rw [State.closingLane_rest, hck]
    rfl
  · unfold State.closedLane
    rw [State.closingLane_of_nil hr]
    refine ⟨hr, rfl, rfl, rfl, rfl, ?_⟩
    dsimp only
    split
    · unfold State.openedWin
      dsimp only
      rw [if_pos hf]
    · rfl
  · exact State.countedLanes_unjudged (heavyBlocks X.ck.run) (X := { X with ck := { X.ck with run := [] } }) hj

/-! ### Marker errors and frame boundaries -/

/-- A lane at a received frame boundary: a new frame begins for its errored-frame records (R51). -/
def Lane.reframed (L : Lane) : Lane :=
  { L with win := { L.win with tag := L.win.tag + 1 }, run := { L.run with tag := L.run.tag + 1 } }

/-- A marker error in its lane (R17). -/
def State.marredLane (s : State) (l : LaneNo) (L : Lane) : Lane :=
  { (if L.ck.state ≠ .off ∧ s.countsAt l L.hold = true then L.report Counts.addMarkerError else L) with
    al := { L.al with errs := L.al.errs.add 1 } }

/-- The counts of an errored marker join on the same terms. -/
theorem State.Passes.marred : s.Passes l { X with al := { X.al with errs := X.al.errs.add 1 } } (s.marredLane l X) := by
  unfold State.marredLane
  split
  · exact State.Passes.report (X := { X with al := { X.al with errs := X.al.errs.add 1 } }) Counts.addMarkerError
  · exact State.Passes.refl

namespace State.As

theorem offers (h : s.As l t X) (k : CapKind) (q : Option FrameSeq) (p : Nat) :
    ∃ Y, s.As l (t.offerEvent l k q p) Y ∧ s.Passes l X Y := by
  unfold State.offerEvent
  split
  · exact ⟨_, h.giveEntry _, .given _⟩
  · exact ⟨X, h, .refl⟩

theorem markerError (h : s.As l t X) : s.As l (t.markerError l) (s.marredLane l X) := by
  have hal := h.modAl fun a => { a with errs := a.errs.add 1 }
  unfold State.markerError State.marredLane
  dsimp only
  rw [hal.ckOff, hal.counts]
  by_cases hc : X.ck.state ≠ .off ∧ s.countsAt l X.hold = true
  · rw [if_pos (by simpa using hc), if_pos hc]
    exact hal.report Counts.addMarkerError
  · rw [if_neg (by simpa using hc), if_neg hc]
    exact hal

theorem markerErrorEntry (h : s.As l t X) (q : FrameSeq) : ∃ Y, s.As l (t.markerErrorEntry l q) Y ∧ s.Passes l X Y := by
  unfold State.markerErrorEntry
  split
  · exact h.offers _ _ _
  · exact ⟨X, h, .refl⟩

theorem frameBoundary (h : s.As l t X) (hf : s.rxFramed l = true) (q : FrameSeq) :
    ∃ Y, s.As l (t.frameBoundary l q) Y ∧ s.Passes l X.reframed Y := by
  have htags : s.As l (t.nextFrameTags l) X.reframed := h.modLane (f := Lane.reframed)
  have hwin : ∃ Y, s.As l (t.windowBoundary l q) Y ∧ s.Passes l X.reframed Y := by
    have htake : ∀ w : Win, w.tag = X.reframed.win.tag → s.Passes l X.reframed { X.reframed with win := w.takeSeq q } := fun w hw =>
      ⟨rfl, fun hr => ⟨hr, rfl, rfl, rfl, rfl, hw⟩, fun _ => rfl⟩
    unfold State.windowBoundary
    dsimp only
    split
    · exact ⟨_, htags, .refl⟩
    · next ho =>
      split
      · exact ⟨_, htags.modWin fun w => w.takeSeq q, htake _ rfl⟩
      · have hframe := htags.modWin Win.addFrame
        split
        · have hopen : X.reframed.win.addFrame.isOpen = true := by
            rw [htags.win] at ho
            rw [Bool.not_eq_true, Bool.not_eq_false'] at ho
            exact ho
          have hpass : s.Passes l X.reframed { X.reframed with win := X.reframed.win.addFrame } :=
            ⟨rfl, fun hr => ⟨hr, rfl, rfl, rfl, rfl, rfl⟩, fun _ => rfl⟩
          exact ⟨_, hframe.closeWindow hopen .length, hpass.trans (.closed hf _)⟩
        · exact ⟨_, hframe.modWin fun w => w.takeSeq q, htake _ rfl⟩
  obtain ⟨Y, hY, hp⟩ := hwin
  exact ⟨Y, hY.groupBoundary l q, hp⟩

/-! ### Identity -/

theorem identity_same (h : s.As l t X) {r : LaneNo} (hr : r = (s.map l).rxId) (q : FrameSeq) :
    s.As l (t.identity l r q) { X with idm := none } := by
  unfold State.identity
  rw [h.map, if_pos hr]
  exact h.modLane (f := fun L => { L with idm := none })

theorem mismatch (h : s.As l t X) (r : LaneNo) (reason : IdReason) (q : FrameSeq) :
    ∃ Y, s.As l (t.mismatch l r reason q) Y ∧ s.Passes l { X with idm := some ⟨reason, r⟩ } Y := by
  have hidm := h.modLane (f := fun L => { L with idm := some ⟨reason, r⟩ })
  unfold State.mismatch
  dsimp only
  split
  · exact ⟨_, hidm, .refl⟩
  · have hsent := hidm.notify (.laneIdMismatch l r ((t.modLane l fun L => { L with idm := some ⟨reason, r⟩ }).map l).rxId reason
      (t.modLane l fun L => { L with idm := some ⟨reason, r⟩ }).tick)
    split
    · exact hsent.offers _ _ _
    · exact ⟨_, hsent, .refl⟩

theorem identity_mismatch (h : s.As l t X) {r : LaneNo} (hr : r ≠ (s.map l).rxId) (hf : (s.map l).follow = false) (q : FrameSeq) :
    ∃ Y, s.As l (t.identity l r q) Y ∧ s.Passes l { X with idm := some ⟨.mismatch, r⟩ } Y := by
  unfold State.identity
  rw [h.map, if_neg hr, hf, if_pos (show (!false) = true from rfl)]
  exact h.mismatch r .mismatch q

theorem heldByOther (h : s.As l t X) (r : LaneNo) : t.heldByOther l r = s.heldByOther l r := by
  unfold State.heldByOther State.map
  rw [h.laneMap]

theorem identity_duplicate (h : s.As l t X) {r : LaneNo} (hr : r ≠ (s.map l).rxId) (hf : (s.map l).follow = true)
    (hd : s.heldByOther l r = true) (q : FrameSeq) :
    ∃ Y, s.As l (t.identity l r q) Y ∧ s.Passes l { X with idm := some ⟨.duplicate, r⟩ } Y := by
  unfold State.identity
  rw [h.map, if_neg hr, hf, if_neg (show ¬((!true) = true) by decide), h.heldByOther, if_pos hd]
  exact h.mismatch r .duplicate q

/-- R62: a lane that follows takes the id, and its checker hunts. -/
theorem identity_follow (h : s.As l t X) {r : LaneNo} (hr : r ≠ (s.map l).rxId) (hf : (s.map l).follow = true)
    (hd : s.heldByOther l r = false) (q : FrameSeq) :
    (t.setRxId l r).As l (t.identity l r q) (if X.ck.state = .off then { X with idm := none }
      else (Lane.discarded true { X with idm := none }).hunting ((t.setRxId l r).huntReason l)) := by
  have hset : (t.setRxId l r).As l (t.setRxId l r) X := ⟨rfl, h.stands⟩
  have hidm := hset.modLane (f := fun L => { L with idm := none })
  unfold State.identity
  rw [h.map, if_neg hr, hf, if_neg (show ¬((!true) = true) by decide), h.heldByOther, hd, if_neg Bool.false_ne_true]
  split
  · next hoff =>
    rw [State.forceHunt_of_off]
    · exact hidm
    · rw [hidm.ck]
      exact hoff
  · next hon => exact hidm.forceHunt hon (congrArg Aligner.state h.al).symm _ _ _

end State.As

/-! ### The trigger, the far end, the phase -/

/-- A lane whose FRAME_SEQ trigger is judged for a good marker (R136). -/
def State.frameFired (s : State) (l : LaneNo) (q : FrameSeq) (L : Lane) : Lane :=
  if (s.judges l L && (s.desc l).trigger == .frameSeq q.toNat) = true then
    Lane.given ⟨l, .trigger, some q, 0, none, s.tick⟩ { L with armed := false, holdReq := L.holdReq || (s.desc l).action == .hold }
  else L

/-- A lane whose checker may wait for the phase of a marker (R42). -/
def State.phased (s : State) (l : LaneNo) (p : Nat) (L : Lane) : Lane :=
  { L with
    ck := if s.countsAt l L.hold = true ∧ L.ck.state = .hunt ∧ L.ck.reason = .waitPhase ∧ p < (s.rxPat l).len then
      { L.ck with state := .confirm, confirmRun := 0, phase := p } else L.ck }

/-- The lane after the trigger of a marker, its far end and its phase (R15). -/
def State.markedLane (s : State) (l : LaneNo) (m : Marker) (L : Lane) : Lane :=
  s.phased l m.phase { s.frameFired l m.seq L with al := { (s.frameFired l m.seq L).al with far := .known m.lock m.alarm } }

namespace State.As

theorem fireFrameSeq (h : s.As l t X) (q : FrameSeq) : s.As l (t.fireFrameSeq l q) (s.frameFired l q X) := by
  unfold State.fireFrameSeq State.frameFired
  rw [h.trigJudged, h.desc, h.tick]
  split
  · exact h.fireTrigger _ _ _
  · exact h

theorem takePhase (h : s.As l t X) (p : Nat) : s.As l (t.takePhase l p) (s.phased l p X) := by
  unfold State.takePhase State.phased
  dsimp only
  rw [h.counts, h.ck, h.rxPat]
  by_cases hc : s.countsAt l X.hold = true ∧ X.ck.state = .hunt ∧ X.ck.reason = .waitPhase ∧ p < (s.rxPat l).len
  · rw [if_pos (by simpa [and_assoc] using hc), if_pos hc]
    exact h.modCk fun k => { k with state := .confirm, confirmRun := 0, phase := p }
  · rw [if_neg (by simpa [and_assoc] using hc), if_neg hc]
    exact h

end State.As

section marked
variable (s : State) (l : LaneNo) (q : FrameSeq) (mk : Marker) (X : Lane)

theorem State.frameFired_bare : (s.frameFired l q X).bare = X.bare := by
  unfold State.frameFired Lane.given
  split
  · split <;> rfl
  · rfl

theorem State.frameFired_counts : (s.frameFired l q X).run = X.run ∧ (s.frameFired l q X).win = X.win := by
  unfold State.frameFired Lane.given
  split
  · split <;> exact ⟨rfl, rfl⟩
  · exact ⟨rfl, rfl⟩

theorem State.frameFired_armed : (s.frameFired l q X).armed =
    (X.armed && !(s.judges l X && (s.desc l).trigger == .frameSeq q.toNat)) := by
  unfold State.frameFired Lane.given
  split
  · next h =>
    rw [h, Bool.not_true, Bool.and_false]
    split <;> rfl
  · next h => rw [Bool.eq_false_iff.mpr h, Bool.not_false, Bool.and_true]

variable {s l q mk X}

theorem State.frameFired_run (h : X.ck.run = []) : (s.frameFired l q X).ck.run = [] := by
  unfold State.frameFired Lane.given
  split
  · exact h
  · exact h

variable (s l q mk X)

theorem State.markedLane_al : (s.markedLane l mk X).al = { X.al with far := .known mk.lock mk.alarm } :=
  congrArg (fun a : Aligner => { a with far := .known mk.lock mk.alarm }) (Lane.al_of_bare (State.frameFired_bare s l mk.seq X))

theorem State.markedLane_idm : (s.markedLane l mk X).idm = X.idm :=
  (Lane.idm_of_bare (State.frameFired_bare s l mk.seq X) :)

theorem State.markedLane_counts : (s.markedLane l mk X).run = X.run ∧ (s.markedLane l mk X).win = X.win :=
  State.frameFired_counts s l mk.seq X

theorem State.markedLane_armed : (s.markedLane l mk X).armed =
    (X.armed && !(s.judges l X && (s.desc l).trigger == .frameSeq mk.seq.toNat)) := State.frameFired_armed s l mk.seq X

theorem State.markedLane_ck : ((s.markedLane l mk X).ck.state = .confirm ∧ (s.markedLane l mk X).ck.confirmRun = 0 ∧
      (s.markedLane l mk X).ck.phase = mk.phase ∧ X.ck.state = .hunt ∧ X.ck.reason = .waitPhase ∧ s.countsAt l X.hold = true ∧
      mk.phase < (s.rxPat l).len) ∨
    ((s.markedLane l mk X).ck.state = X.ck.state ∧ (s.markedLane l mk X).ck.reason = X.ck.reason ∧
      ¬(s.countsAt l X.hold = true ∧ X.ck.state = .hunt ∧ X.ck.reason = .waitPhase ∧ mk.phase < (s.rxPat l).len)) := by
  have hb := State.frameFired_bare s l mk.seq X
  unfold State.markedLane State.phased
  dsimp only
  rw [Lane.hold_of_bare hb, Lane.ckState_of_bare hb, Lane.reason_of_bare hb]
  split
  · next hc => exact .inl ⟨rfl, rfl, rfl, hc.2.1, hc.2.2.1, hc.1, hc.2.2.2⟩
  · next hc => exact .inr ⟨Lane.ckState_of_bare hb, Lane.reason_of_bare hb, hc⟩

end marked

end Sys2Proof.Machine
end

section
/-! What a marker does to its part: the marker channel's own fields, one lane, and nothing of the other lanes. -/

namespace Sys2Proof.Machine

variable {s t u v : State} {l k : LaneNo} {X Y Z : Lane} {b : Block} {q : FrameSeq} {m : Marker}

/-! ### The marker channel changes fields of its own -/

/-- From `s` to `t` the marker channel, the supervisor, the command queue and the notices alone move. -/
def State.Channels (s t : State) : Prop :=
  ∃ link sup cmdQ egress lost, t = { s with link := link, sup := sup, cmdQ := cmdQ, egress := egress, noticesLost := lost }

namespace State.Channels

theorem refl : s.Channels s := ⟨_, _, _, _, _, rfl⟩

theorem trans (h : s.Channels t) (h' : t.Channels u) : s.Channels u := by
  obtain ⟨_, _, _, _, _, rfl⟩ := h
  obtain ⟨_, _, _, _, _, rfl⟩ := h'
  exact ⟨_, _, _, _, _, rfl⟩

theorem notify (n : Notice) : s.Channels (s.notify n) := by
  unfold State.notify
  split <;> exact ⟨_, _, _, _, _, rfl⟩

theorem modLink (f : Link → Link) : s.Channels (s.modLink f) := ⟨_, _, _, _, _, rfl⟩

theorem joinOutbound (r : PeerRec) : s.Channels (s.joinOutbound r) :=
  ite_keeps (fun _ => modLink _) fun _ => modLink _

theorem inboundRecord (r : PeerRec) : s.Channels (s.inboundRecord r) := by
  have hsup : s.Channels { s with sup := { s.sup with armed := false, warned := false } } := ⟨_, _, _, _, _, rfl⟩
  refine hsup.trans (ite_keeps (fun _ => ite_keeps (fun _ => ite_keeps (fun _ => ?_) fun _ => joinOutbound _)
    fun _ => joinOutbound _) fun _ => ite_keeps (fun _ => refl) fun _ => notify _)
  exact ⟨_, _, _, _, _, rfl⟩

theorem completeRecord (os : List Octet) : s.Channels (s.completeRecord os) :=
  ite_keeps (fun _ => inboundRecord _) fun _ => notify _

theorem assemble (o : Octet) (e : Bool) : s.Channels (s.assemble o e) := by
  refine ite_keeps (fun _ => ite_keeps (fun _ => modLink _) fun _ => refl) fun _ => ite_keeps (fun _ => ?_) fun _ => ?_
  · exact ite_keeps (fun _ => (modLink _).trans (completeRecord _)) fun _ => (modLink _).trans (notify _)
  · exact ite_keeps (fun _ => (modLink _).trans (notify _)) fun _ => modLink _

theorem takeOctet (m : Marker) : s.Channels (s.takeOctet m) :=
  ite_keeps (fun _ => ite_keeps (fun _ => (modLink _).trans (assemble _ _)) fun _ => refl) fun _ =>
    ite_keeps (fun _ => assemble _ _) fun _ => refl

theorem ackOctet (m : Marker) : s.Channels (s.ackOctet m) := ite_keeps (fun _ => modLink _) fun _ => refl

theorem takeChannelFields (l : LaneNo) (m : Marker) : s.Channels (s.takeChannelFields l m) :=
  ite_keeps (fun _ => (ackOctet m).trans (takeOctet m)) fun _ => refl

theorem linkAligned (l : LaneNo) : s.Channels (s.linkAligned l) := ite_keeps (fun _ => modLink _) fun _ => refl

theorem linkLeft (l : LaneNo) : s.Channels (s.linkLeft l) :=
  ite_keeps (fun _ => (modLink _).trans (ite_keeps (fun _ => notify _) fun _ => refl)) fun _ => refl

section
variable (h : s.Channels t)
include h

theorem lanes : t.lanes = s.lanes := by
  obtain ⟨_, _, _, _, _, rfl⟩ := h
  rfl

theorem lane (l : LaneNo) : t.lane l = s.lane l := by rw [State.lane, h.lanes, State.lane]

theorem groups : t.groups = s.groups := by
  obtain ⟨_, _, _, _, _, rfl⟩ := h
  rfl

theorem tick : t.tick = s.tick := by
  obtain ⟨_, _, _, _, _, rfl⟩ := h
  rfl

theorem desc (l : LaneNo) : t.desc l = s.desc l := by
  obtain ⟨_, _, _, _, _, rfl⟩ := h
  rfl

theorem rxFramed (l : LaneNo) : t.rxFramed l = s.rxFramed l := by
  obtain ⟨_, _, _, _, _, rfl⟩ := h
  rfl

theorem laneMap : t.laneMap = s.laneMap := by
  obtain ⟨_, _, _, _, _, rfl⟩ := h
  rfl

theorem capture : t.capture = s.capture := by
  obtain ⟨_, _, _, _, _, rfl⟩ := h
  rfl

end

end State.Channels

/-! ### Fields that a received block leaves -/

/-- From `s` to `t` the fixed fields stand but for the lane map, the marker channel, the supervisor and the command queue. -/
def State.Rooted (s t : State) : Prop :=
  ({ t with laneMap := s.laneMap, link := s.link, sup := s.sup, cmdQ := s.cmdQ } : State).fixed = s.fixed

namespace State.Rooted

theorem refl : s.Rooted s := rfl

theorem trans (h : s.Rooted t) (h' : t.Rooted u) : s.Rooted u := by
  have e := (congrArg (fun F : Fixed => { F with laneMap := s.laneMap, link := s.link, sup := s.sup, cmdQ := s.cmdQ }) h' :)
  exact e.trans h

theorem of_fixed (h : t.fixed = s.fixed) : s.Rooted t :=
  (congrArg (fun F : Fixed => { F with laneMap := s.laneMap, link := s.link, sup := s.sup, cmdQ := s.cmdQ }) h :)

theorem of_channels (h : s.Channels t) : s.Rooted t := by
  obtain ⟨_, _, _, _, _, rfl⟩ := h
  rfl

end State.Rooted

/-- From `s` to `t` the part stands but for the fields of `Rooted`, and every lane but `l` does, its group items and history apart. -/
structure State.Around (l : LaneNo) (s t : State) : Prop where
  rooted : s.Rooted t
  others : t.others (some l) = s.others (some l)

namespace State.Around

theorem refl : s.Around l s := ⟨.refl, rfl⟩

theorem trans (h : s.Around l t) (h' : t.Around l u) : s.Around l u := ⟨h.rooted.trans h'.rooted, h'.others.trans h.others⟩

theorem of_fixed (hf : t.fixed = s.fixed) (ho : t.others (some l) = s.others (some l)) : s.Around l t := ⟨.of_fixed hf, ho⟩

theorem of_channels (h : s.Channels t) : s.Around l t := by
  refine ⟨.of_channels h, (State.others_iff _ _ _).mpr fun k _ => ?_⟩
  rw [h.lane]

theorem modAl (f : Aligner → Aligner) : s.Around l (s.modAl l f) := of_fixed rfl (State.modAl_others ..)

theorem markerError : s.Around l (s.markerError l) := by
  have h : s.Around l (s.modAl l fun a => { a with errs := a.errs.add 1 }) := modAl _
  exact ite_keeps_of (P := fun t => s.Around l t) (fun h => h.trans (of_fixed (State.report_fixed ..) (State.report_others ..))) h

theorem markerErrorEntry (q : FrameSeq) : s.Around l (s.markerErrorEntry l q) :=
  ite_keeps_of (P := fun t => s.Around l t) (fun h => h.trans (of_fixed (State.offerEvent_fixed ..) (State.offerEvent_others ..))) refl

theorem noteAligned : s.Around l (s.noteAligned l) := of_fixed (State.noteAligned_fixed ..) (State.noteAligned_others ..)

theorem frameBoundary (q : FrameSeq) : s.Around l (s.frameBoundary l q) :=
  (of_fixed (State.windowBoundary_fixed ..) (State.windowBoundary_others ..)).trans
    (of_fixed (State.groupBoundary_fixed ..) (by
      refine (State.others_iff _ _ _).mpr fun k _ => ?_
      exact (State.others_none_iff _ _).mp (State.groupBoundary_others ..) k))

theorem setRxId (r : LaneNo) : s.Around l (s.setRxId l r) := ⟨rfl, rfl⟩

theorem mismatch (r : LaneNo) (reason : IdReason) (q : FrameSeq) : s.Around l (s.mismatch l r reason q) := by
  have hidm : s.Around l (s.modLane l fun L => { L with idm := some ⟨reason, r⟩ }) := of_fixed rfl (State.modLane_others ..)
  have hsent : ∀ n, s.Around l ((s.modLane l fun L => { L with idm := some ⟨reason, r⟩ }).notify n) := fun n =>
    hidm.trans (of_channels (.notify n))
  exact ite_keeps (P := fun t => s.Around l t) (fun _ => hidm) fun _ => ite_keeps_of (P := fun t => s.Around l t)
    (fun h => h.trans (of_fixed (State.offerEvent_fixed ..) (State.offerEvent_others ..))) (hsent _)

theorem identity (r : LaneNo) (q : FrameSeq) : s.Around l (s.identity l r q) := by
  have hidm : ∀ {t : State}, t.Around l (t.modLane l fun L => { L with idm := none }) := of_fixed rfl (State.modLane_others ..)
  refine ite_keeps (P := fun t => s.Around l t) (fun _ => hidm) fun _ => ite_keeps (P := fun t => s.Around l t) (fun _ => mismatch ..)
    fun _ => ite_keeps (P := fun t => s.Around l t) (fun _ => mismatch ..) fun _ => ?_
  exact (setRxId r).trans (hidm.trans (of_fixed (State.forceHunt_fixed ..) (State.forceHunt_others ..)))

theorem fireFrameSeq (q : FrameSeq) : s.Around l (s.fireFrameSeq l q) :=
  ite_keeps_of (P := fun t => s.Around l t) (fun h => h.trans (of_fixed (State.fireTrigger_fixed ..) (State.fireTrigger_others ..))) refl

theorem takeMarker : s.Around l (s.takeMarker l m) :=
  (identity m.id m.seq).trans ((fireFrameSeq m.seq).trans ((modAl _).trans ((of_fixed (State.takePhase_fixed ..)
    (State.takePhase_others ..)).trans (of_channels (.takeChannelFields l m)))))

theorem endStep (q : Option FrameSeq) : s.Around l (s.endStep l q) := of_fixed (State.endStep_fixed ..) (State.endStep_others ..)

theorem acceptMarker : s.Around l (s.acceptMarker l m) := (frameBoundary m.seq).trans (takeMarker.trans (endStep _))

theorem completeTrial : s.Around l (s.completeTrial l m) :=
  (modAl _).trans ((of_channels (.linkAligned l)).trans (noteAligned.trans acceptMarker))

theorem goodAligned : s.Around l (s.goodAligned l m) :=
  (ite_keeps_of (P := fun t => s.Around l t) (fun h => h.trans (markerError.trans (markerErrorEntry _))) (modAl _)).trans acceptMarker

theorem discardRun (c g : Bool) : s.Around l (s.discardRun l c g) := of_fixed (State.discardRun_fixed ..) (State.discardRun_others ..)

theorem markerLoss (q : FrameSeq) : s.Around l (s.markerLoss l q) := by
  have hal : s.Around l (s.modAl l fun a => { a with state := .seek, pos := 0, trial := 0, miss := 0 }) := modAl _
  have hmid : ∀ {t : State}, t.Around l (if (!t.counting l) = true then t
      else match (t.lane l).ck.state with
        | .locked => ((t.discardRun l true true).markerErrorEntry l q).countLoss l .marker (some (s.lane l).al.seq) 0
        | .hunt => (t.markerErrorEntry l q).enterHunt l
        | .confirm => (t.markerErrorEntry l q).enterHunt l
        | _ => t.markerErrorEntry l q) := by
    intro t
    have hunts : t.Around l ((t.markerErrorEntry l q).enterHunt l) :=
      (markerErrorEntry q).trans (of_fixed (State.enterHunt_fixed ..) (State.enterHunt_others ..))
    split
    · exact refl
    · split
      · exact (discardRun true true).trans ((markerErrorEntry q).trans
          (of_fixed (State.countLoss_fixed ..) (State.countLoss_others ..)))
      · exact hunts
      · exact hunts
      · exact markerErrorEntry q
  refine (hal.trans hmid).trans ((of_channels (.linkLeft l)).trans (of_fixed (State.groupLeft_fixed ..) ?_))
  refine (State.others_iff _ _ _).mpr fun k _ => ?_
  exact (State.others_none_iff _ _).mp (State.groupLeft_others ..) k

theorem badAligned : s.Around l (s.badAligned l) :=
  markerError.trans (ite_keeps (P := fun t => (s.markerError l).Around l t)
    (fun _ => (modAl _).trans ((markerErrorEntry _).trans ((frameBoundary _).trans (endStep _)))) fun _ => markerLoss _)

end State.Around

end Sys2Proof.Machine
end

section
/-! A received block and the lanes: what each leaves of the others, and what a marker makes of its own. -/

namespace Sys2Proof.Machine

variable {s t u v : State} {l k : LaneNo} {X Y Z : Lane} {a : Aligner} {b : Block} {fp : Option (FrameSeq × Nat)} {q : FrameSeq}
  {m : Marker}

/-! ### The other lanes at a payload block -/

/-- What of a lane no block received on another lane changes. -/
def Lane.apart (L : Lane) : Lane := { Lane.reset with al := L.al, tx := L.tx, ck := L.ck, run := L.run, rxBuf := L.rxBuf }

theorem Lane.apart_of_still (h : Y.still = X.still) : Y.apart = X.apart := (congrArg Lane.apart h :)

theorem State.apart_settleHolds : (s.settleHolds.lane k).apart = (s.lane k).apart := by
  have h := (State.As.refl (s := s) (l := k)).settleHolds
  exact (congrArg Lane.apart h.stands :)

/-- The measuring operations of lane `l` leave the other lanes so. -/
theorem Measured.apart (l : LaneNo) (K : LaneNo → Lane) :
    Measured ⟨False, False⟩ l (fun s => ∀ k, k ≠ l → (s.lane k).apart = K k) where
  aware h := h.elim
  mem j f h k hk := by
    refine Eq.trans ?_ (h k hk)
    rw [State.modMem, State.lane_modLane]
    split
    · next e =>
      rw [e]
      rfl
    · rfl
  group h _ := h
  notify n h k hk := by
    rw [State.lane, State.lanes_notify]
    exact h k hk
  serial h := h
  append h _ := h
  post g number serial errs bits h k hk :=
    (Lane.apart_of_still (State.still_of_others (State.postJob_others ..) k)).trans (h k hk)
  lane h _ k hk := by
    rw [State.lane_modLane, if_neg hk]
    exact h k hk
  capture c h k hk := (Lane.apart_of_still (State.still_of_others (State.placeCapture_others ..) k)).trans (h k hk)
  appendLane h _ k hk := (Lane.apart_of_still (State.still_of_others (State.modHistory_others ..) k)).trans (h k hk)
  postLane number serial errs bits h k hk :=
    (Lane.apart_of_still (State.still_of_others (State.postJob_others ..) k)).trans (h k hk)
  faults _ h := h
  suspects bk h k hk := by
    refine Eq.trans ?_ (h k hk)
    rw [State.lane_markSuspects]
    split <;> rfl

/-- A payload block: the aligner as it was handed on, the fixed fields, the other lanes. -/
theorem State.payload_facts (s : State) (l : LaneNo) (b : Block) (a : Aligner) (fp : Option (FrameSeq × Nat)) :
    s.Rooted ((s.modAl l fun _ => a).payload l b fp) ∧
    ((((s.modAl l fun _ => a).payload l b fp).settleHolds.lane l).al = a) ∧
    (∀ k, k ≠ l → (((s.modAl l fun _ => a).payload l b fp).lane k).apart = (s.lane k).apart) ∧
    ((s.modAl l fun _ => a).payload l b fp).laneMap = s.laneMap ∧ ((s.modAl l fun _ => a).payload l b fp).link = s.link ∧
    ((s.modAl l fun _ => a).payload l b fp).cmdQ = s.cmdQ ∧ ((s.modAl l fun _ => a).payload l b fp).sup = s.sup := by
  have heq : ((s.modAl l fun _ => a).payload l b fp).settleHolds = s.payloadEnd l ((s.placed l b a).checkerTake l b fp) := by
    rw [State.payload_eq]
    rfl
  have hplaced : ∀ k, k ≠ l → ((s.placed l b a).lane k).apart = (s.lane k).apart := fun k hk => by
    rw [State.placed, State.lane, State.putLane, Eight.get_set, if_neg hk]
    rfl
  have htake := (Measured.apart l fun k => (s.lane k).apart).checkerTake id b fp hplaced
  have hfix : ((s.modAl l fun _ => a).payload l b fp).fixed = s.fixed := by
    rw [State.payload_eq]
    have h0 : ((s.placed l b a).checkerTake l b fp).fixed = s.fixed := State.checkerTake_fixed ..
    refine ite_keeps (P := fun t => t.fixed = s.fixed) (fun _ => h0) fun _ => ?_
    unfold State.stepRaw
    exact ite_keeps (P := fun t => t.fixed = s.fixed) (fun _ => ite_keeps (P := fun t => t.fixed = s.fixed) (fun _ => h0)
      fun _ => (State.endStep_fixed ..).trans h0) fun _ => h0
  refine ⟨.of_fixed hfix, ?_, ?_, (congrArg Fixed.laneMap hfix :), (congrArg Fixed.link hfix :), (congrArg Fixed.cmdQ hfix :),
    (congrArg Fixed.sup hfix :)⟩
  · have hX : (s.placed l b a).As l (s.placed l b a) (s.atChecker l b a) := State.As.placed s l b a
    obtain ⟨Y, hY, hu⟩ := hX.checkerTake_unchecked (b := b) (fp := fp) (congrArg Aligner.state hX.al.symm)
    obtain ⟨hold, n, hend, -⟩ := hY.payloadEnd s
    rw [heq, hend.al]
    exact (congrArg Lane.al hu :)
  · rw [State.payload_eq]
    exact ite_keeps (P := fun t => ∀ k, k ≠ l → (t.lane k).apart = (s.lane k).apart) (fun _ => htake) fun _ =>
      ite_keeps (P := fun t => ∀ k, k ≠ l → (t.lane k).apart = (s.lane k).apart)
        (fun _ => ite_keeps (P := fun t => ∀ k, k ≠ l → (t.lane k).apart = (s.lane k).apart)
          (fun _ => (Measured.apart l fun k => (s.lane k).apart).lane htake (.of_eq rfl rfl rfl rfl rfl rfl rfl))
          fun _ => (Measured.apart l fun k => (s.lane k).apart).endStep _ htake) fun _ => htake

/-! ### A marker in its lane -/

/-- What an identity check, after the frame boundary of its marker, leaves of the lane. -/
structure State.Identified (l : LaneNo) (v u : State) : Prop where
  al : (u.lane l).al = (v.lane l).al
  hold : (u.lane l).hold = (v.lane l).hold
  off : (u.lane l).ck.state = .off ↔ (v.lane l).ck.state = .off
  calm : (v.lane l).ck.run = [] → (u.lane l).ck.run = [] ∧ (u.lane l).armed = (v.lane l).armed ∧
    (u.lane l).holdReq = (v.lane l).holdReq ∧ (u.lane l).run.tag = (v.lane l).run.tag + 1 ∧
    (u.lane l).run.errTag = (v.lane l).run.errTag ∧ (u.lane l).win.tag = (v.lane l).win.tag + 1
  unjudged : v.judges l (v.lane l) = false → (u.lane l).armed = (v.lane l).armed

/-- From the lane that the check leaves. -/
theorem State.Identified.of {w : State} (h : w.As l u Y) (hal : Y.al = (v.lane l).al) (hh : Y.hold = (v.lane l).hold)
    (hoff : Y.ck.state = .off ↔ (v.lane l).ck.state = .off)
    (hcalm : (v.lane l).ck.run = [] → Y.ck.run = [] ∧ Y.armed = (v.lane l).armed ∧ Y.holdReq = (v.lane l).holdReq ∧
      Y.run.tag = (v.lane l).run.tag + 1 ∧ Y.run.errTag = (v.lane l).run.errTag ∧ Y.win.tag = (v.lane l).win.tag + 1)
    (hun : v.judges l (v.lane l) = false → Y.armed = (v.lane l).armed) : State.Identified l v u := by
  refine ⟨h.al.trans hal, h.hold.trans hh, ?_, ?_, ?_⟩
  · rw [h.ck]
    exact hoff
  · rw [h.ck, h.armed, h.holdReq, h.run, h.win]
    exact hcalm
  · rw [h.armed]
    exact hun

/-- The lane after the frame boundary of a marker, its identity condition not yet judged. -/
theorem State.Identified.of_passes {w : State} {c : Option IdMismatch} (h : w.As l u Z)
    (hX : v.Passes l (v.lane l).reframed X) (hZ : v.Passes l { X with idm := c } Z) : State.Identified l v u := by
  have hb : Z.al = (v.lane l).al ∧ Z.hold = (v.lane l).hold ∧ Z.ck.state = (v.lane l).ck.state :=
    ⟨(Lane.al_of_bare hZ.bare).trans (Lane.al_of_bare hX.bare :), (Lane.hold_of_bare hZ.bare).trans (Lane.hold_of_bare hX.bare :),
      (Lane.ckState_of_bare hZ.bare).trans (Lane.ckState_of_bare hX.bare :)⟩
  refine .of h hb.1 hb.2.1 (by rw [hb.2.2]) (fun hr => ?_) fun hj => ?_
  · obtain ⟨h1, h2, h3, h4, h5, h6⟩ := hX.calm hr
    obtain ⟨k1, k2, k3, k4, k5, k6⟩ := hZ.calm h1
    exact ⟨k1, k2.trans h2, k3.trans h3, k4.trans h4, k5.trans h5, k6.trans h6⟩
  · have ha := hX.unjudged hj
    exact (hZ.unjudged ((State.judges_of_bare hX.bare ha).trans hj)).trans ha

/-- R62, R61: the identity check of a good marker, its cases. -/
theorem State.identified (hf : v.rxFramed l = true) (m : Marker) : 
    State.Identified l v ((v.frameBoundary l m.seq).identity l m.id m.seq) ∧
    (m.id = (v.map l).rxId → ∃ X, v.Passes l (v.lane l).reframed X ∧
      v.As l ((v.frameBoundary l m.seq).identity l m.id m.seq) { X with idm := none }) ∧
    (m.id ≠ (v.map l).rxId → (v.map l).follow = false →
      ((v.frameBoundary l m.seq).identity l m.id m.seq).laneMap = v.laneMap ∧
      (((v.frameBoundary l m.seq).identity l m.id m.seq).lane l).idm = some ⟨.mismatch, m.id⟩) ∧
    (m.id ≠ (v.map l).rxId → (v.map l).follow = true → v.heldByOther l m.id = true →
      ((v.frameBoundary l m.seq).identity l m.id m.seq).laneMap = v.laneMap ∧
      (((v.frameBoundary l m.seq).identity l m.id m.seq).lane l).idm = some ⟨.duplicate, m.id⟩) ∧
    (m.id ≠ (v.map l).rxId → (v.map l).follow = true → v.heldByOther l m.id = false →
      ((v.frameBoundary l m.seq).identity l m.id m.seq).laneMap = (v.setRxId l m.id).laneMap ∧
      (((v.frameBoundary l m.seq).identity l m.id m.seq).lane l).idm = none ∧
      ((v.lane l).ck.state ≠ .off → (((v.frameBoundary l m.seq).identity l m.id m.seq).lane l).ck.state = .hunt)) := by
  obtain ⟨X, hX, hp⟩ := (State.As.refl (s := v) (l := l)).frameBoundary hf m.seq
  have hXoff : X.ck.state = (v.lane l).ck.state := Lane.ckState_of_bare hp.bare
  have follows : m.id ≠ (v.map l).rxId → (v.map l).follow = true → v.heldByOther l m.id = false →
      State.Identified l v ((v.frameBoundary l m.seq).identity l m.id m.seq) ∧
      ((v.frameBoundary l m.seq).identity l m.id m.seq).laneMap = (v.setRxId l m.id).laneMap ∧
      (((v.frameBoundary l m.seq).identity l m.id m.seq).lane l).idm = none ∧
      ((v.lane l).ck.state ≠ .off → (((v.frameBoundary l m.seq).identity l m.id m.seq).lane l).ck.state = .hunt) := by
    intro h1 h2 h3
    have h := hX.identity_follow h1 h2 h3 m.seq
    have hmap : ((v.frameBoundary l m.seq).setRxId l m.id).laneMap = (v.setRxId l m.id).laneMap := by
      unfold State.setRxId
      dsimp only
      rw [hX.laneMap]
    by_cases hoff : X.ck.state = .off
    · rw [if_pos hoff] at h
      exact ⟨.of_passes (c := none) h hp .refl, h.laneMap.trans hmap, h.idm, fun hno => absurd (hXoff.symm.trans hoff) hno⟩
    · rw [if_neg hoff] at h
      have hrest := Lane.discarded_rest true { X with idm := none }
      generalize hD : Lane.discarded true { X with idm := none } = D at h hrest
      have hDal : D.al = X.al := (congrArg Lane.al hrest :)
      have hDhold : D.hold = X.hold := (congrArg Lane.hold hrest :)
      have hDarmed : D.armed = X.armed := (congrArg Lane.armed hrest :)
      have hDidm : D.idm = none := (congrArg Lane.idm hrest :)
      refine ⟨.of h (hDal.trans (Lane.al_of_bare hp.bare)) (hDhold.trans (Lane.hold_of_bare hp.bare))
        ⟨fun e => (nomatch (e : CkState.hunt = .off)), fun e => absurd (hXoff.trans e) hoff⟩ (fun hr => ?_)
        fun hj => hDarmed.trans (hp.unjudged hj), h.laneMap.trans hmap, h.idm.trans hDidm, fun _ => ?_⟩
      · have hDX : D = { X with idm := none } := by
          rw [← hD]
          exact Lane.discarded_of_nil true (hp.calm hr).1
        rw [hDX]
        exact hp.calm hr
      · rw [h.ck]
        rfl
  refine ⟨?_, fun h => ⟨X, hp, hX.identity_same h m.seq⟩, fun h1 h2 => ?_, fun h1 h2 h3 => ?_, fun h1 h2 h3 => (follows h1 h2 h3).2⟩
  · by_cases h1 : m.id = (v.map l).rxId
    · exact .of_passes (c := none) (hX.identity_same h1 m.seq) hp .refl
    · cases h2 : (v.map l).follow with
      | false =>
        obtain ⟨Z, hZ, hpz⟩ := hX.identity_mismatch h1 h2 m.seq
        exact .of_passes hZ hp hpz
      | true =>
        cases h3 : v.heldByOther l m.id with
        | true =>
          obtain ⟨Z, hZ, hpz⟩ := hX.identity_duplicate h1 h2 h3 m.seq
          exact .of_passes hZ hp hpz
        | false => exact (follows h1 h2 h3).1
  · obtain ⟨Z, hZ, hpz⟩ := hX.identity_mismatch h1 h2 m.seq
    exact ⟨hZ.laneMap, hZ.idm.trans (Lane.idm_of_bare hpz.bare)⟩
  · obtain ⟨Z, hZ, hpz⟩ := hX.identity_duplicate h1 h2 h3 m.seq
    exact ⟨hZ.laneMap, hZ.idm.trans (Lane.idm_of_bare hpz.bare)⟩

/-- The lane at the end of a marker's step. -/
theorem State.accepted_lane (v : State) (l : LaneNo) (m : Marker) : ∃ hold n,
    ((v.acceptMarker l m).settleHolds.lane l).still = (Lane.settled {
      ((v.frameBoundary l m.seq).identity l m.id m.seq).markedLane l m
        (((v.frameBoundary l m.seq).identity l m.id m.seq).lane l) with hold := hold, stepCount := n }).still ∧
    ((((v.frameBoundary l m.seq).identity l m.id m.seq).lane l).hold ≠ .stepping →
      hold = (((v.frameBoundary l m.seq).identity l m.id m.seq).lane l).hold) := by
  unfold State.acceptMarker State.takeMarker
  dsimp only
  generalize (v.frameBoundary l m.seq).identity l m.id m.seq = u
  have hph := (((State.As.refl (s := u) (l := l)).fireFrameSeq m.seq).modAl fun a => { a with far := .known m.lock m.alarm }).takePhase
    m.phase
  generalize (((u.fireFrameSeq l m.seq).modAl l fun a => { a with far := .known m.lock m.alarm }).takePhase l m.phase) = w at hph ⊢
  have hch : (w.takeChannelFields l m).lane l = w.lane l := (State.Channels.takeChannelFields l m).lane l
  have hbase : (w.takeChannelFields l m).As l (w.takeChannelFields l m) (u.markedLane l m (u.lane l)) :=
    ⟨rfl, (congrArg Lane.still hch).trans hph.stands⟩
  obtain ⟨hold, n, hend, hkeep⟩ := hbase.endStep (some m.seq)
  refine ⟨hold, n, hend.settleHolds.stands, fun hne => ?_⟩
  have hh : (u.markedLane l m (u.lane l)).hold = (u.lane l).hold := (Lane.hold_of_bare (State.frameFired_bare u l m.seq _) :)
  exact (hkeep (by rw [hh]; exact hne)).trans hh

end Sys2Proof.Machine
end

section
/-! The arrivals of a marker: the good one that is taken, the bad one, the fourth bad one in a row. -/

namespace Sys2Proof.Machine

variable {s t u v : State} {l k : LaneNo} {X Y Z : Lane} {a : Aligner} {b : Block} {fp : Option (FrameSeq × Nat)} {q : FrameSeq}
  {m : Marker}

namespace State.Rooted

section
variable (h : s.Rooted t)
include h

theorem laneDesc : t.laneDesc = s.laneDesc := (congrArg Fixed.laneDesc h :)
theorem configured : t.configured = s.configured := (congrArg Fixed.configured h :)
theorem patDesc : t.patDesc = s.patDesc := (congrArg Fixed.patDesc h :)
theorem chan : t.chan = s.chan := (congrArg Fixed.chan h :)
theorem permit : t.permit = s.permit := (congrArg Fixed.permit h :)
theorem tick : t.tick = s.tick := (congrArg Fixed.tick h :)

theorem desc (k : LaneNo) : t.desc k = s.desc k := by rw [State.desc, h.laneDesc, State.desc]

theorem rxFramed (k : LaneNo) : t.rxFramed k = s.rxFramed k := by rw [State.rxFramed, h.configured, h.desc, State.rxFramed]

theorem countsAt (hold : HoldState) : t.countsAt k hold = s.countsAt k hold := by
  unfold State.countsAt
  rw [h.desc]

theorem judges (X : Lane) : t.judges k X = s.judges k X := by rw [State.judges, h.countsAt, State.judges]

theorem rxPat (hm : t.laneMap = s.laneMap) : t.rxPat k = s.rxPat k := by
  rw [State.rxPat, State.pat, State.map, hm, h.patDesc, State.rxPat, State.pat, State.map]

end

end State.Rooted

/-! ### The state in which a good marker is accepted -/

/-- What the part is when a good marker of lane `l` is accepted, after the marker error or the entry to ALIGNED that it makes. -/
structure State.Awaits (l : LaneNo) (s v : State) : Prop where
  around : s.Around l v
  map : v.laneMap = s.laneMap
  hold : (v.lane l).hold = (s.lane l).hold
  off : (v.lane l).ck.state = .off ↔ (s.lane l).ck.state = .off
  calm : (s.lane l).ck.run = [] → (v.lane l).ck.run = [] ∧ (v.lane l).armed = (s.lane l).armed ∧
    (v.lane l).holdReq = (s.lane l).holdReq ∧ (v.lane l).run.tag = (s.lane l).run.tag ∧
    (v.lane l).run.errTag = (s.lane l).run.errTag ∧ (v.lane l).win.tag = (s.lane l).win.tag
  unjudged : s.judges l (s.lane l) = false → (v.lane l).armed = (s.lane l).armed

/-- R12: the state in which a good marker of an ALIGNED lane is accepted. -/
def State.beforeGood (s : State) (l : LaneNo) (m : Marker) : State :=
  if (m.seq != (s.lane l).al.seq + 1) = true then
    ((s.modAl l fun a => { a with pos := 0, miss := 0, seq := m.seq }).markerError l).markerErrorEntry l m.seq
  else s.modAl l fun a => { a with pos := 0, miss := 0, seq := m.seq }

theorem State.goodAligned_eq : s.goodAligned l m = (s.beforeGood l m).acceptMarker l m := rfl

theorem State.beforeGood_as (s : State) (l : LaneNo) (m : Marker) : ∃ X, s.As l (s.beforeGood l m) X ∧
    s.Passes l { s.lane l with al := { (s.lane l).al with
      pos := 0, miss := 0, seq := m.seq
      errs := if m.seq = (s.lane l).al.seq + 1 then (s.lane l).al.errs else (s.lane l).al.errs.add 1 } } X := by
  have hal := (State.As.refl (s := s) (l := l)).modAl fun a => { a with pos := 0, miss := 0, seq := m.seq }
  unfold State.beforeGood
  by_cases hq : m.seq = (s.lane l).al.seq + 1
  · rw [if_neg (by simpa using hq), if_pos hq]
    exact ⟨_, hal, .refl⟩
  · rw [if_pos (by simpa using hq), if_neg hq]
    obtain ⟨X, hX, hp⟩ := hal.markerError.markerErrorEntry m.seq
    exact ⟨X, hX, State.Passes.marred.trans hp⟩

theorem State.beforeGood_awaits (s : State) (l : LaneNo) (m : Marker) : State.Awaits l s (s.beforeGood l m) := by
  obtain ⟨X, hX, hp⟩ := s.beforeGood_as l m
  have hck : X.ck.state = (s.lane l).ck.state := (Lane.ckState_of_bare hp.bare :)
  refine ⟨ite_keeps_of (P := fun t => s.Around l t) (fun h => h.trans (State.Around.markerError.trans (.markerErrorEntry _)))
    (.modAl _), hX.laneMap, hX.hold.trans (Lane.hold_of_bare hp.bare :), ?_, ?_, fun hj => hX.armed.trans (hp.unjudged hj)⟩
  · rw [hX.ck, hck]
  · rw [hX.ck, hX.armed, hX.holdReq, hX.run, hX.win]
    exact hp.calm

/-- R11: the state in which the marker that completes a TRIAL is accepted. -/
def State.beforeTrial (s : State) (l : LaneNo) (m : Marker) : State :=
  ((s.modAl l fun a => { a with state := .aligned, pos := 0, trial := 0, miss := 0, seq := m.seq }).linkAligned l).noteAligned l

theorem State.completeTrial_eq : s.completeTrial l m = (s.beforeTrial l m).acceptMarker l m := rfl

theorem State.As.noteAligned (h : s.As l t X) (hX : X.al.state = (s.lane l).al.state) : s.As l (t.noteAligned l)
    (if s.countsAt l X.hold = true ∧ X.ck.state = .hunt then X.hunting (s.huntReason l) else X) := by
  unfold State.noteAligned
  rw [h.counts, h.ck]
  by_cases hc : s.countsAt l X.hold = true ∧ X.ck.state = .hunt
  · rw [if_pos (by simpa using hc), if_pos hc]
    exact h.enterHunt hX
  · rw [if_neg (by simpa using hc), if_neg hc]
    exact h

theorem State.beforeTrial_as (s : State) (l : LaneNo) (m : Marker) :
    ∃ w : State, w.As l (s.beforeTrial l m) (if s.countsAt l (s.lane l).hold = true ∧ (s.lane l).ck.state = .hunt then
        Lane.hunting (w.huntReason l) { s.lane l with al := { (s.lane l).al with
          state := .aligned, pos := 0, trial := 0, miss := 0, seq := m.seq } }
        else { s.lane l with al := { (s.lane l).al with state := .aligned, pos := 0, trial := 0, miss := 0, seq := m.seq } }) ∧
      (w.lane l).al.state = .aligned ∧ w.laneMap = s.laneMap ∧ s.Rooted w := by
  have hal := (State.As.refl (s := s) (l := l)).modAl fun a => { a with state := .aligned, pos := 0, trial := 0, miss := 0, seq := m.seq }
  have hch := State.Channels.linkAligned (s := s.modAl l fun a => { a with state := .aligned, pos := 0, trial := 0, miss := 0, seq := m.seq }) l
  unfold State.beforeTrial
  generalize (s.modAl l fun a => { a with state := .aligned, pos := 0, trial := 0, miss := 0, seq := m.seq }).linkAligned l = w at hch ⊢
  have hroot : s.Rooted w := State.Rooted.trans (t := s.modAl l fun a => { a with
    state := .aligned, pos := 0, trial := 0, miss := 0, seq := m.seq }) (.of_fixed rfl) (.of_channels hch)
  have hbase : w.As l w { s.lane l with al := { (s.lane l).al with state := .aligned, pos := 0, trial := 0, miss := 0, seq := m.seq } } :=
    ⟨rfl, (congrArg Lane.still (hch.lane l)).trans hal.stands⟩
  have hnote := hbase.noteAligned (congrArg Aligner.state hbase.al.symm)
  rw [hroot.countsAt] at hnote
  exact ⟨w, hnote, congrArg Aligner.state hbase.al, hch.laneMap, hroot⟩

theorem State.beforeTrial_awaits (s : State) (l : LaneNo) (m : Marker) : State.Awaits l s (s.beforeTrial l m) := by
  obtain ⟨w, hX, -, hmap, -⟩ := s.beforeTrial_as l m
  refine ⟨(State.Around.modAl _).trans ((State.Around.of_channels (.linkAligned l)).trans .noteAligned), hX.laneMap.trans hmap, ?_, ?_, ?_,
    fun _ => hX.armed.trans ?_⟩
  · rw [hX.hold]
    split <;> rfl
  · rw [hX.ck]
    split
    · next hc =>
      rw [hc.2]
      exact ⟨fun h => (nomatch (h : CkState.hunt = .off)), fun h => (nomatch h)⟩
    · exact Iff.rfl
  · rw [hX.ck, hX.armed, hX.holdReq, hX.run, hX.win]
    intro hr
    split <;> exact ⟨hr, rfl, rfl, rfl, rfl, rfl⟩
  · split <;> rfl

/-! ### From there to the end of the step -/

/-- A good marker taken: what its lane holds at the end of the step. -/
theorem State.Awaits.lane (h : State.Awaits l s v) (hf : s.rxFramed l = true) (m : Marker) :
    ((v.acceptMarker l m).settleHolds.lane l).al = { (v.lane l).al with far := .known m.lock m.alarm } ∧
    ((s.lane l).ck.run = [] →
      ((v.acceptMarker l m).settleHolds.lane l).run.tag = (s.lane l).run.tag + 1 ∧
      ((v.acceptMarker l m).settleHolds.lane l).run.errTag = (s.lane l).run.errTag ∧
      ((v.acceptMarker l m).settleHolds.lane l).win.tag = (s.lane l).win.tag + 1 ∧
      ((v.acceptMarker l m).settleHolds.lane l).armed =
        ((s.lane l).armed && !(s.judges l (s.lane l) && (s.desc l).trigger == .frameSeq m.seq.toNat))) ∧
    (s.judges l (s.lane l) = false → ((v.acceptMarker l m).settleHolds.lane l).armed = (s.lane l).armed) := by
  have hroot : s.Rooted v := h.around.rooted
  have hid := (State.identified ((hroot.rxFramed l).trans hf) m).1
  obtain ⟨hold, n, hend, -⟩ := v.accepted_lane l m
  have hrootu : v.Rooted ((v.frameBoundary l m.seq).identity l m.id m.seq) :=
    ((State.Around.frameBoundary (l := l) m.seq).trans (.identity m.id m.seq)).rooted
  generalize (v.frameBoundary l m.seq).identity l m.id m.seq = u at hid hend hrootu
  generalize (v.acceptMarker l m).settleHolds = t at hend
  have hjudge : (u.lane l).armed = (s.lane l).armed → u.judges l (u.lane l) = s.judges l (s.lane l) := by
    intro ha
    have hoff : ((u.lane l).ck.state == .off) = ((s.lane l).ck.state == .off) := by
      rw [Bool.eq_iff_iff, beq_iff_eq, beq_iff_eq, hid.off, h.off]
    rw [hrootu.judges, hroot.judges, State.judges, ha, hoff, hid.hold, h.hold, State.judges]
  have hdesc : u.desc l = s.desc l := (hrootu.desc l).trans (hroot.desc l)
  have harmed : (t.lane l).armed = ((u.lane l).armed && !(u.judges l (u.lane l) && (u.desc l).trigger == .frameSeq m.seq.toNat)) :=
    (congrArg Lane.armed hend :).trans (State.markedLane_armed ..)
  have hcounts := State.markedLane_counts u l m (u.lane l)
  have hrun : (t.lane l).run = (u.lane l).run := (congrArg Lane.run hend :).trans hcounts.1
  have hwin : (t.lane l).win = (u.lane l).win := (congrArg Lane.win hend :).trans hcounts.2
  refine ⟨?_, fun hr => ?_, fun hj => ?_⟩
  · refine (congrArg Lane.al hend :).trans ?_
    exact (State.markedLane_al ..).trans (congrArg (fun x : Aligner => { x with far := .known m.lock m.alarm }) hid.al)
  · obtain ⟨hr', ha', -, ht', he', hw'⟩ := h.calm hr
    obtain ⟨-, ha, -, ht, he, hw⟩ := hid.calm hr'
    rw [hrun, hwin, ht, ht', he, he', hw, hw', harmed, hjudge (ha.trans ha'), hdesc, ha, ha']
    exact ⟨rfl, rfl, rfl, rfl⟩
  · have ha' := h.unjudged hj
    have hjv : v.judges l (v.lane l) = false := by
      have hoff : ((v.lane l).ck.state == .off) = ((s.lane l).ck.state == .off) := by
        rw [Bool.eq_iff_iff, beq_iff_eq, beq_iff_eq, h.off]
      rw [hroot.judges, State.judges, ha', hoff, h.hold]
      exact hj
    have ha := (hid.unjudged hjv).trans ha'
    rw [harmed, hjudge ha, hj, ha, Bool.false_and, Bool.not_false, Bool.and_true]

/-! ### A bad marker -/

/-- R13: a bad marker that is not the fourth in a row, to the end of its step. -/
theorem State.bad_lane (hf : s.rxFramed l = true) (hmiss : (s.lane l).al.miss < 3) : ∃ X, s.Passes l (Lane.reframed { s.lane l with
      al := { (s.lane l).al with
        pos := 0, miss := (s.lane l).al.miss + 1, seq := (s.lane l).al.seq + 1, errs := (s.lane l).al.errs.add 1 } }) X ∧
    ∃ hold n, ((s.badAligned l).settleHolds.lane l).still = (Lane.settled { X with hold := hold, stepCount := n }).still := by
  have herr := (State.As.refl (s := s) (l := l)).markerError
  have hal := herr.modAl fun a => { a with pos := 0, miss := (s.lane l).al.miss + 1, seq := (s.lane l).al.seq + 1 }
  have hp0 : s.Passes l { s.lane l with al := { (s.lane l).al with
        pos := 0, miss := (s.lane l).al.miss + 1, seq := (s.lane l).al.seq + 1, errs := (s.lane l).al.errs.add 1 } }
      { s.marredLane l (s.lane l) with al := { (s.marredLane l (s.lane l)).al with
        pos := 0, miss := (s.lane l).al.miss + 1, seq := (s.lane l).al.seq + 1 } } := by
    unfold State.marredLane
    dsimp only
    split
    · exact State.Passes.report (X := { s.lane l with al := _ }) Counts.addMarkerError
    · exact .refl
  obtain ⟨X, hX, hp⟩ := hal.markerErrorEntry ((s.lane l).al.seq + 1)
  obtain ⟨Y, hY, hq⟩ := hX.frameBoundary hf ((s.lane l).al.seq + 1)
  obtain ⟨hold, n, hend, -⟩ := hY.endStep (some ((s.lane l).al.seq + 1))
  have hframes : ∀ {X Y : Lane}, s.Passes l X Y → s.Passes l X.reframed Y.reframed := fun {X Y} h => by
    refine ⟨h.bare, fun hr => ?_, h.unjudged⟩
    obtain ⟨h1, h2, h3, h4, h5, h6⟩ := h.calm hr
    exact ⟨h1, h2, h3, congrArg (· + 1) h4, h5, congrArg (· + 1) h6⟩
  refine ⟨Y, (hframes (hp0.trans hp)).trans hq, hold, n, ?_⟩
  have heq : s.badAligned l = ((((s.markerError l).modAl l fun a => { a with
      pos := 0, miss := (s.lane l).al.miss + 1, seq := (s.lane l).al.seq + 1 }).markerErrorEntry l ((s.lane l).al.seq + 1)).frameBoundary l
      ((s.lane l).al.seq + 1)).endStep l (some ((s.lane l).al.seq + 1)) := if_pos hmiss
  rw [heq]
  exact hend.settleHolds.stands

end Sys2Proof.Machine
end

section
/-! The received block by its aligner, and the locked checker's obligation. -/

namespace Sys2Proof.Machine

variable {s t u v : State} {l k : LaneNo} {X Y Z : Lane} {a : Aligner} {b : Block} {fp : Option (FrameSeq × Nat)} {q : FrameSeq}
  {m : Marker}

/-! ### The arrivals of a marker -/

theorem State.receive_good (hf : s.rxFramed l = true) (hst : (s.lane l).al.state = .aligned) (hp : 127 ≤ (s.lane l).al.pos)
    (hg : goodMarker b = true) : s.receive l b = (s.beforeGood l (readMarker b)).acceptMarker l (readMarker b) := by
  unfold State.receive State.alignBlock
  dsimp only
  rw [if_pos hf, hst]
  dsimp only
  rw [if_neg (by omega), if_pos hg, State.goodAligned_eq]

theorem State.receive_bad (hf : s.rxFramed l = true) (hst : (s.lane l).al.state = .aligned) (hp : 127 ≤ (s.lane l).al.pos)
    (hg : goodMarker b = false) : s.receive l b = s.badAligned l := by
  unfold State.receive State.alignBlock
  dsimp only
  rw [if_pos hf, hst]
  dsimp only
  rw [if_neg (by omega), hg, if_neg Bool.false_ne_true]

theorem State.receive_trial (hf : s.rxFramed l = true) (hst : (s.lane l).al.state = .trial) (hp : 127 ≤ (s.lane l).al.pos)
    (hg : goodMarker b = true) (ht : 2 ≤ (s.lane l).al.trial) :
    s.receive l b = (s.beforeTrial l (readMarker b)).acceptMarker l (readMarker b) := by
  unfold State.receive State.alignBlock
  dsimp only
  rw [if_pos hf, hst]
  dsimp only
  rw [if_neg (by omega), if_pos hg, if_neg (by omega), State.completeTrial_eq]

/-- A good marker that the lane takes: where it is accepted. -/
theorem State.receive_taken (h : s.takesMarker l b = true) : s.rxFramed l = true ∧ ∃ v, State.Awaits l s v ∧
    s.receive l b = v.acceptMarker l (readMarker b) := by
  unfold State.takesMarker at h
  simp only [Bool.and_eq_true, decide_eq_true_eq] at h
  obtain ⟨⟨⟨hf, hg⟩, hp⟩, hal⟩ := h
  refine ⟨hf, ?_⟩
  cases hst : (s.lane l).al.state with
  | seek =>
    rw [hst] at hal
    exact Bool.noConfusion hal
  | trial =>
    rw [hst] at hal
    exact ⟨_, s.beforeTrial_awaits l (readMarker b), State.receive_trial hf hst hp hg (of_decide_eq_true hal)⟩
  | aligned => exact ⟨_, s.beforeGood_awaits l (readMarker b), State.receive_good hf hst hp hg⟩

/-- The fourth bad marker in a row. -/
theorem State.receive_lost (h : s.losesMarkers l b = true) : s.rxFramed l = true ∧ (s.lane l).al.state = .aligned ∧
    s.receive l b = (s.markerError l).markerLoss l ((s.lane l).al.seq + 1) := by
  unfold State.losesMarkers at h
  simp only [Bool.and_eq_true, decide_eq_true_eq, Bool.not_eq_true'] at h
  obtain ⟨⟨⟨⟨hf, ha⟩, hp⟩, hg⟩, hm⟩ := h
  have hst := State.aligned_iff.mp ha
  exact ⟨hf, hst, (State.receive_bad hf hst hp hg).trans (if_neg (by omega))⟩

/-! ### The locked checker -/

/-- Settles O23: the expected block, a light block with the run that it releases, a heavy one, and the frames of the counts. -/
theorem lockedBlocksJudged : Obligations.LockedBlocksJudged := by
  refine ⟨State.expected_facts, fun s l b h hst hc hrun hlight => ?_, fun s l b hf h hst hc hheavy => ?_, fun r w c => ?_,
    fun s l b h hst hc hlight => ?_, fun s l b h hst hc hheavy hwin => ?_, fun s l b hf hst hp hgood hrun => ?_⟩
  · obtain ⟨t, fp, he, hfp, hnone, hsince, hstate, hempty, hr, -, -⟩ := State.exec_light h hst hc hlight
    obtain ⟨herr, -, -, -, htag, -⟩ := s.checked_facts l b hfp hnone
    have hcounts : (t.lane l).run.counts = ((s.lane l).run.count (s.checked l b fp (s.lane l))).counts := by
      rw [hr, hrun]
      split
      · rfl
      · unfold RunTotals.rawAdvance
        split <;> rfl
    refine ⟨t, he, hstate, hempty, hsince, decide ((s.checked l b fp (s.lane l)).errs ≠ 0) &&
      decide ((s.lane l).run.errTag ≠ some (s.checked l b fp (s.lane l)).runTag), ?_, fun hn => ?_⟩
    · rw [hcounts, ← herr]
      rfl
    · rw [← herr]
      exact of_decide_eq_true ((Bool.and_eq_true ..).mp hn).1
  · obtain ⟨t, fp, he, hfp, hnone, -, hshort, hfull⟩ := State.exec_heavy h hst hc hheavy (.inl hf)
    refine ⟨t, he, fun hlt => ?_, fun hle => ?_⟩
    · obtain ⟨hstate, hr, -, htot, hw, -⟩ := hshort hlt
      exact ⟨hstate, htot hf, hw, _, hr, (s.checked_facts l b hfp hnone).1⟩
    · obtain ⟨hstate, hr, hloss, htot, -⟩ := hfull hle
      exact ⟨hstate, hr, hloss, htot⟩
  · refine ⟨?_, rfl, fun ho => ?_, fun ho => ?_⟩
    · unfold RunTotals.count
      rw [Bool.decide_and]
    · unfold Win.count
      rw [ho, if_neg Bool.false_ne_true]
    · unfold Win.count
      rw [ho, if_pos rfl, Bool.decide_and]
  · obtain ⟨t, fp, he, hfp, hnone, hsince, hstate, hempty, hr, hw, hcap⟩ := State.exec_light h hst hc hlight
    obtain ⟨herr, htick, hwants, hwt, hrt, hseq, hno⟩ := s.checked_facts l b hfp hnone
    have hraw : ∀ r : RunTotals, r.rawAdvance.counts = r.counts ∧ r.rawAdvance.errTag = r.errTag := fun r => by
      unfold RunTotals.rawAdvance
      split <;> exact ⟨rfl, rfl⟩
    refine ⟨t, s.checked l b fp (s.lane l), he, herr, htick, hwants, hwt, hrt, hseq, hno, hsince, hstate, hempty, ?_, ?_, fun hf => ?_,
      fun hf => ⟨fun hlt => ?_, fun hle => ?_⟩, hcap⟩
    · rw [hr]
      split
      · rfl
      · exact (hraw _).1
    · rw [hr]
      split
      · rfl
      · exact (hraw _).2
    · exact ⟨(congrArg Win.counts (hw hf) :), (congrArg Win.errTag (hw hf) :)⟩
    · obtain ⟨hps, htg⟩ := RunTotals.counts_pseudo (heavyBlocks (s.lane l).ck.run ++ [s.checked l b fp (s.lane l)]) (s.lane l).run
      rw [hr, hf, if_neg Bool.false_ne_true, RunTotals.rawAdvance, hps, if_pos (by omega)]
      exact ⟨rfl, htg⟩
    · obtain ⟨hps, htg⟩ := RunTotals.counts_pseudo (heavyBlocks (s.lane l).ck.run ++ [s.checked l b fp (s.lane l)]) (s.lane l).run
      rw [hr, hf, if_neg Bool.false_ne_true, RunTotals.rawAdvance, hps, if_neg (by omega)]
      exact ⟨rfl, congrArg (· + 1) htg⟩
  · obtain ⟨t, fp, he, hfp, hnone, hsince, hshort, hfull⟩ := State.exec_heavy h hst hc hheavy hwin
    obtain ⟨herr, htick, hwants, hwt, hrt, hseq, hno⟩ := s.checked_facts l b hfp hnone
    refine ⟨t, s.checked l b fp (s.lane l), he, herr, htick, hwants, hwt, hrt, hseq, hno, hsince, fun hlt => ?_, fun hle => ?_⟩
    · obtain ⟨hstate, hr, htot, -, hw, -, hcap, -, -⟩ := hshort hlt
      exact ⟨hstate, hr, htot, hw, hcap⟩
    · obtain ⟨hstate, hr, hloss, htot, hw, hcap, hsent, -⟩ := hfull hle
      exact ⟨hstate, hr, hloss, htot, hw, hcap, hsent⟩
  · cases hg : goodMarker b with
    | true =>
      obtain ⟨-, hcalm, -⟩ := (s.beforeGood_awaits l (readMarker b)).lane hf (readMarker b)
      obtain ⟨htag, herr, hw, -⟩ := hcalm hrun
      refine ⟨_, exec_receiveBlock, ?_⟩
      rw [State.receive_good hf hst hp hg]
      exact ⟨htag, herr, hw⟩
    | false =>
      obtain ⟨X, hX, hold, n, hend⟩ := State.bad_lane hf (hgood.resolve_left fun h => Bool.noConfusion (hg.symm.trans h))
      obtain ⟨-, -, -, htag, herr, hw⟩ := hX.calm hrun
      refine ⟨_, exec_receiveBlock, ?_⟩
      rw [State.receive_bad hf hst hp hg]
      exact ⟨(congrArg (fun L : Lane => L.run.tag) hend).trans htag, (congrArg (fun L : Lane => L.run.errTag) hend).trans herr,
        (congrArg (fun L : Lane => L.win.tag) hend).trans hw⟩

end Sys2Proof.Machine
end

section
/-! Triggers: a firing, the blocks that fire one, and the fourth bad marker. -/

namespace Sys2Proof.Machine

variable {s t u v : State} {l k : LaneNo} {X Y Z : Lane} {a : Aligner} {b : Block} {fp : Option (FrameSeq × Nat)} {q : FrameSeq}
  {m : Marker}

/-! ### A firing -/

theorem Lane.given_facts (c : CapEntry) (X : Lane) : (X.given c).armed = X.armed ∧ (X.given c).holdReq = X.holdReq ∧
    (X.given c).hold = X.hold := by
  unfold Lane.given
  split <;> exact ⟨rfl, rfl, rfl⟩

/-- R136, in its parts. -/
theorem State.fireTrigger_facts (s : State) (l : LaneNo) (q : Option FrameSeq) (p : Nat) (x : Tick) :
    ((s.fireTrigger l q p x).lane l).armed = false ∧
     (((s.fireTrigger l q p x).settleHolds).lane l).hold =
       (if (s.lane l).hold = .run ∧ ((s.lane l).holdReq = true ∨ (s.desc l).action = .hold) then .held
         else (s.lane l).hold) ∧
     ((s.lane l).ck.run = [] → s.capture.length < 256 →
       (s.fireTrigger l q p x).capture = s.capture ++ [⟨l, .trigger, q, p, none, x⟩]) ∧
     ((s.lane l).ck.run ≠ [] → (s.fireTrigger l q p x).capture = s.capture ∧
       ((s.fireTrigger l q p x).lane l).ck.run = (s.lane l).ck.run ++ [.entry ⟨l, .trigger, q, p, none, x⟩]) ∧
     (s.egress.length ≤ 11 → (s.fireTrigger l q p x).egress =
       s.egress ++ [noticeRec (.trigger l (s.desc l).trigger (s.desc l).action q p x)]) := by
  have hX := (State.As.refl (s := s) (l := l)).fireTrigger q p x
  have hset := hX.settleHolds
  obtain ⟨harm, hreq, hhold⟩ := Lane.given_facts ⟨l, .trigger, q, p, none, x⟩
    { s.lane l with armed := false, holdReq := (s.lane l).holdReq || (s.desc l).action == .hold }
  have hrun : ((s.modLane l fun L => { L with armed := false, holdReq := L.holdReq || (s.desc l).action == .hold }).lane l).ck.run =
      (s.lane l).ck.run := by
    rw [State.lane_modLane, if_pos rfl]
  refine ⟨hX.armed.trans harm, ?_, fun hr hroom => ?_, fun hr => ⟨?_, ?_⟩, fun h => State.egress_fireTrigger h q p x⟩
  · rw [hset.hold, Lane.settled, hreq, hhold]
    refine if_congr ?_ rfl rfl
    rw [Bool.or_eq_true, beq_iff_eq, and_comm]
  · unfold State.fireTrigger State.giveEntry
    dsimp only
    rw [State.capture_notify, hrun, hr, if_pos List.isEmpty_nil]
    exact State.capture_placeCapture (s := s.modLane l fun L =>
      { L with armed := false, holdReq := L.holdReq || (s.desc l).action == .hold }) hroom _
  · unfold State.fireTrigger State.giveEntry
    dsimp only
    rw [State.capture_notify, hrun, if_neg (by simpa [List.isEmpty_iff] using hr)]
    rfl
  · rw [hX.ck, Lane.given, if_neg (by exact hr)]

/-! ### Blocks that fire a trigger -/

/-- R136: the blocks that fire the trigger of a lane whose first-error flag stands so. -/
def State.firesAt (s : State) (l : LaneNo) (first : Bool) (e : Nat) : Prop :=
  ((s.desc l).trigger = .firstError ∧ first = false ∧ e ≠ 0) ∨ ∃ n, (s.desc l).trigger = .blockAtLeast n ∧ n ≤ e

theorem State.blockFires_iff (first : Bool) (e : Nat) : blockFires (s.desc l).trigger first e = true ↔ s.firesAt l first e := by
  unfold blockFires State.firesAt
  cases (s.desc l).trigger with
  | firstError => simp [and_comm]
  | blockAtLeast n => simp
  | none => simp
  | frameSeq q => simp
  | syncLoss => simp

theorem State.countedLanes_firstErr (cs : List Checked) : ∀ X : Lane,
    ((cs.foldl (fun L c => s.countedLane l c L) X).firstErr = true ↔ X.firstErr = true ∨ ∃ c ∈ cs, c.errs ≠ 0) := by
  induction cs with
  | nil => exact fun X => by simp
  | cons c cs ih =>
    intro X
    have hfirst : (s.countedLane l c X).firstErr = (X.firstErr || decide (c.errs ≠ 0)) := rfl
    rw [List.foldl_cons, ih, hfirst, Bool.or_eq_true, decide_eq_true_eq, List.exists_mem_cons_iff, or_assoc]

/-- The trigger of a judged lane after several counted blocks. -/
theorem State.countedLanes_fires (cs : List Checked) : ∀ {X : Lane}, s.judges l X = true →
    ((cs.foldl (fun L c => s.countedLane l c L) X).armed = false ↔ ∃ c ∈ cs, s.firesAt l X.firstErr c.errs) := by
  induction cs with
  | nil =>
    intro X h
    have harm : X.armed = true := ((Bool.and_eq_true ..).mp ((Bool.and_eq_true ..).mp h).1).1
    simp [harm]
  | cons c cs ih =>
    intro X h
    have harm : X.armed = true := ((Bool.and_eq_true ..).mp ((Bool.and_eq_true ..).mp h).1).1
    have hstep : (s.countedLane l c X).armed = !blockFires (s.desc l).trigger X.firstErr c.errs := by
      change (X.armed && !(s.judges l X && _)) = _
      rw [harm, h, Bool.true_and, Bool.true_and]
    rw [List.foldl_cons, List.exists_mem_cons_iff]
    by_cases hf : s.firesAt l X.firstErr c.errs
    · have hout : (s.countedLane l c X).armed = false := by rw [hstep, (State.blockFires_iff ..).mpr hf]; rfl
      exact ⟨fun _ => .inl hf, fun _ => State.countedLanes_armed cs hout⟩
    · have hin : (s.countedLane l c X).armed = true := by
        rw [hstep, Bool.eq_false_iff.mpr (fun h => hf ((State.blockFires_iff ..).mp h))]
        rfl
      have hj : s.judges l (s.countedLane l c X) = true := by
        rw [State.judges, hin]
        rwa [State.judges, harm] at h
      rw [ih hj]
      refine ⟨fun ⟨d, hd, hfd⟩ => .inr ⟨d, hd, ?_⟩, fun h => ?_⟩
      · refine hfd.imp_left fun ⟨h1, h2, h3⟩ => ⟨h1, ?_, h3⟩
        exact (Bool.or_eq_false_iff.mp h2).1
      · obtain ⟨d, hd, hfd⟩ := h.resolve_left hf
        refine ⟨d, hd, hfd.imp_left fun ⟨h1, h2, h3⟩ => ⟨h1, ?_, h3⟩⟩
        have hz : c.errs = 0 := Decidable.byContradiction fun hne => hf (.inl ⟨h1, h2, hne⟩)
        exact Bool.or_eq_false_iff.mpr ⟨h2, decide_eq_false fun hne => hne hz⟩

/-- The hold request of a lane after several counted blocks (R136 step 4). -/
theorem State.countedLanes_holdReq (cs : List Checked) : ∀ X : Lane,
    (cs.foldl (fun L c => s.countedLane l c L) X).holdReq =
      (X.holdReq || (X.armed && !(cs.foldl (fun L c => s.countedLane l c L) X).armed && (s.desc l).action == .hold)) := by
  induction cs with
  | nil =>
    intro X
    change X.holdReq = (X.holdReq || (X.armed && !X.armed && _))
    rw [Bool.and_not_self, Bool.false_and, Bool.or_false]
  | cons c cs ih =>
    intro X
    have hreq : (s.countedLane l c X).holdReq =
        (X.holdReq || (X.armed && !(s.countedLane l c X).armed && (s.desc l).action == .hold)) := by
      change (X.holdReq || (s.judges l X && _ && _)) = (X.holdReq || (X.armed && !(X.armed && !(s.judges l X && _)) && _))
      have hj : s.judges l X = true → X.armed = true := fun h => ((Bool.and_eq_true ..).mp ((Bool.and_eq_true ..).mp h).1).1
      cases hjx : s.judges l X with
      | true =>
        rw [hj hjx]
        simp
      | false => cases X.armed <;> simp
    rw [List.foldl_cons, ih, hreq]
    cases ha : (s.countedLane l c X).armed with
    | true =>
      have hX : X.armed = true := by
        have : (X.armed && _) = true := ha
        exact ((Bool.and_eq_true ..).mp this).1
      rw [hX]
      simp
    | false =>
      rw [State.countedLanes_armed cs ha]
      simp

/-- A counted block that fires a trigger leaves its entry and its notice (R136). -/
theorem State.As.countBlock_fired (h : s.As l t X) (hr : X.ck.run = []) (hj : s.judges l X = true) (c : Checked)
    (hf : s.firesAt l X.firstErr c.errs) (hcap : t.capture.length ≤ 254) (heg : t.egress.length ≤ 11) :
    noticeRec (.trigger l (s.desc l).trigger (s.desc l).action c.seq c.pos c.tick) ∈ (t.countBlock l c).egress ∧
    (⟨l, .trigger, c.seq, c.pos, none, c.tick⟩ : CapEntry) ∈ (t.countBlock l c).capture := by
  have hcount := (h.modLane (f := fun L => { L with win := L.win.count c, run := L.run.count c })).groupCount l c
  have hbase : ((t.modLane l fun L => { L with win := L.win.count c, run := L.run.count c }).groupCount l c).capture = t.capture :=
    State.capture_groupCount c
  have hsent : ((t.modLane l fun L => { L with win := L.win.count c, run := L.run.count c }).groupCount l c).egress = t.egress := by
    unfold State.groupCount
    split
    · split <;> rfl
    · rfl
  unfold State.countBlock
  dsimp only
  generalize ht : (t.modLane l fun L => { L with win := L.win.count c, run := L.run.count c }).groupCount l c = t1 at hcount hbase hsent
  have hgiven : s.As l (if (c.errs ≠ 0 && c.wants) = true then t1.giveEntry l ⟨l, .bitErrors, c.seq, c.pos, some c.errs, c.tick⟩ else t1)
      { X with win := X.win.count c, run := X.run.count c } := by
    refine ite_keeps_of (P := fun v => s.As l v _) (fun h => ?_) hcount
    have := h.giveEntry ⟨l, .bitErrors, c.seq, c.pos, some c.errs, c.tick⟩
    rwa [Lane.given, if_pos (by exact hr)] at this
  have hcap1 : (if (c.errs ≠ 0 && c.wants) = true then t1.giveEntry l ⟨l, .bitErrors, c.seq, c.pos, some c.errs, c.tick⟩
      else t1).capture.length ≤ 255 := by
    split
    · have hgive : t1.giveEntry l ⟨l, .bitErrors, c.seq, c.pos, some c.errs, c.tick⟩ =
          t1.placeCapture ⟨l, .bitErrors, c.seq, c.pos, some c.errs, c.tick⟩ := by
        unfold State.giveEntry
        rw [hcount.ck, if_pos (by rw [hr]; rfl)]
      rw [hgive, State.capture_placeCapture (by rw [hbase]; omega), List.length_append, hbase]
      exact Nat.succ_le_succ hcap
    · rw [hbase]
      omega
  have heg1 : (if (c.errs ≠ 0 && c.wants) = true then t1.giveEntry l ⟨l, .bitErrors, c.seq, c.pos, some c.errs, c.tick⟩
      else t1).egress = t.egress := by
    split
    · rw [State.egress_giveEntry, hsent]
    · exact hsent
  generalize (if (c.errs ≠ 0 && c.wants) = true then t1.giveEntry l ⟨l, .bitErrors, c.seq, c.pos, some c.errs, c.tick⟩ else t1) = t2
    at hgiven hcap1 heg1 ⊢
  have hjudge : s.judges l { X with win := X.win.count c, run := X.run.count c } = true := hj
  rw [hgiven.trigJudged, hjudge, hgiven.desc, hgiven.firstErr,
    if_pos (show (true && blockFires (s.desc l).trigger X.firstErr c.errs) = true from (State.blockFires_iff ..).mpr hf)]
  have hset := hgiven.modLane (f := fun L => { L with firstErr := L.firstErr || decide (c.errs ≠ 0) })
  have hfire := State.fireTrigger_facts (t2.modLane l fun L => { L with firstErr := L.firstErr || decide (c.errs ≠ 0) }) l c.seq c.pos c.tick
  obtain ⟨-, -, hplace, -, hnote⟩ := hfire
  rw [hset.desc] at hnote
  refine ⟨?_, ?_⟩
  · rw [hnote (by rw [State.modLane_egress, heg1]; exact heg)]
    exact List.mem_append_right _ (List.mem_singleton.mpr rfl)
  · rw [hplace (by rw [hset.ck]; exact hr) (by rw [State.modLane_capture]; omega)]
    exact List.mem_append_right _ (List.mem_singleton.mpr rfl)

end Sys2Proof.Machine
end

section
/-! The fourth bad marker in a row: what it makes of its lane, what it captures, what it sends. -/

namespace Sys2Proof.Machine

variable {s t u v : State} {l k : LaneNo} {X Y Z : Lane} {b : Block} {q last : FrameSeq}

/-! ### The steps of a marker loss -/

/-- R48: what the checker makes of a marker loss, its aligner in SEEK. -/
def State.lossChecked (t : State) (l : LaneNo) (q last : FrameSeq) : State :=
  if !t.counting l then t
  else match (t.lane l).ck.state with
    | .locked => ((t.discardRun l true true).markerErrorEntry l q).countLoss l .marker (some last) 0
    | .hunt => (t.markerErrorEntry l q).enterHunt l
    | .confirm => (t.markerErrorEntry l q).enterHunt l
    | _ => t.markerErrorEntry l q

/-- A marker loss up to the checker's part. -/
def State.lossStart (s : State) (l : LaneNo) : State :=
  (s.markerError l).modAl l fun a => { a with state := .seek, pos := 0, trial := 0, miss := 0 }

theorem State.markerLoss_eq : (s.markerError l).markerLoss l q =
    (((s.lossStart l).lossChecked l q ((s.markerError l).lane l).al.seq).linkLeft l).groupLeft l := rfl

/-- The lane when its checker learns of the loss. -/
def State.lossLane (s : State) (l : LaneNo) : Lane :=
  { s.marredLane l (s.lane l) with al := { (s.lane l).al with
    state := .seek, pos := 0, trial := 0, miss := 0, errs := (s.lane l).al.errs.add 1 } }

theorem State.lossStart_as (s : State) (l : LaneNo) : s.As l (s.lossStart l) (s.lossLane l) :=
  (State.As.refl (s := s) (l := l)).markerError.modAl fun a => { a with state := .seek, pos := 0, trial := 0, miss := 0 }

theorem State.lossLane_rest (s : State) (l : LaneNo) : s.lossLane l = { s.lane l with
    al := (s.lossLane l).al, win := (s.lossLane l).win, run := (s.lossLane l).run } := by
  unfold State.lossLane State.marredLane
  dsimp only
  split <;> rfl

theorem State.lossLane_ck (s : State) (l : LaneNo) : (s.lossLane l).ck = (s.lane l).ck := (congrArg Lane.ck (s.lossLane_rest l) :)
theorem State.lossLane_armed (s : State) (l : LaneNo) : (s.lossLane l).armed = (s.lane l).armed :=
  (congrArg Lane.armed (s.lossLane_rest l) :)
theorem State.lossLane_hold (s : State) (l : LaneNo) : (s.lossLane l).hold = (s.lane l).hold :=
  (congrArg Lane.hold (s.lossLane_rest l) :)

theorem State.lossChecked_locked (hc : s.counting l = true) (hst : (s.lane l).ck.state = .locked) (q last : FrameSeq) :
    (s.lossStart l).lossChecked l q last =
      (((s.lossStart l).discardRun l true true).markerErrorEntry l q).countLoss l .marker (some last) 0 := by
  have hX := s.lossStart_as l
  have hcount : (s.lossStart l).counting l = true := (hX.counting (s.lossLane_hold l)).trans hc
  unfold State.lossChecked
  rw [hcount, hX.ck, s.lossLane_ck l, hst]
  rfl

/-- A lane with the entry of its marker error (R17). -/
def State.enteredLane (s : State) (l : LaneNo) (q : FrameSeq) (L : Lane) : Lane :=
  if L.ck.state ≠ .off ∧ s.countsAt l L.hold = true ∧ policyAdmits (s.desc l).policy .markerError = true then
    L.given ⟨l, .markerError, some q, 0, none, s.tick⟩
  else L

theorem State.enteredLane_rest (q : FrameSeq) (L : Lane) : s.enteredLane l q L = { L with
    ck := { L.ck with run := (s.enteredLane l q L).ck.run } } := by
  unfold State.enteredLane Lane.given
  split
  · split <;> rfl
  · rfl

theorem State.As.entered (h : s.As l t X) (q : FrameSeq) : s.As l (t.markerErrorEntry l q) (s.enteredLane l q X) := by
  unfold State.markerErrorEntry State.offerEvent State.enteredLane
  rw [h.ckOff, h.counts, h.desc, h.tick]
  by_cases hc : X.ck.state ≠ .off ∧ s.countsAt l X.hold = true
  · rw [if_pos (by simpa using hc)]
    by_cases hp : policyAdmits (s.desc l).policy .markerError = true
    · rw [if_pos hp, if_pos ⟨hc.1, hc.2, hp⟩]
      exact h.giveEntry _
    · rw [if_neg hp, if_neg fun h => hp h.2.2]
      exact h
  · rw [if_neg (by simpa using hc), if_neg fun h => hc ⟨h.1, h.2.1⟩]
    exact h

theorem State.enteredLane_of_nil (h : X.ck.run = []) : s.enteredLane l q X = X := by
  unfold State.enteredLane
  split
  · exact if_pos h
  · rfl

/-- The lane after the checker's part of a marker loss. -/
def State.lossCheckedLane (s : State) (l : LaneNo) (q : FrameSeq) (L : Lane) : Lane :=
  if s.countsAt l L.hold = true then
    match L.ck.state with
    | .locked => s.lostLane l .marker (L.discarded true)
    | .hunt => (s.enteredLane l q L).hunting .waitAlign
    | .confirm => (s.enteredLane l q L).hunting .waitAlign
    | .lost => s.enteredLane l q L
    | .off => L
  else L

theorem State.As.lossChecked (h : s.As l t X) (hf : s.rxFramed l = true) (hal : X.al.state = .seek) (q last : FrameSeq) :
    s.As l (t.lossChecked l q last) (s.lossCheckedLane l q X) := by
  have hunts : s.As l ((t.markerErrorEntry l q).enterHunt l) ((s.enteredLane l q X).hunting .waitAlign) := by
    have he := h.entered q
    have hr : (t.markerErrorEntry l q).huntReason l = .waitAlign := by
      refine (State.huntReason_facts _ _).1 ((he.rxFramed l).trans hf) ?_
      rw [he.aligned, State.enteredLane_rest, hal]
      rfl
    unfold State.enterHunt
    rw [hr]
    exact he.modCk fun k => { k with state := .hunt, reason := .waitAlign, confirmRun := 0 }
  unfold State.lossChecked State.lossCheckedLane
  rw [h.counts]
  cases hc : s.countsAt l X.hold with
  | false => exact h
  | true =>
    rw [if_neg (by decide), if_pos rfl, h.ck]
    cases hk : X.ck.state with
    | hunt => exact hunts
    | confirm => exact hunts
    | lost => exact h.entered q
    | off =>
      refine (h.entered q).congr ?_
      rw [State.enteredLane, if_neg fun h => h.1 hk]
    | locked =>
      have hd := h.discardRun true true
      have hdr : (X.discarded true).ck.run = [] := by rw [Lane.discarded_ck]
      have he := hd.entered q
      rw [State.enteredLane_of_nil hdr] at he
      exact he.countLoss hdr _ _ _

/-- The lane at the end of the step. -/
theorem State.lost_lane (h : s.losesMarkers l b = true) :
    ((s.receive l b).settleHolds.lane l).still =
      (s.lossCheckedLane l ((s.lane l).al.seq + 1) (s.lossLane l)).settled.still := by
  obtain ⟨hf, -, he⟩ := State.receive_lost h
  have hck := (s.lossStart_as l).lossChecked hf rfl ((s.lane l).al.seq + 1) ((s.markerError l).lane l).al.seq
  rw [he, State.markerLoss_eq]
  generalize (s.lossStart l).lossChecked l ((s.lane l).al.seq + 1) ((s.markerError l).lane l).al.seq = t at hck ⊢
  have hch := (State.Channels.linkLeft (s := t) l).lane l
  have hbase : (t.linkLeft l).As l (t.linkLeft l) (s.lossCheckedLane l ((s.lane l).al.seq + 1) (s.lossLane l)) :=
    ⟨rfl, (congrArg Lane.still hch).trans hck.stands⟩
  exact (hbase.groupLeft l).settleHolds.stands

/-! ### A marker loss of a LOCKED checker -/

theorem State.lossLane_counts (hon : (s.lane l).ck.state ≠ .off) (hc : s.counting l = true) :
    s.lossLane l = { (s.lane l).report Counts.addMarkerError with al := (s.lossLane l).al } := by
  have hc' : s.countsAt l (s.lane l).hold = true := hc
  unfold State.lossLane State.marredLane
  rw [if_pos ⟨hon, hc'⟩]

theorem State.capture_groupLeft : (s.groupLeft l).capture = s.capture := (GroupKept.captured _).groupLeft l rfl

/-- R48, R17: what a marker loss captures on a lane whose trigger is not armed. -/
theorem State.lost_captures (h : s.losesMarkers l b = true) (hc : s.counting l = true) (hst : (s.lane l).ck.state = .locked)
    (harm : (s.lane l).armed = false) (hp : (s.desc l).policy = .events ∨ (s.desc l).policy = .all)
    (hroom : s.capture.length + (s.lane l).ck.run.length ≤ 254) :
    (s.receive l b).settleHolds.capture = s.capture ++ heldEntries (s.lane l).ck.run ++
      [⟨l, .markerError, some ((s.lane l).al.seq + 1), 0, none, s.tick⟩, ⟨l, .syncLoss, some (s.lane l).al.seq, 0, none, s.tick⟩] := by
  obtain ⟨hf, -, he⟩ := State.receive_lost h
  have hX := s.lossStart_as l
  have hck := s.lossLane_ck l
  have hcap0 : (s.lossStart l).capture = s.capture := by
    unfold State.lossStart State.markerError
    exact ite_keeps_of (P := fun t => t.capture = s.capture) (fun _ => rfl) rfl
  have hseq : ((s.markerError l).lane l).al.seq = (s.lane l).al.seq := by
    rw [((State.As.refl (s := s) (l := l)).markerError).al]
    rfl
  rw [he, State.markerLoss_eq, State.capture_settleHolds, State.capture_groupLeft, (State.Channels.linkLeft l).capture,
    State.lossChecked_locked hc hst, hseq]
  have hdis := hX.discardRun true true
  have hdrun : ((s.lossLane l).discarded true).ck.run = [] := by rw [Lane.discarded_ck]
  have hdarm : ((s.lossLane l).discarded true).armed = false :=
    (congrArg Lane.armed (Lane.discarded_rest true (s.lossLane l)) :).trans ((s.lossLane_armed l).trans harm)
  have hcap1 := hX.capture_discardRun (by rw [hcap0, hck]; omega) true
  rw [hcap0, hck] at hcap1
  have hshort : (heldEntries (s.lane l).ck.run).length ≤ (s.lane l).ck.run.length := List.length_filterMap_le _ _
  have hent := hdis.entered ((s.lane l).al.seq + 1)
  rw [State.enteredLane_of_nil hdrun] at hent
  have hadmit : ∀ kd, (kd = .markerError ∨ kd = .syncLoss) → policyAdmits (s.desc l).policy kd = true := by
    rintro kd (rfl | rfl) <;> rcases hp with hp | hp <;> rw [hp] <;> rfl
  generalize (s.lossStart l).discardRun l true true = d at hdis hcap1 hent
  have hcap2 : (d.markerErrorEntry l ((s.lane l).al.seq + 1)).capture = s.capture ++ heldEntries (s.lane l).ck.run ++
      [⟨l, .markerError, some ((s.lane l).al.seq + 1), 0, none, s.tick⟩] := by
    have hjudged : (!d.ckOff l && d.counting l) = true := by
      have hdst : ((s.lossLane l).discarded true).ck.state = .locked := by
        rw [Lane.discarded_ck, hck]
        exact hst
      have hdhold : ((s.lossLane l).discarded true).hold = (s.lane l).hold :=
        (congrArg Lane.hold (Lane.discarded_rest true (s.lossLane l)) :).trans (s.lossLane_hold l)
      rw [hdis.ckOff, hdst, hdis.counting hdhold, hc]
      rfl
    unfold State.markerErrorEntry
    rw [if_pos hjudged, hdis.capture_offerEvent hdrun (hadmit _ (.inl rfl)) (by rw [hcap1, List.length_append]; omega), hcap1]
  rw [hent.capture_countLoss hdrun hdarm (hadmit _ (.inr rfl))
    (by rw [hcap2, List.length_append, List.length_append, List.length_singleton]; omega), hcap2, List.append_assoc _ [_] [_]]
  rfl

/-- R48: the first notice of a marker loss, on a lane of no group whose trigger is not armed. -/
theorem State.lost_sends (h : s.losesMarkers l b = true) (hc : s.counting l = true) (hst : (s.lane l).ck.state = .locked)
    (harm : (s.lane l).armed = false) (hg : s.memberOf l = none) (hroom : s.egress.length ≤ 11) :
    ∃ more, (s.receive l b).settleHolds.egress = s.egress ++ noticeRec (.syncChange l .lost .lossMarker s.tick) :: more := by
  obtain ⟨hf, -, he⟩ := State.receive_lost h
  have hX := s.lossStart_as l
  have hck := s.lossLane_ck l
  have heg0 : (s.lossStart l).egress = s.egress := by
    unfold State.lossStart State.markerError
    exact ite_keeps_of (P := fun t => t.egress = s.egress) (fun _ => rfl) rfl
  have hdis := hX.discardRun true true
  have hdrun : ((s.lossLane l).discarded true).ck.run = [] := by rw [Lane.discarded_ck]
  have hdarm : ((s.lossLane l).discarded true).armed = false :=
    (congrArg Lane.armed (Lane.discarded_rest true (s.lossLane l)) :).trans ((s.lossLane_armed l).trans harm)
  have heg1 := hX.egress_discardRun hg true true
  rw [heg0] at heg1
  have hent := hdis.entered ((s.lane l).al.seq + 1)
  rw [State.enteredLane_of_nil hdrun] at hent
  have heg2 : (((s.lossStart l).discardRun l true true).markerErrorEntry l ((s.lane l).al.seq + 1)).egress = s.egress :=
    ite_keeps_of (P := fun t => t.egress = s.egress) (fun h => (State.egress_offerEvent ..).trans h) heg1
  obtain ⟨front, back, heg3, hfront⟩ := hent.egress_countLoss hdrun (by rw [heg2, hdarm]; exact hroom) .marker
    (some ((s.markerError l).lane l).al.seq) 0
  rw [hfront hdarm, List.append_nil, heg2, ← State.lossChecked_locked hc hst] at heg3
  rw [he, State.markerLoss_eq]
  generalize (s.lossStart l).lossChecked l ((s.lane l).al.seq + 1) ((s.markerError l).lane l).al.seq = t at heg3 ⊢
  have hbase : ∃ more, t.egress = t.egress ++ more := ⟨[], (List.append_nil _).symm⟩
  have hleft : ∃ more, (t.linkLeft l).egress = t.egress ++ more :=
    ite_keeps (P := fun v => ∃ more, v.egress = t.egress ++ more)
      (fun _ => ite_keeps (P := fun v => ∃ more, v.egress = t.egress ++ more)
        (fun _ => (GroupKept.sends t.egress).notify _ hbase) fun _ => hbase) fun _ => hbase
  have hgroup := (GroupKept.sends t.egress).groupLeft l hleft
  obtain ⟨more, hmore⟩ := Measured.settleHolds (fun m => Measured.sends m t.egress) id hgroup
  exact ⟨back ++ more, by rw [hmore, heg3, List.append_assoc]; rfl⟩

end Sys2Proof.Machine
end

section
/-! Every arrival of a block, and the obligation of the capture and trigger commands. -/

namespace Sys2Proof.Machine

variable {s t u v : State} {l k : LaneNo} {X Y Z : Lane} {a : Aligner} {b : Block} {fp : Option (FrameSeq × Nat)} {q : FrameSeq}
  {m : Marker} {rest : List CmdRec} {tag target : Octet} {body : List Block}

/-! ### Arrivals -/

/-- R8 to R13: a payload block, a good marker of a lane that seeks or tries, one that is taken, a bad one, the fourth bad one. -/
theorem State.arrival (s : State) (l : LaneNo) (b : Block) : s.isPayload l b = true ∨
    (s.rxFramed l = true ∧ (s.lane l).al.state ≠ .aligned ∧ goodMarker b = true ∧ s.takesMarker l b = false ∧
      ∃ f, s.receive l b = s.modAl l f) ∨
    s.takesMarker l b = true ∨
    (s.rxFramed l = true ∧ (s.lane l).al.state = .aligned ∧ 127 ≤ (s.lane l).al.pos ∧ goodMarker b = false ∧
      (s.lane l).al.miss < 3) ∨ s.losesMarkers l b = true := by
  unfold State.isPayload State.takesMarker State.losesMarkers State.receive State.alignBlock
  dsimp only
  cases hf : s.rxFramed l with
  | false => exact .inl rfl
  | true =>
    rw [if_pos rfl]
    cases hst : (s.lane l).al.state with
    | seek =>
      cases hg : goodMarker b with
      | false => exact .inl rfl
      | true => exact .inr (.inl ⟨rfl, fun h => (nomatch h), rfl, Bool.and_false _, _, if_pos rfl⟩)
    | trial =>
      by_cases hp : (s.lane l).al.pos < 127
      · exact .inl (by simp [hp])
      · cases hg : goodMarker b with
        | false => exact .inl (by simp)
        | true =>
          by_cases ht : (s.lane l).al.trial < 2
          · refine .inr (.inl ⟨rfl, fun h => (nomatch h), rfl, ?_, fun a => { a with trial := 2, pos := 0, seq := (readMarker b).seq }, ?_⟩)
            · simp only [Bool.true_and, Bool.and_eq_false_iff, decide_eq_false_iff_not]
              exact .inr (by omega)
            · dsimp only
              rw [if_neg (by omega), if_pos rfl, if_pos ht]
          · refine .inr (.inr (.inl ?_))
            simp only [Bool.true_and, Bool.and_eq_true, decide_eq_true_eq]
            exact ⟨by omega, by omega⟩
    | aligned =>
      by_cases hp : (s.lane l).al.pos < 127
      · exact .inl (by simp [hp])
      · cases hg : goodMarker b with
        | true =>
          refine .inr (.inr (.inl ?_))
          simp only [Bool.true_and, Bool.and_true, decide_eq_true_eq]
          omega
        | false =>
          by_cases hm : (s.lane l).al.miss < 3
          · exact .inr (.inr (.inr (.inl ⟨rfl, rfl, by omega, rfl, hm⟩)))
          · refine .inr (.inr (.inr (.inr ?_)))
            rw [State.aligned_iff.mpr hst]
            simp only [Bool.true_and, Bool.and_true, Bool.not_false, Bool.and_eq_true, decide_eq_true_eq]
            exact ⟨by omega, by omega⟩

/-! ### The trigger at a light block -/

/-- R135, R136: what a light block leaves of its lane's trigger. -/
theorem State.exec_light_trigger (h : s.isPayload l b = true) (hst : (s.lane l).ck.state = .locked) (hc : s.counting l = true)
    (hlight : bitErrors b (s.expected l).1 < (s.desc l).heavy) : ∃ t fp Z, exec (.receiveBlock l b) s = .next t ∧
    (s.rxFramed l = true → s.aligned l = true → fp = some ((s.lane l).al.seq, (s.lane l).al.pos)) ∧
    (s.rxFramed l = false → fp = none) ∧
    Z.firstErr = (s.lane l).firstErr ∧ Z.armed = (s.lane l).armed ∧ Z.holdReq = (s.lane l).holdReq ∧
    ((s.lane l).armed = true → s.judges l Z = true) ∧
    (t.lane l).firstErr = ((heavyBlocks (s.lane l).ck.run ++ [s.checked l b fp (s.lane l)]).foldl
      (fun L c => s.countedLane l c L) Z).firstErr ∧
    (t.lane l).armed = ((heavyBlocks (s.lane l).ck.run ++ [s.checked l b fp (s.lane l)]).foldl
      (fun L c => s.countedLane l c L) Z).armed ∧
    ((s.lane l).hold = .run → (t.lane l).hold = if ((heavyBlocks (s.lane l).ck.run ++ [s.checked l b fp (s.lane l)]).foldl
      (fun L c => s.countedLane l c L) Z).holdReq = true then .held else .run) ∧
    ((s.lane l).armed = true → (s.lane l).ck.run = [] → s.firesAt l (s.lane l).firstErr (s.checked l b fp (s.lane l)).errs →
      s.capture.length ≤ 254 → s.egress.length ≤ 10 →
      noticeRec (.trigger l (s.desc l).trigger (s.desc l).action (s.checked l b fp (s.lane l)).seq (s.checked l b fp (s.lane l)).pos
        s.tick) ∈ t.egress ∧
      (⟨l, .trigger, (s.checked l b fp (s.lane l)).seq, (s.checked l b fp (s.lane l)).pos, none, s.tick⟩ : CapEntry) ∈ t.capture) := by
  obtain ⟨a, fp, he, -, hfp, hnone⟩ := State.exec_payload h
  have hX : (s.placed l b a).As l (s.placed l b a) (s.atChecker l b a) := State.As.placed s l b a
  have hon : (s.atChecker l b a).ck.state ≠ .off := by
    change (s.lane l).ck.state ≠ .off
    rw [hst]
    decide
  have herrs : (s.checked l b fp (s.lane l)).errs < (s.desc l).heavy := by rwa [(s.checked_facts l b hfp hnone).1]
  have htick : (s.checked l b fp (s.lane l)).tick = s.tick := rfl
  have heq := s.checkBlock_judged hst b a fp
  rw [if_pos herrs] at heq
  generalize hcd : s.checked l b fp (s.lane l) = c at heq htick
  obtain ⟨Z, hZ⟩ := State.exists_judging hst b a
  have hrel := hZ.as.releaseRun
  have hempty : ((s.placed l b a).releasedLane l Z).ck.run = [] := by rw [State.releasedLane_ck]
  have hB := hrel.countBlock hempty c
  rw [← heq, State.released_counted, hZ.empty] at hB
  have hrest := State.countedLanes_rest (s := s) (l := l) (heavyBlocks (s.lane l).ck.run ++ [c]) { Z with ck := { Z.ck with run := [] } }
  change (s.placed l b a).As l _ ((heavyBlocks (s.lane l).ck.run ++ [c]).foldl (fun L c => s.countedLane l c L) _) at hB
  generalize hW : (heavyBlocks (s.lane l).ck.run ++ [c]).foldl (fun L c => s.countedLane l c L) { Z with ck := { Z.ck with run := [] } } = W
    at hB hrest
  have hWhold : W.hold = (s.lane l).hold := (congrArg Lane.hold hrest :).trans hZ.hold
  have hWrun : W.ck.run = [] := (congrArg (fun L : Lane => L.ck.run) hrest :)
  obtain ⟨w', r', hT, -, -, -⟩ := hX.checkerTake_counted (b := b) (fp := fp) hon hc hB hWrun
  have hcapT := hX.capture_checkerTake (b := b) (fp := fp) hon hc hB (.inr (.inl hWrun))
  obtain ⟨more, hmore⟩ := hX.sends_checkerTake (b := b) (fp := fp) hon hc
  obtain ⟨more', hmore'⟩ := State.sends_payloadEnd (s := s) (l := l) (v := (s.placed l b a).checkerTake l b fp)
  obtain ⟨hold, n, hend, hkeep⟩ := hT.payloadEnd s
  have hjudges : (s.lane l).armed = true → s.judges l Z = true := fun harm => by
    have hc' : s.countsAt l (s.lane l).hold = true := hc
    rw [State.judges, hZ.armed, harm, hZ.locked, hZ.hold, hc']
    rfl
  refine ⟨_, fp, { Z with ck := { Z.ck with run := [] } }, he, hfp, hnone, hZ.firstErr, hZ.armed, hZ.holdReq, hjudges, ?_, ?_,
    fun hrun => ?_, fun harm hr hfires hroom heg => ?_⟩
  · rw [hend.firstErr, hcd, hW]
    rfl
  · rw [hend.armed, hcd, hW]
    rfl
  · have hh : hold = .run := (hkeep (by
      change W.hold ≠ .stepping
      rw [hWhold, hrun]
      decide)).trans (hWhold.trans hrun)
    rw [hend.hold, hcd, hW, Lane.settled, hh]
    exact if_congr (and_iff_left rfl) rfl rfl
  · have hnil : Z.ck.run = [] := hZ.empty.trans hr
    have hrel' : ((s.placed l b a).comparedAt l).releaseRun l = (s.placed l b a).comparedAt l := by
      unfold State.releaseRun
      rw [hZ.as.ck, hnil]
      rfl
    have hfired := hZ.as.countBlock_fired hnil (hjudges harm) c (by rw [hZ.firstErr, ← hcd]; exact hfires)
      (by rw [State.capture_comparedAt]; exact hroom) (le_trans State.egress_comparedAt_le (Nat.succ_le_succ heg))
    rw [hrel'] at heq
    rw [← heq, htick] at hfired
    rw [hmore', hmore, State.capture_payloadEnd, hcapT, hcd]
    exact ⟨List.mem_append_left _ (List.mem_append_left _ hfired.1), hfired.2⟩

/-! ### Lanes that are not judged -/

/-- R135: no arrival fires the trigger of a lane that does not count or whose checker is OFF. -/
theorem State.unjudged_armed (hno : s.counting l = false ∨ (s.lane l).ck.state = .off) (b : Block) :
    ((s.receive l b).settleHolds.lane l).armed = (s.lane l).armed := by
  have hj : s.judges l (s.lane l) = false := by
    unfold State.judges
    rcases hno with h | h
    · rw [← State.counting_eq, h, Bool.and_false]
    · rw [h]
      exact (congrArg (· && _) (Bool.and_false _)).trans (Bool.false_and _)
  rcases s.arrival l b with h | ⟨-, -, -, -, f, hf⟩ | h | ⟨hf, hst, hp, hg, hm⟩ | h
  · obtain ⟨a, fp, he, -, -, -⟩ := State.exec_payload h
    have hX : (s.placed l b a).As l (s.placed l b a) (s.atChecker l b a) := State.As.placed s l b a
    have htake : ∃ Y, (s.placed l b a).As l ((s.placed l b a).checkerTake l b fp) Y ∧ Y.armed = (s.lane l).armed := by
      by_cases hoff : (s.lane l).ck.state = .off
      · unfold State.checkerTake
        rw [hX.ckOff, if_pos (show ((s.atChecker l b a).ck.state == .off) = true from beq_iff_eq.mpr hoff)]
        exact ⟨_, hX, rfl⟩
      · exact ⟨_, hX.checkerTake_held hoff (hno.resolve_right hoff), rfl⟩
    obtain ⟨Y, hY, ha⟩ := htake
    obtain ⟨hold, n, hend, -⟩ := hY.payloadEnd s
    have hnext : (s.receive l b).settleHolds = s.payloadEnd l ((s.placed l b a).checkerTake l b fp) :=
      Host.Outcome.next.inj (exec_receiveBlock.symm.trans he)
    rw [hnext, hend.armed]
    exact ha
  · rw [hf, ((State.As.refl (s := s) (l := l)).modAl f).settleHolds.armed]
    rfl
  · obtain ⟨hf, v, hv, he⟩ := State.receive_taken h
    rw [he]
    exact (hv.lane hf (readMarker b)).2.2 hj
  · obtain ⟨X, hX, hold, n, hend⟩ := State.bad_lane hf hm
    rw [State.receive_bad hf hst hp hg]
    exact (congrArg Lane.armed hend :).trans (hX.unjudged hj)
  · refine (congrArg Lane.armed (State.lost_lane h) :).trans ?_
    refine Eq.trans (b := (s.lossLane l).armed) ?_ (s.lossLane_armed l)
    change (s.lossCheckedLane l ((s.lane l).al.seq + 1) (s.lossLane l)).armed = _
    unfold State.lossCheckedLane
    rw [s.lossLane_ck, s.lossLane_hold]
    split
    · next hc =>
      rw [hno.resolve_left fun h => Bool.noConfusion ((h.symm.trans hc : false = true))]
    · rfl

/-- Settles O36: the commands, a firing in its parts, and the arrivals that fire a trigger. -/
theorem captureAndTriggerCommands : Obligations.CaptureAndTriggerCommands := by
  refine ⟨fun s rest tag target hc => ⟨fun n body hb h => ?_, fun h => ?_⟩, fun s rest tag l body hc hb h => ⟨?_, ?_, ?_⟩,
    State.fireTrigger_facts, fun s l b h hst hc hlight => ?_, fun s l b h hst hc hheavy hwin => ?_,
    fun s l b harm hc => ⟨fun h hst => ?_, fun h hst => ?_, fun h hon hr => ?_⟩, fun s l b hno => ⟨_, exec_receiveBlock, State.unjudged_armed hno b⟩⟩
  · rw [← List.length_drop]
    exact State.answer_command h (.inl hc) (tgt := anyTarget) (x := ()) rfl (bodyOf_params n hb) rfl
  · exact State.answer_command h (.inl hc) (tgt := anyTarget) (x := ()) rfl (b := ()) rfl rfl
  · refine State.answer_command h (.inl hc) (tgt := laneOf) (x := l) (by simp) (bodyOf_params (some ArmOp.arm) hb) ?_
    rw [show decide ((s.desc l).trigger ≠ .none) = ((s.desc l).trigger != .none) by simp [bne, beq_eq_decide]]
    rfl
  · exact State.answer_command h (.inl hc) (tgt := laneOf) (x := l) (by simp) (bodyOf_params (some ArmOp.disarm) hb) rfl
  · exact State.answer_command h (.inl hc) (tgt := laneOf) (x := l) (by simp) (bodyOf_params none hb) rfl
  · obtain ⟨t, fp, Z, he, hfp, hnone, hZf, hZa, hZr, hj, hfirst, harmed, hhold, hfired⟩ := State.exec_light_trigger h hst hc hlight
    obtain ⟨herr, -, -, -, -, hseq, hno⟩ := s.checked_facts l b hfp hnone
    have hany : ∀ P : Nat → Prop, (∃ c ∈ heavyBlocks (s.lane l).ck.run ++ [s.checked l b fp (s.lane l)], P c.errs) ↔
        ∃ e ∈ (heavyBlocks (s.lane l).ck.run).map Checked.errs ++ [bitErrors b (s.expected l).1], P e := fun P => by
      rw [← herr, ← List.map_singleton (f := Checked.errs), ← List.map_append]
      refine ⟨fun ⟨c, hc, h⟩ => ⟨_, List.mem_map_of_mem hc, h⟩, fun ⟨e, he, h⟩ => ?_⟩
      obtain ⟨c, hc, rfl⟩ := List.mem_map.mp he
      exact ⟨c, hc, h⟩
    have hfires : (s.lane l).armed = true → ((t.lane l).armed = false ↔
        ∃ e ∈ (heavyBlocks (s.lane l).ck.run).map Checked.errs ++ [bitErrors b (s.expected l).1], s.firesAt l (s.lane l).firstErr e) :=
      fun harm => by
        rw [harmed, State.countedLanes_fires _ (hj harm), hany, hZf]
    refine ⟨t, he, ?_, fun harm => ?_, fun harm => ⟨hfires harm, fun hreq hrun => ?_, fun hout hr heg hroom => ?_⟩⟩
    · rw [hfirst, State.countedLanes_firstErr, hZf, hany fun e => e ≠ 0]
    · rw [harmed]
      exact State.countedLanes_armed _ (hZa.trans harm)
    · rw [hhold hrun, State.countedLanes_holdReq, hZr, hreq, hZa, harm, ← harmed]
      refine if_congr ?_ rfl rfl
      simp
    · have hone := (hfires harm).mp hout
      rw [hr] at hone
      obtain ⟨e, hmem, hf⟩ := hone
      rw [List.mem_singleton.mp hmem, ← herr] at hf
      obtain ⟨hsent, hcap⟩ := hfired harm hr hf hroom heg
      exact ⟨_, _, hsent, hcap, hseq, hno⟩
  · obtain ⟨t, fp, he, -, -, -, hshort, hfull⟩ := State.exec_heavy h hst hc hheavy hwin
    refine ⟨t, he, fun hlt => ?_, fun hle harm => ?_⟩
    · obtain ⟨-, -, -, -, -, -, -, harmed, -⟩ := hshort hlt
      exact harmed
    · obtain ⟨-, -, -, -, -, -, -, harmed⟩ := hfull hle
      rw [harmed, harm, Bool.true_and, Bool.not_eq_false', beq_iff_eq]
  · refine ⟨_, exec_receiveBlock, ?_⟩
    have hlane : ((s.receive l b).settleHolds.lane l).armed = _ := (congrArg Lane.armed (State.lost_lane h) :)
    have hc' : s.countsAt l (s.lane l).hold = true := hc
    have hL : s.lossCheckedLane l ((s.lane l).al.seq + 1) (s.lossLane l) = s.lostLane l .marker ((s.lossLane l).discarded true) := by
      unfold State.lossCheckedLane
      rw [s.lossLane_hold, s.lossLane_ck, hst, hc', if_pos rfl]
    have hrest := Lane.discarded_rest true (s.lossLane l)
    have hDarm : ((s.lossLane l).discarded true).armed = true := ((congrArg Lane.armed hrest :).trans (s.lossLane_armed l)).trans harm
    have hDhold : ((s.lossLane l).discarded true).hold = (s.lane l).hold := (congrArg Lane.hold hrest :).trans (s.lossLane_hold l)
    have hDst : ((s.lossLane l).discarded true).ck.state = .locked := by
      rw [Lane.discarded_ck, s.lossLane_ck]
      exact hst
    rw [hlane, hL]
    change (((s.lossLane l).discarded true).armed && !((((s.lossLane l).discarded true).armed &&
      !(((s.lossLane l).discarded true).ck.state == .off) && s.countsAt l ((s.lossLane l).discarded true).hold) &&
      (s.desc l).trigger == .syncLoss)) = false ↔ _
    rw [hDarm, hDst, hDhold, hc']
    simp
  · refine ⟨_, exec_receiveBlock, (congrArg Lane.armed (State.lost_lane h) :).trans ?_⟩
    refine Eq.trans (b := (s.lossLane l).armed) ?_ ((s.lossLane_armed l).trans harm)
    change (s.lossCheckedLane l ((s.lane l).al.seq + 1) (s.lossLane l)).armed = _
    have hent : (s.enteredLane l ((s.lane l).al.seq + 1) (s.lossLane l)).armed = (s.lossLane l).armed :=
      (congrArg Lane.armed (State.enteredLane_rest _ _) :)
    unfold State.lossCheckedLane
    rw [s.lossLane_ck]
    split
    · cases hk : (s.lane l).ck.state with
      | locked => exact absurd hk hst
      | off => rfl
      | hunt => exact hent
      | confirm => exact hent
      | lost => exact hent
    · rfl
  · obtain ⟨hf, v, hv, he⟩ := State.receive_taken h
    refine ⟨_, exec_receiveBlock, ?_⟩
    have hj : s.judges l (s.lane l) = true := by
      have hc' : s.countsAt l (s.lane l).hold = true := hc
      rw [State.judges, harm, hc', Bool.and_true, Bool.true_and, Bool.not_eq_true', beq_eq_false_iff_ne]
      exact hon
    rw [he, (((hv.lane hf (readMarker b)).2.1 hr).2.2.2), harm, hj, Bool.true_and, Bool.true_and, Bool.not_eq_false', beq_iff_eq]

end Sys2Proof.Machine
end

section
/-! The marker aligner, the identity check, the phase and the marker loss at a received block. -/

namespace Sys2Proof.Machine

variable {s t u v : State} {l k : LaneNo} {X Y Z : Lane} {a : Aligner} {b : Block} {fp : Option (FrameSeq × Nat)} {q : FrameSeq}
  {m : Marker}

/-! ### The aligner -/

/-- R10 to R13: the aligner after a payload block. -/
def Aligner.passed (a : Aligner) (framed good : Bool) : Aligner :=
  if framed then
    match a.state with
    | .seek => a
    | .trial => if a.pos < 127 then { a with pos := a.pos + 1 } else if good then a else { a with state := .seek, pos := 0, trial := 0 }
    | .aligned => { a with pos := a.pos + 1 }
  else a

theorem State.receive_passed (h : s.isPayload l b = true) : ∃ fp,
    s.receive l b = (s.modAl l fun _ => (s.lane l).al.passed (s.rxFramed l) (goodMarker b)).payload l b fp := by
  unfold State.receive Aligner.passed
  cases hf : s.rxFramed l with
  | false =>
    refine ⟨none, ?_⟩
    rw [if_neg Bool.false_ne_true, if_neg Bool.false_ne_true, State.modAl_self]
  | true =>
    unfold State.isPayload at h
    rw [hf, Bool.not_true, Bool.false_or] at h
    rw [if_pos rfl, if_pos rfl]
    unfold State.alignBlock
    dsimp only
    cases hst : (s.lane l).al.state with
    | seek =>
      rw [hst] at h
      have hbad : goodMarker b = false := by simpa using h
      dsimp only
      rw [hbad, if_neg Bool.false_ne_true, State.modAl_self]
      exact ⟨none, rfl⟩
    | trial =>
      rw [hst] at h
      dsimp only
      by_cases hp : (s.lane l).al.pos < 127
      · rw [if_pos (by omega), if_pos hp, ← hst]
        exact ⟨none, rfl⟩
      · have hbad : goodMarker b = false := by
          simp only [Bool.or_eq_true, decide_eq_true_eq, Bool.not_eq_true'] at h
          exact h.resolve_left hp
        rw [if_neg (by omega), if_neg hp, hbad, if_neg Bool.false_ne_true, if_neg Bool.false_ne_true]
        exact ⟨none, rfl⟩
    | aligned =>
      rw [hst] at h
      have hp : (s.lane l).al.pos + 1 < 128 := by
        simp only [decide_eq_true_eq] at h
        omega
      dsimp only
      rw [if_pos hp, ← hst]
      exact ⟨_, rfl⟩

/-- What every received block leaves of the part and of the other lanes. -/
theorem State.receive_around (s : State) (l : LaneNo) (b : Block) : s.Rooted (s.receive l b).settleHolds ∧
    ∀ k, k ≠ l → ((s.receive l b).settleHolds.lane k).apart = (s.lane k).apart := by
  have hsettle : ∀ {t : State}, s.Rooted t → s.Rooted t.settleHolds := fun h => h.trans (.of_fixed (State.settleHolds_fixed _))
  have key : ∀ {t : State}, s.Around l t → s.Rooted t.settleHolds ∧ ∀ k, k ≠ l → (t.settleHolds.lane k).apart = (s.lane k).apart :=
    fun {t} h => ⟨hsettle h.rooted, fun k hk => by
      rw [State.apart_settleHolds]
      exact Lane.apart_of_still ((State.others_iff _ _ _).mp h.others k hk)⟩
  rcases s.arrival l b with h | ⟨-, -, -, -, f, hf⟩ | h | ⟨hf, hst, hp, hg, -⟩ | h
  · obtain ⟨fp, he⟩ := State.receive_passed h
    obtain ⟨hroot, -, hother, -⟩ := s.payload_facts l b ((s.lane l).al.passed (s.rxFramed l) (goodMarker b)) fp
    rw [he]
    exact ⟨hsettle hroot, fun k hk => State.apart_settleHolds.trans (hother k hk)⟩
  · rw [hf]
    exact key (.modAl f)
  · obtain ⟨-, v, hv, he⟩ := State.receive_taken h
    rw [he]
    exact key (hv.around.trans .acceptMarker)
  · rw [State.receive_bad hf hst hp hg]
    exact key .badAligned
  · obtain ⟨-, -, he⟩ := State.receive_lost h
    rw [he]
    exact key (State.Around.markerError.trans (.markerLoss _))

theorem State.al_of_payload (h : s.isPayload l b = true) :
    ((s.receive l b).settleHolds.lane l).al = (s.lane l).al.passed (s.rxFramed l) (goodMarker b) := by
  obtain ⟨fp, he⟩ := State.receive_passed h
  rw [he]
  exact (s.payload_facts l b _ fp).2.1

theorem State.al_of_mod {f : Aligner → Aligner} (h : s.receive l b = s.modAl l f) :
    ((s.receive l b).settleHolds.lane l).al = f (s.lane l).al := by
  rw [h, ((State.As.refl (s := s) (l := l)).modAl f).settleHolds.al]
  rfl

/-- R8, R10 to R13, R17: the aligner of the lane after every block. -/
theorem State.al_facts (s : State) (l : LaneNo) (b : Block) :
     (s.rxFramed l = false → ((s.receive l b).settleHolds.lane l).al = (s.lane l).al) ∧
     (s.rxFramed l = true →
       ((s.lane l).al.state = .seek →
         ((s.receive l b).settleHolds.lane l).al = if goodMarker b then
             { (s.lane l).al with state := .trial, trial := 1, pos := 0, seq := (readMarker b).seq }
           else (s.lane l).al) ∧
       ((s.lane l).al.state = .trial →
         ((s.lane l).al.pos < 127 → ((s.receive l b).settleHolds.lane l).al = { (s.lane l).al with pos := (s.lane l).al.pos + 1 }) ∧
         (127 ≤ (s.lane l).al.pos → goodMarker b = false →
           ((s.receive l b).settleHolds.lane l).al = { (s.lane l).al with state := .seek, pos := 0, trial := 0 }) ∧
         (127 ≤ (s.lane l).al.pos → goodMarker b = true → (s.lane l).al.trial < 2 →
           ((s.receive l b).settleHolds.lane l).al = { (s.lane l).al with trial := 2, pos := 0, seq := (readMarker b).seq }) ∧
         (127 ≤ (s.lane l).al.pos → goodMarker b = true → 2 ≤ (s.lane l).al.trial →
           ((s.receive l b).settleHolds.lane l).al =
             { state := .aligned, pos := 0, trial := 0, miss := 0, seq := (readMarker b).seq, errs := (s.lane l).al.errs,
               far := .known (readMarker b).lock (readMarker b).alarm })) ∧
       ((s.lane l).al.state = .aligned →
         ((s.lane l).al.pos < 127 → ((s.receive l b).settleHolds.lane l).al = { (s.lane l).al with pos := (s.lane l).al.pos + 1 }) ∧
         (127 ≤ (s.lane l).al.pos → goodMarker b = true →
           ((s.receive l b).settleHolds.lane l).al =
             { (s.lane l).al with
               pos := 0, miss := 0, seq := (readMarker b).seq
               errs := if (readMarker b).seq = (s.lane l).al.seq + 1 then (s.lane l).al.errs
                 else (s.lane l).al.errs.add 1
               far := .known (readMarker b).lock (readMarker b).alarm }) ∧
         (127 ≤ (s.lane l).al.pos → goodMarker b = false →
           ((s.lane l).al.miss < 3 →
             ((s.receive l b).settleHolds.lane l).al =
               { (s.lane l).al with
                 pos := 0, miss := (s.lane l).al.miss + 1, seq := (s.lane l).al.seq + 1
                 errs := (s.lane l).al.errs.add 1 }) ∧
           (3 ≤ (s.lane l).al.miss →
             ((s.receive l b).settleHolds.lane l).al =
               { (s.lane l).al with
                 state := .seek, pos := 0, trial := 0, miss := 0, errs := (s.lane l).al.errs.add 1 })))) := by
  have payload : s.isPayload l b = true → ∀ {x : Aligner}, (s.lane l).al.passed (s.rxFramed l) (goodMarker b) = x →
      ((s.receive l b).settleHolds.lane l).al = x := fun h _ hx => (State.al_of_payload h).trans hx
  refine ⟨fun hf => payload (by simp [State.isPayload, hf]) (by simp [Aligner.passed, hf]), fun hf => ⟨fun hst => ?_, fun hst => ⟨fun hp => ?_,
    fun hp hg => ?_, fun hp hg ht => ?_, fun hp hg ht => ?_⟩, fun hst => ⟨fun hp => ?_, fun hp hg => ?_, fun hp hg => ⟨fun hm => ?_,
    fun hm => ?_⟩⟩⟩⟩
  · cases hg : goodMarker b with
    | false => exact payload (by simp [State.isPayload, hf, hst, hg]) (by simp [Aligner.passed, hf, hst])
    | true =>
      refine State.al_of_mod (f := fun a => { a with state := .trial, trial := 1, pos := 0, seq := (readMarker b).seq }) ?_
      unfold State.receive State.alignBlock
      dsimp only
      rw [if_pos hf, hst]
      exact if_pos hg
  · exact payload (by simp [State.isPayload, hf, hst, hp]) (by simp [Aligner.passed, hf, hst, hp])
  · exact payload (by simp [State.isPayload, hf, hst, hg]) (by simp [Aligner.passed, hf, hst, hg, Nat.not_lt.mpr hp])
  · refine State.al_of_mod (f := fun a => { a with trial := 2, pos := 0, seq := (readMarker b).seq }) ?_
    unfold State.receive State.alignBlock
    dsimp only
    rw [if_pos hf, hst]
    dsimp only
    rw [if_neg (by omega), if_pos hg, if_pos ht]
  · obtain ⟨w, hX, -⟩ := s.beforeTrial_as l (readMarker b)
    rw [State.receive_trial hf hst hp hg ht, ((s.beforeTrial_awaits l (readMarker b)).lane hf (readMarker b)).1, hX.al]
    split <;> rfl
  · exact payload (by simp [State.isPayload, hf, hst, hp]) (by simp [Aligner.passed, hf, hst])
  · obtain ⟨X, hX, hpass⟩ := s.beforeGood_as l (readMarker b)
    rw [State.receive_good hf hst hp hg, ((s.beforeGood_awaits l (readMarker b)).lane hf (readMarker b)).1, hX.al,
      Lane.al_of_bare hpass.bare]
  · obtain ⟨X, hX, hold, n, hend⟩ := State.bad_lane hf hm
    rw [State.receive_bad hf hst hp hg]
    exact (congrArg Lane.al hend :).trans (Lane.al_of_bare hX.bare :)
  · have hl : s.losesMarkers l b = true := by
      unfold State.losesMarkers
      rw [hf, State.aligned_iff.mpr hst, hg]
      simp [hp, hm]
    refine (congrArg Lane.al (State.lost_lane hl) :).trans ?_
    change (s.lossCheckedLane l ((s.lane l).al.seq + 1) (s.lossLane l)).al = (s.lossLane l).al
    have hent : (s.enteredLane l ((s.lane l).al.seq + 1) (s.lossLane l)).al = (s.lossLane l).al :=
      (congrArg Lane.al (State.enteredLane_rest _ _) :)
    unfold State.lossCheckedLane
    split
    · split
      · exact (congrArg Lane.al (Lane.discarded_rest true (s.lossLane l)) :)
      · exact hent
      · exact hent
      · exact hent
      · rfl
    · rfl

/-! ### Identity and phase -/

/-- R61, R62: the identity condition and the lane map after a good marker of an ALIGNED lane. -/
theorem State.id_facts (hf : s.rxFramed l = true) (hst : (s.lane l).al.state = .aligned) (hp : 127 ≤ (s.lane l).al.pos)
    (hg : goodMarker b = true) :
    ((readMarker b).id = (s.map l).rxId → (s.receive l b).settleHolds.laneMap = s.laneMap ∧
      ((s.receive l b).settleHolds.lane l).idm = none) ∧
    ((readMarker b).id ≠ (s.map l).rxId → (s.map l).follow = false → (s.receive l b).settleHolds.laneMap = s.laneMap ∧
      ((s.receive l b).settleHolds.lane l).idm = some ⟨.mismatch, (readMarker b).id⟩) ∧
    ((readMarker b).id ≠ (s.map l).rxId → (s.map l).follow = true → s.heldByOther l (readMarker b).id = true →
      (s.receive l b).settleHolds.laneMap = s.laneMap ∧
      ((s.receive l b).settleHolds.lane l).idm = some ⟨.duplicate, (readMarker b).id⟩) ∧
    ((readMarker b).id ≠ (s.map l).rxId → (s.map l).follow = true → s.heldByOther l (readMarker b).id = false →
      (s.receive l b).settleHolds.laneMap = (s.setRxId l (readMarker b).id).laneMap ∧
      ((s.receive l b).settleHolds.lane l).idm = none ∧
      ((s.lane l).ck.state = .off → ((s.receive l b).settleHolds.lane l).ck.state = .off) ∧
      ((s.lane l).ck.state ≠ .off → ((s.receive l b).settleHolds.lane l).ck.state = .hunt ∨
        ((s.receive l b).settleHolds.lane l).ck.state = .confirm)) := by
  have hv := s.beforeGood_awaits l (readMarker b)
  have hroot : s.Rooted (s.beforeGood l (readMarker b)) := hv.around.rooted
  rw [State.receive_good hf hst hp hg]
  generalize s.beforeGood l (readMarker b) = v at hv hroot
  obtain ⟨hid, hsame, hmis, hdup, hfol⟩ := State.identified ((hroot.rxFramed l).trans hf) (readMarker b)
  obtain ⟨hold, n, hend, -⟩ := v.accepted_lane l (readMarker b)
  have hmap : (v.acceptMarker l (readMarker b)).settleHolds.laneMap =
      ((v.frameBoundary l (readMarker b).seq).identity l (readMarker b).id (readMarker b).seq).laneMap := by
    unfold State.acceptMarker State.takeMarker
    dsimp only
    generalize (v.frameBoundary l (readMarker b).seq).identity l (readMarker b).id (readMarker b).seq = u
    have h1 : ((((u.fireFrameSeq l (readMarker b).seq).modAl l fun a => { a with
        far := .known (readMarker b).lock (readMarker b).alarm }).takePhase l (readMarker b).phase)).laneMap = u.laneMap :=
      (((State.As.refl (s := u) (l := l)).fireFrameSeq _).modAl _ |>.takePhase _).laneMap
    refine Eq.trans ?_ h1
    refine Eq.trans ?_ (State.Channels.takeChannelFields l (readMarker b)).laneMap
    exact (congrArg Fixed.laneMap ((State.settleHolds_fixed _).trans (State.endStep_fixed ..)) :)
  have hmapv : v.map l = s.map l := by rw [State.map, hv.map, State.map]
  have hheld : v.heldByOther l (readMarker b).id = s.heldByOther l (readMarker b).id := by
    unfold State.heldByOther State.map
    rw [hv.map]
  rw [hmapv] at hsame hmis hdup hfol
  rw [hheld] at hdup hfol
  generalize (v.frameBoundary l (readMarker b).seq).identity l (readMarker b).id (readMarker b).seq = u at *
  generalize (v.acceptMarker l (readMarker b)).settleHolds = t at hend hmap ⊢
  have hidm : (t.lane l).idm = (u.lane l).idm := (congrArg Lane.idm hend :).trans (State.markedLane_idm ..)
  have hck : (t.lane l).ck.state = (u.markedLane l (readMarker b) (u.lane l)).ck.state := (congrArg (fun L : Lane => L.ck.state) hend :)
  have hcases := State.markedLane_ck u l (readMarker b) (u.lane l)
  refine ⟨fun h => ?_, fun h1 h2 => ?_, fun h1 h2 h3 => ?_, fun h1 h2 h3 => ?_⟩
  · obtain ⟨X, -, hX⟩ := hsame h
    exact ⟨hmap.trans (hX.laneMap.trans hv.map), hidm.trans hX.idm⟩
  · obtain ⟨e1, e2⟩ := hmis h1 h2
    exact ⟨hmap.trans (e1.trans hv.map), hidm.trans e2⟩
  · obtain ⟨e1, e2⟩ := hdup h1 h2 h3
    exact ⟨hmap.trans (e1.trans hv.map), hidm.trans e2⟩
  · obtain ⟨e1, e2, e3⟩ := hfol h1 h2 h3
    refine ⟨hmap.trans (e1.trans ?_), hidm.trans e2, fun hoff => ?_, fun hon => ?_⟩
    · unfold State.setRxId
      dsimp only
      rw [hv.map]
    · have huoff := hid.off.mpr (hv.off.mpr hoff)
      rcases hcases with ⟨-, -, -, hh, -⟩ | ⟨hs, -, -⟩
      · exact absurd (huoff.symm.trans hh) (by decide)
      · exact hck.trans (hs.trans huoff)
    · have hu := e3 fun h => hon (hv.off.mp h)
      rcases hcases with ⟨hs, -⟩ | ⟨hs, -, -⟩
      · exact .inr (hck.trans hs)
      · exact .inl (hck.trans (hs.trans hu))

end Sys2Proof.Machine
end

section
/-! The aligner's obligation. -/

namespace Sys2Proof.Machine

variable {s t u v : State} {l k : LaneNo} {X Y Z : Lane} {b : Block} {m : Marker}

/-- A lane map entry with another receive id, where there is one. -/
theorem State.setRxId_of_follow (h : (s.map l).follow = true) (r : LaneNo) :
    (s.setRxId l r).laneMap = s.laneMap.set l (some { s.map l with rxId := r }) := by
  unfold State.setRxId State.map at *
  dsimp only
  cases hm : s.laneMap.get l with
  | none =>
    rw [hm] at h
    exact Bool.noConfusion h
  | some e => rfl

/-- R42: a checker that waits for a phase, when the marker that gives it is accepted. -/
theorem State.awaits_phase (h : s.takesMarker l b = true) (hc : s.counting l = true) (hu : (s.rxPat l).kind = .user)
    (hst : (s.lane l).ck.state = .hunt) (hr : (s.lane l).al.state = .aligned → (s.lane l).ck.reason = .waitPhase) :
    s.rxFramed l = true ∧ ∃ v, State.Awaits l s v ∧ s.receive l b = v.acceptMarker l (readMarker b) ∧ (v.lane l).ck.state = .hunt ∧
      (v.lane l).ck.reason = .waitPhase := by
  unfold State.takesMarker at h
  simp only [Bool.and_eq_true, decide_eq_true_eq] at h
  obtain ⟨⟨⟨hf, hg⟩, hp⟩, hal⟩ := h
  refine ⟨hf, ?_⟩
  cases hs : (s.lane l).al.state with
  | seek =>
    rw [hs] at hal
    exact Bool.noConfusion hal
  | trial =>
    rw [hs] at hal
    obtain ⟨w, hX, hwal, hmap, hroot⟩ := s.beforeTrial_as l (readMarker b)
    have hc' : s.countsAt l (s.lane l).hold = true := hc
    rw [if_pos ⟨hc', hst⟩] at hX
    have hreason : w.huntReason l = .waitPhase := by
      refine (State.huntReason_facts w l).2.2.1 ((hroot.rxFramed l).trans hf) (State.aligned_iff.mpr hwal) ?_
      rw [hroot.rxPat hmap]
      exact hu
    rw [hreason] at hX
    refine ⟨_, s.beforeTrial_awaits l (readMarker b), State.receive_trial hf hs hp hg (of_decide_eq_true hal), ?_, ?_⟩ <;> rw [hX.ck] <;> rfl
  | aligned =>
    obtain ⟨X, hX, hpass⟩ := s.beforeGood_as l (readMarker b)
    refine ⟨_, s.beforeGood_awaits l (readMarker b), State.receive_good hf hs hp hg, ?_, ?_⟩ <;> rw [hX.ck]
    · exact (Lane.ckState_of_bare hpass.bare :).trans hst
    · exact (Lane.reason_of_bare hpass.bare :).trans (hr hs)

/-- R42: a phase taken from a good marker, or not. -/
theorem State.phase_facts (h : s.takesMarker l b = true) (hid : (readMarker b).id = (s.map l).rxId) (hc : s.counting l = true)
    (hu : (s.rxPat l).kind = .user) (hst : (s.lane l).ck.state = .hunt)
    (hr : (s.lane l).al.state = .aligned → (s.lane l).ck.reason = .waitPhase) :
    ((readMarker b).phase < (s.rxPat l).len →
      ((s.receive l b).settleHolds.lane l).ck.state = .confirm ∧ ((s.receive l b).settleHolds.lane l).ck.confirmRun = 0 ∧
      ((s.receive l b).settleHolds.lane l).ck.phase = (readMarker b).phase) ∧
    ((s.rxPat l).len ≤ (readMarker b).phase →
      ((s.receive l b).settleHolds.lane l).ck.state = .hunt ∧ ((s.receive l b).settleHolds.lane l).ck.reason = .waitPhase) := by
  obtain ⟨hf, v, hv, he, hvst, hvr⟩ := State.awaits_phase h hc hu hst hr
  have hroot : s.Rooted v := hv.around.rooted
  have hmapv : v.map l = s.map l := by rw [State.map, hv.map, State.map]
  obtain ⟨X, hp, hX⟩ := (State.identified ((hroot.rxFramed l).trans hf) (readMarker b)).2.1 (by rw [hmapv]; exact hid)
  obtain ⟨hold, n, hend, -⟩ := v.accepted_lane l (readMarker b)
  rw [he]
  generalize (v.frameBoundary l (readMarker b).seq).identity l (readMarker b).id (readMarker b).seq = u at hX hend
  generalize (v.acceptMarker l (readMarker b)).settleHolds = t at hend ⊢
  have hck : (t.lane l).ck = (u.markedLane l (readMarker b) (u.lane l)).ck := (congrArg Lane.ck hend :)
  have hust : (u.lane l).ck.state = .hunt := (congrArg Checker.state hX.ck).trans ((Lane.ckState_of_bare hp.bare :).trans hvst)
  have hur : (u.lane l).ck.reason = .waitPhase := (congrArg Checker.reason hX.ck).trans ((Lane.reason_of_bare hp.bare :).trans hvr)
  have huhold : (u.lane l).hold = (s.lane l).hold := hX.hold.trans ((Lane.hold_of_bare hp.bare :).trans hv.hold)
  have hpat : u.rxPat l = s.rxPat l := (hX.rxPat l).trans (hroot.rxPat hv.map)
  have hcount : u.countsAt l (u.lane l).hold = true := by
    have hc' : s.countsAt l (s.lane l).hold = true := hc
    rw [huhold, ← hc', ← hroot.countsAt]
    unfold State.countsAt
    rw [hX.desc]
  rw [hck]
  refine ⟨fun hlt => ?_, fun hle => ?_⟩ <;>
    rcases State.markedLane_ck u l (readMarker b) (u.lane l) with ⟨h1, h2, h3, -, -, -, h7⟩ | ⟨h1, h2, hno⟩
  · exact ⟨h1, h2, h3⟩
  · exact absurd ⟨hcount, hust, hur, by rw [hpat]; exact hlt⟩ hno
  · rw [hpat] at h7
    exact absurd h7 (Nat.not_lt.mpr hle)
  · exact ⟨h1.trans hust, h2.trans hur⟩

/-! ### A marker loss -/

theorem Lane.discarded_run (h : X.ck.run ≠ []) : X.discarded true =
    Lane.report (Counts.addUnsynced (heavyCount X.ck.run)) { X with ck := { X.ck with run := [] } } := by
  rw [Lane.discarded, if_neg h, if_pos rfl]

theorem Lane.counts_report_open (f : Counts → Counts) (h : X.win.isOpen = true) : (X.report f).win.counts = f X.win.counts := by
  rw [Lane.counts_report, if_pos h]

/-- R48: the LOCKED checker's part of a marker loss. -/
theorem State.lost_locked (h : s.losesMarkers l b = true) (hc : s.counting l = true) (hst : (s.lane l).ck.state = .locked) :
    ((s.receive l b).settleHolds.lane l).ck.state = .lost ∧ ((s.receive l b).settleHolds.lane l).ck.lastLoss = .marker ∧
    ((s.receive l b).settleHolds.lane l).ck.run = [] ∧
    ((s.lane l).ck.run = [] →
      ((s.receive l b).settleHolds.lane l).run.counts = (s.lane l).run.counts.addMarkerError.addSyncLoss ∧
      ((s.lane l).win.isOpen = true →
        ((s.receive l b).settleHolds.lane l).win.counts = (s.lane l).win.counts.addMarkerError.addSyncLoss)) ∧
    ((s.lane l).ck.run ≠ [] →
      ((s.receive l b).settleHolds.lane l).run.counts =
        ((s.lane l).run.counts.addMarkerError.addUnsynced (heavyCount (s.lane l).ck.run)).addSyncLoss ∧
      ((s.lane l).win.isOpen = true → ((s.receive l b).settleHolds.lane l).win.counts =
        ((s.lane l).win.counts.addMarkerError.addUnsynced (heavyCount (s.lane l).ck.run)).addSyncLoss)) := by
  have hlane := State.lost_lane h
  have hc' : s.countsAt l (s.lane l).hold = true := hc
  have hL : s.lossCheckedLane l ((s.lane l).al.seq + 1) (s.lossLane l) = s.lostLane l .marker ((s.lossLane l).discarded true) := by
    unfold State.lossCheckedLane
    rw [s.lossLane_hold, s.lossLane_ck, hst, hc', if_pos rfl]
  rw [hL] at hlane
  generalize (s.receive l b).settleHolds = t at hlane ⊢
  have hck : (t.lane l).ck = { ((s.lossLane l).discarded true).ck with state := .lost, lastLoss := .marker } := (congrArg Lane.ck hlane :)
  have hrun : (t.lane l).run = (((s.lossLane l).discarded true).report Counts.addSyncLoss).run := (congrArg Lane.run hlane :)
  have hwin : (t.lane l).win = (((s.lossLane l).discarded true).report Counts.addSyncLoss).win := (congrArg Lane.win hlane :)
  have hcounts := State.lossLane_counts (by rw [hst]; decide) hc
  have hopen : (s.lossLane l).win.isOpen = (s.lane l).win.isOpen := by
    rw [hcounts]
    exact Lane.report_isOpen ..
  have htot : (s.lossLane l).run.counts = (s.lane l).run.counts.addMarkerError := by
    rw [hcounts]
    rfl
  have hwinc : (s.lane l).win.isOpen = true → (s.lossLane l).win.counts = (s.lane l).win.counts.addMarkerError := fun ho => by
    rw [hcounts]
    exact Lane.counts_report_open _ ho
  refine ⟨by rw [hck], by rw [hck], ?_, fun hr => ⟨?_, fun ho => ?_⟩, fun hr => ⟨?_, fun ho => ?_⟩⟩
  · rw [hck]
    exact (congrArg Checker.run (Lane.discarded_ck true (s.lossLane l)) :)
  · rw [hrun, Lane.discarded_of_nil true (by rw [s.lossLane_ck]; exact hr)]
    exact congrArg Counts.addSyncLoss htot
  · rw [hwin, Lane.discarded_of_nil true (by rw [s.lossLane_ck]; exact hr), Lane.counts_report_open _ (hopen.trans ho), hwinc ho]
  · rw [hrun, Lane.discarded_run (by rw [s.lossLane_ck]; exact hr), s.lossLane_ck]
    exact congrArg (fun c : Counts => (c.addUnsynced (heavyCount (s.lane l).ck.run)).addSyncLoss) htot
  · rw [hwin, Lane.discarded_run (by rw [s.lossLane_ck]; exact hr), s.lossLane_ck]
    refine (Lane.counts_report_open _ ((Lane.report_isOpen ..).trans (hopen.trans ho))).trans (congrArg Counts.addSyncLoss ?_)
    exact (Lane.counts_report_open (X := { s.lossLane l with ck := _ }) _ (hopen.trans ho)).trans (congrArg (Counts.addUnsynced _) (hwinc ho))

/-- R48, R40, R17: a checker that is not LOCKED at a marker loss. -/
theorem State.lost_unlocked (h : s.losesMarkers l b = true) (hc : s.counting l = true) :
    ((s.lane l).ck.state = .hunt ∨ (s.lane l).ck.state = .confirm →
      ((s.receive l b).settleHolds.lane l).ck.state = .hunt ∧ ((s.receive l b).settleHolds.lane l).ck.reason = .waitAlign ∧
      ((s.receive l b).settleHolds.lane l).ck.confirmRun = 0 ∧
      ((s.receive l b).settleHolds.lane l).run.counts = (s.lane l).run.counts.addMarkerError) ∧
    ((s.lane l).ck.state = .lost →
      ((s.receive l b).settleHolds.lane l).ck.state = .lost ∧
      ((s.receive l b).settleHolds.lane l).run.counts = (s.lane l).run.counts.addMarkerError) ∧
    ((s.lane l).ck.state = .off → ((s.receive l b).settleHolds.lane l).ck = (s.lane l).ck ∧
      ((s.receive l b).settleHolds.lane l).run.counts = (s.lane l).run.counts) := by
  have hlane := State.lost_lane h
  have hc' : s.countsAt l (s.lane l).hold = true := hc
  generalize (s.receive l b).settleHolds = t at hlane ⊢
  have hentrun : (s.enteredLane l ((s.lane l).al.seq + 1) (s.lossLane l)).run = (s.lossLane l).run :=
    (congrArg Lane.run (State.enteredLane_rest _ _) :)
  have hentst : (s.enteredLane l ((s.lane l).al.seq + 1) (s.lossLane l)).ck.state = (s.lossLane l).ck.state :=
    (congrArg (fun L : Lane => L.ck.state) (State.enteredLane_rest _ _) :)
  have htot : (s.lane l).ck.state ≠ .off → (s.lossLane l).run.counts = (s.lane l).run.counts.addMarkerError := fun hon => by
    rw [State.lossLane_counts hon hc]
    rfl
  refine ⟨fun hst => ?_, fun hst => ?_, fun hst => ?_⟩
  · have hL : s.lossCheckedLane l ((s.lane l).al.seq + 1) (s.lossLane l) =
        (s.enteredLane l ((s.lane l).al.seq + 1) (s.lossLane l)).hunting .waitAlign := by
      unfold State.lossCheckedLane
      rw [s.lossLane_hold, s.lossLane_ck, hc', if_pos rfl]
      rcases hst with hst | hst <;> rw [hst]
    have hon : (s.lane l).ck.state ≠ .off := by rcases hst with hst | hst <;> rw [hst] <;> decide
    rw [hL] at hlane
    have hck : (t.lane l).ck = (Lane.hunting .waitAlign (s.enteredLane l ((s.lane l).al.seq + 1) (s.lossLane l))).ck :=
      (congrArg Lane.ck hlane :)
    have hrun : (t.lane l).run = (s.enteredLane l ((s.lane l).al.seq + 1) (s.lossLane l)).run := (congrArg Lane.run hlane :)
    rw [hck, hrun, hentrun]
    exact ⟨rfl, rfl, rfl, htot hon⟩
  · have hL : s.lossCheckedLane l ((s.lane l).al.seq + 1) (s.lossLane l) =
        s.enteredLane l ((s.lane l).al.seq + 1) (s.lossLane l) := by
      unfold State.lossCheckedLane
      rw [s.lossLane_hold, s.lossLane_ck, hc', if_pos rfl, hst]
    rw [hL] at hlane
    have hck : (t.lane l).ck = (s.enteredLane l ((s.lane l).al.seq + 1) (s.lossLane l)).ck := (congrArg Lane.ck hlane :)
    have hrun : (t.lane l).run = (s.enteredLane l ((s.lane l).al.seq + 1) (s.lossLane l)).run := (congrArg Lane.run hlane :)
    rw [hck, hrun, hentrun, hentst, s.lossLane_ck]
    exact ⟨hst, htot (by rw [hst]; decide)⟩
  · have hL : s.lossCheckedLane l ((s.lane l).al.seq + 1) (s.lossLane l) = s.lossLane l := by
      unfold State.lossCheckedLane
      rw [s.lossLane_hold, s.lossLane_ck, hc', if_pos rfl, hst]
    rw [hL] at hlane
    have hck : (t.lane l).ck = (s.lossLane l).ck := (congrArg Lane.ck hlane :)
    have hrun : (t.lane l).run = (s.lossLane l).run := (congrArg Lane.run hlane :)
    rw [hck, hrun, s.lossLane_ck]
    refine ⟨rfl, ?_⟩
    unfold State.lossLane State.marredLane
    rw [if_neg fun h => h.1 hst]

/-- Settles O21: the aligner, the identity check, the phase and the marker loss, each from its own facts. -/
theorem alignerFollowsMarkers : Obligations.AlignerFollowsMarkers := by
  refine ⟨fun s l b => ⟨_, exec_receiveBlock, ?_⟩, fun s l b hf hst hp hg => ⟨_, exec_receiveBlock, ?_⟩,
    fun s l b h hid hc hu hst hr => ⟨_, exec_receiveBlock, State.phase_facts h hid hc hu hst hr⟩,
    fun s l b h hc => ⟨_, exec_receiveBlock, fun hst => ?_, State.lost_unlocked h hc⟩⟩
  · obtain ⟨hroot, hother⟩ := s.receive_around l b
    refine ⟨hroot, fun k hk => ?_, s.al_facts l b⟩
    have h := hother k hk
    exact ⟨(congrArg Lane.al h :), (congrArg Lane.tx h :), (congrArg Lane.ck h :), (congrArg Lane.run h :), (congrArg Lane.rxBuf h :)⟩
  · obtain ⟨hsame, hmis, hdup, hfol⟩ := State.id_facts hf hst hp hg
    refine ⟨hsame, hmis, hdup, fun h1 h2 h3 => ?_⟩
    rw [← State.setRxId_of_follow h2]
    exact hfol h1 h2 h3
  · obtain ⟨h1, h2, h3, h4, h5⟩ := State.lost_locked h hc hst
    exact ⟨h1, h2, h3, h4, h5, State.lost_captures h hc hst, State.lost_sends h hc hst⟩

end Sys2Proof.Machine
end

section
/-! The marker channel: octets acknowledged and taken, records assembled, inbound records. -/

namespace Sys2Proof.Machine

variable {s t u v : State} {l k : LaneNo} {X Y Z : Lane} {b : Block} {m : Marker} {o : Octet}

/-! ### What the receiving side keeps -/

/-- The marker channel stays UP or DOWN, and keeps the toggle of the last octet taken. -/
structure State.Tuned (s t : State) : Prop where
  up : t.link.up = s.link.up
  lastTaken : t.link.lastTaken = s.link.lastTaken

namespace State.Tuned

theorem refl : s.Tuned s := ⟨rfl, rfl⟩

theorem trans (h : s.Tuned t) (h' : t.Tuned u) : s.Tuned u := ⟨h'.up.trans h.up, h'.lastTaken.trans h.lastTaken⟩

theorem notify (n : Notice) : s.Tuned (s.notify n) := by
  unfold State.notify
  split <;> exact ⟨rfl, rfl⟩

theorem joinOutbound (r : PeerRec) : s.Tuned (s.joinOutbound r) := ite_keeps (fun _ => ⟨rfl, rfl⟩) fun _ => ⟨rfl, rfl⟩

theorem inboundRecord (r : PeerRec) : s.Tuned (s.inboundRecord r) := by
  have hsup : s.Tuned { s with sup := { s.sup with armed := false, warned := false } } := ⟨rfl, rfl⟩
  refine hsup.trans (ite_keeps (fun _ => ite_keeps (fun _ => ite_keeps (fun _ => ?_) fun _ => joinOutbound _)
    fun _ => joinOutbound _) fun _ => ite_keeps (fun _ => refl) fun _ => notify _)
  exact ⟨rfl, rfl⟩

theorem assemble (o : Octet) (e : Bool) : s.Tuned (s.assemble o e) := by
  have hmod : ∀ {f : Link → Link}, (∀ x, (f x).up = x.up ∧ (f x).lastTaken = x.lastTaken) → s.Tuned (s.modLink f) :=
    fun hf => ⟨(hf _).1, (hf _).2⟩
  refine ite_keeps (fun _ => ite_keeps (fun _ => hmod fun _ => ⟨rfl, rfl⟩) fun _ => refl) fun _ => ite_keeps (fun _ => ?_) fun _ => ?_
  · have hempty : s.Tuned (s.modLink fun k => { k with asm := [] }) := hmod fun _ => ⟨rfl, rfl⟩
    exact ite_keeps (fun _ => hempty.trans (ite_keeps (fun _ => inboundRecord _) fun _ => notify _)) fun _ => hempty.trans (notify _)
  · exact ite_keeps (fun _ => (hmod (f := fun k => { k with asm := [], skipping := true }) fun _ => ⟨rfl, rfl⟩).trans (notify _))
      fun _ => hmod fun _ => ⟨rfl, rfl⟩

end State.Tuned

theorem State.handshake_of_chan (h : t.chan = s.chan) : t.handshake = s.handshake := by
  unfold State.handshake
  rw [h]

theorem State.handshake_assemble (o : Octet) (e : Bool) : (s.assemble o e).handshake = s.handshake :=
  State.handshake_of_chan (State.Rooted.of_channels (.assemble o e)).chan

/-! ### Acknowledging and taking octets -/

theorem State.ackOctet_taken (h1 : s.link.up = true) (h2 : s.handshake = true) (h3 : m.resume = true)
    (h4 : m.resumeToggle = s.link.sendToggle) {r : PeerRec} {rest : List PeerRec} (ho : s.link.outbound = r :: rest) :
    s.ackOctet m = s.modLink fun k => { k.advance with sendToggle := !k.sendToggle } := by
  unfold State.ackOctet
  exact if_pos (by simp [h1, h2, h3, h4, ho])

theorem State.ackOctet_none (h : s.handshake = false ∨ m.resume = false ∨ m.resumeToggle ≠ s.link.sendToggle ∨ s.link.outbound = []) :
    s.ackOctet m = s := by
  unfold State.ackOctet
  refine if_neg ?_
  simp only [Bool.and_eq_true, beq_iff_eq, Bool.not_eq_true', List.isEmpty_eq_false_iff]
  rintro ⟨⟨⟨⟨-, h2⟩, h3⟩, h4⟩, h5⟩
  rcases h with h | h | h | h
  · exact Bool.false_ne_true (h.symm.trans h2)
  · exact Bool.false_ne_true (h.symm.trans h3)
  · exact h h4
  · exact h5 h

theorem State.takeOctet_taken (hs : s.handshake = true) (h1 : m.word = true) (h2 : m.toggle ≠ s.link.lastTaken) :
    s.takeOctet m = State.assemble { s with link := { s.link with lastTaken := m.toggle, resume := true } } m.octet m.recordEnd := by
  unfold State.takeOctet
  rw [if_pos hs, if_pos (by simp [h1, h2])]
  rfl

theorem State.takeOctet_none (hs : s.handshake = true) (h : m.word = false ∨ m.toggle = s.link.lastTaken) : s.takeOctet m = s := by
  unfold State.takeOctet
  rw [if_pos hs, if_neg]
  rcases h with h | h <;> simp [h]

/-- R158: the same marker again gives nothing. -/
theorem State.takeOctet_again (hs : s.handshake = true) : (s.takeOctet m).takeOctet m = s.takeOctet m := by
  by_cases h : m.word = true ∧ m.toggle ≠ s.link.lastTaken
  · rw [State.takeOctet_taken hs h.1 h.2]
    refine State.takeOctet_none ((State.handshake_assemble ..).trans hs) (.inr ?_)
    exact ((State.Tuned.assemble (s := { s with link := { s.link with lastTaken := m.toggle, resume := true } }) _ _).lastTaken).symm
  · have hno : m.word = false ∨ m.toggle = s.link.lastTaken := by
      rw [Bool.eq_false_iff]
      exact (Decidable.not_and_iff_not_or_not.mp h).imp_right Decidable.not_not.mp
    rw [State.takeOctet_none hs hno, State.takeOctet_none hs hno]

/-! ### The inbound assembly (R155) -/

theorem State.assemble_skipping (h : s.link.skipping = true) (o : Octet) : s.assemble o false = s ∧
    s.assemble o true = { s with link := { s.link with skipping := false, asm := [] } } := by
  unfold State.assemble
  rw [if_pos h, if_pos h]
  exact ⟨rfl, rfl⟩

section assembling
variable (h : s.link.skipping = false)
include h

/-- An octet that goes on with a record. -/
theorem State.assemble_more {a : List Octet} (ha : a = s.link.asm ++ [o]) (h1 : a.length < 5 ∨ a.length ≠ 5 + (a.getD 3 0).toNat)
    (h2 : a.length ≠ 4 ∨ (a.getD 3 0).toNat ≤ 59) : s.assemble o false = { s with link := { s.link with asm := a } } := by
  unfold State.assemble
  dsimp only
  rw [if_neg (Bool.eq_false_iff.mp h), ← ha, if_neg Bool.false_ne_true, if_neg]
  · rfl
  · simp only [Bool.or_eq_true, Bool.and_eq_true, decide_eq_true_eq, beq_iff_eq]
    omega

/-- An octet past which no record can go on. -/
theorem State.assemble_faulty {a : List Octet} (ha : a = s.link.asm ++ [o])
    (h1 : (5 ≤ a.length ∧ a.length = 5 + (a.getD 3 0).toNat) ∨ (a.length = 4 ∧ 59 < (a.getD 3 0).toNat)) :
    s.assemble o false = State.notify { s with link := { s.link with asm := [], skipping := true } } (.protocolFault .channelFormat none) := by
  unfold State.assemble
  dsimp only
  rw [if_neg (Bool.eq_false_iff.mp h), ← ha, if_neg Bool.false_ne_true, if_pos]
  · rfl
  · simp only [Bool.or_eq_true, Bool.and_eq_true, decide_eq_true_eq, beq_iff_eq]
    omega

theorem State.assemble_whole {a : List Octet} (ha : a = s.link.asm ++ [o]) (h1 : 5 ≤ a.length) (h2 : a.length = 5 + (a.getD 3 0).toNat)
    (h3 : (a.getD 3 0).toNat ≤ 59) : s.assemble o true = State.completeRecord { s with link := { s.link with asm := [] } } a := by
  unfold State.assemble
  dsimp only
  rw [if_neg (Bool.eq_false_iff.mp h), ← ha, if_pos rfl, if_pos]
  · rfl
  · simp only [Bool.and_eq_true, decide_eq_true_eq, beq_iff_eq]
    exact ⟨⟨h1, h2⟩, h3⟩

theorem State.assemble_partial {a : List Octet} (ha : a = s.link.asm ++ [o])
    (h1 : a.length < 5 ∨ a.length ≠ 5 + (a.getD 3 0).toNat ∨ 59 < (a.getD 3 0).toNat) :
    s.assemble o true = State.notify { s with link := { s.link with asm := [] } } (.protocolFault .channelFormat none) := by
  unfold State.assemble
  dsimp only
  rw [if_neg (Bool.eq_false_iff.mp h), ← ha, if_pos rfl, if_neg]
  · rfl
  · simp only [Bool.and_eq_true, decide_eq_true_eq, beq_iff_eq]
    omega

/-- A record's first octets, each taken without RECORD_END. -/
theorem State.assemble_prefix {r : PeerRec} (hlen : r.body.length ≤ 59) (n : Nat) (hn : n < r.octets.length) (hasm : s.link.asm = []) :
    (r.octets.take n).foldl (fun u x => u.assemble x false) s = { s with link := { s.link with asm := r.octets.take n } } := by
  have hoct : r.octets.length = 5 + r.body.length := by
    rw [PeerRec.octets, List.length_append]
    rfl
  induction n with
  | zero =>
    rw [List.take_zero, List.foldl_nil, ← hasm]
  | succ n ih =>
    have hget : r.octets.take (n + 1) = r.octets.take n ++ [r.octets[n]] := (List.take_append_getElem (by omega)).symm
    have hlen' : (r.octets.take (n + 1)).length = n + 1 := by rw [List.length_take]; omega
    have hfour : 3 < n + 1 → ((r.octets.take (n + 1)).getD 3 0).toNat = r.body.length := by
      intro h3
      rw [List.getD_eq_getElem _ _ (by omega), List.getElem_take]
      change (BitVec.ofNat 8 r.body.length).toNat = _
      rw [BitVec.toNat_ofNat, Nat.mod_eq_of_lt (by omega)]
    rw [hget, List.foldl_append, ih (by omega), List.foldl_cons, List.foldl_nil, ← hget]
    refine (State.assemble_more (s := { s with link := { s.link with asm := r.octets.take n } }) h hget ?_ ?_).trans rfl
    · rw [hlen']
      by_cases h3 : 3 < n + 1
      · rw [hfour h3]
        omega
      · omega
    · rw [hlen']
      by_cases h3 : 3 < n + 1
      · rw [hfour h3]
        omega
      · omega

/-- The octets of a record make the record. -/
theorem State.assemble_record {r : PeerRec} (hasm : s.link.asm = []) (hlen : r.body.length ≤ 59) (h1 : 1 ≤ r.kind.toNat)
    (h4 : r.kind.toNat ≤ 4) (hlast : r.octets.getLast? = some o) :
    (r.octets.dropLast.foldl (fun u x => u.assemble x false) s).assemble o true = s.inboundRecord r := by
  have hoct : r.octets.length = 5 + r.body.length := by
    rw [PeerRec.octets, List.length_append]
    rfl
  have hall : r.octets = r.octets.dropLast ++ [o] := (List.dropLast_append_getLast? _ hlast).symm
  have hthree : (r.octets.getD 3 0).toNat = r.body.length := by
    change (BitVec.ofNat 8 r.body.length).toNat = _
    rw [BitVec.toNat_ofNat, Nat.mod_eq_of_lt (by omega)]
  have hpre := State.assemble_prefix h hlen (r.octets.length - 1) (by omega) hasm
  rw [← List.dropLast_eq_take] at hpre
  rw [hpre, State.assemble_whole (s := { s with link := { s.link with asm := r.octets.dropLast } }) h hall (by omega)
    (by rw [hthree, hoct]) (by rw [hthree]; exact hlen)]
  have hs : ({ s with link := { s.link with asm := [] } } : State) = s := by rw [← hasm]
  refine (congrArg (fun t : State => t.completeRecord r.octets) hs).trans ?_
  unfold State.completeRecord
  exact if_pos ⟨h1, h4⟩

end assembling

/-! ### Inbound records (R160) -/

theorem State.inboundRecord_command {r : PeerRec} (hk : r.kind = 1) : s.inboundRecord r =
    if s.permit.contains r.code then
      if s.cmdQ.length < 8 then
        { s with
          sup := { s.sup with armed := false, warned := false }
          cmdQ := s.cmdQ ++ [⟨.remote, r.code, r.tag, r.target, 0, 0, packOctets 8 r.body⟩] }
      else State.joinOutbound { s with sup := { s.sup with armed := false, warned := false } } (peerResponse r.code r.tag .busy [])
    else State.joinOutbound { s with sup := { s.sup with armed := false, warned := false } } (peerResponse r.code r.tag .denied []) :=
  if_pos hk

theorem State.inboundRecord_keepalive {r : PeerRec} (hk : r.kind = 4) :
    s.inboundRecord r = { s with sup := { s.sup with armed := false, warned := false } } := by
  unfold State.inboundRecord
  dsimp only
  rw [if_neg (by rw [hk]; decide), if_pos hk]

theorem State.inboundRecord_passed {r : PeerRec} (hk : r.kind = 2 ∨ r.kind = 3) :
    s.inboundRecord r = State.notify { s with sup := { s.sup with armed := false, warned := false } } (.peerRecord r) := by
  unfold State.inboundRecord
  dsimp only
  rw [if_neg (by rcases hk with hk | hk <;> rw [hk] <;> decide), if_neg (by rcases hk with hk | hk <;> rw [hk] <;> decide)]

theorem State.sup_joinOutbound (r : PeerRec) : (s.joinOutbound r).sup = s.sup :=
  ite_keeps (P := fun t => t.sup = s.sup) (fun _ => rfl) fun _ => rfl

theorem State.sup_inboundRecord (r : PeerRec) : (s.inboundRecord r).sup = { s.sup with armed := false, warned := false } := by
  unfold State.inboundRecord
  refine ite_keeps (P := fun t => t.sup = _) (fun _ => ite_keeps (P := fun t => t.sup = _) (fun _ => ite_keeps (P := fun t => t.sup = _)
    (fun _ => rfl) fun _ => State.sup_joinOutbound _) fun _ => State.sup_joinOutbound _) fun _ =>
    ite_keeps (P := fun t => t.sup = _) (fun _ => rfl) fun _ => (congrArg Fixed.sup (State.notify_fixed ..) :)

theorem State.inboundRecord_facts (s : State) (r : PeerRec) : ∃ t, s.inboundRecord r = t ∧
     t.sup.armed = false ∧ t.sup.warned = false ∧ t.sup.ticks = s.sup.ticks ∧ t.lanes = s.lanes ∧ t.groups = s.groups ∧
     ({ t with link := s.link, sup := s.sup, cmdQ := s.cmdQ } : State).fixed = s.fixed ∧
     (r.kind = 1 → r.code ∈ s.permit → s.cmdQ.length < 8 →
       t.cmdQ = s.cmdQ ++ [⟨.remote, r.code, r.tag, r.target, 0, 0, packOctets 8 r.body⟩] ∧ t.link = s.link ∧
       t.egress = s.egress) ∧
     (r.kind = 1 → r.code ∈ s.permit → 8 ≤ s.cmdQ.length → s.link.outbound.length < 4 →
       t.cmdQ = s.cmdQ ∧ t.link.outbound = s.link.outbound ++ [⟨2, r.code, r.tag, 1, []⟩]) ∧
     (r.kind = 1 → r.code ∉ s.permit → s.link.outbound.length < 4 →
       t.cmdQ = s.cmdQ ∧ t.link.outbound = s.link.outbound ++ [⟨2, r.code, r.tag, 7, []⟩]) ∧
     (r.kind = 4 → t = { s with sup := { s.sup with armed := false, warned := false } }) ∧
     (r.kind = 2 ∨ r.kind = 3 → s.egress.length ≤ 11 →
       t.egress = s.egress ++ [noticeRec (.peerRecord r)] ∧ t.cmdQ = s.cmdQ ∧ t.link = s.link) := by
  have hch := State.Channels.inboundRecord (s := s) r
  have hsup := State.sup_inboundRecord (s := s) r
  refine ⟨_, rfl, by rw [hsup], by rw [hsup], by rw [hsup], hch.lanes, hch.groups, ?_, fun hk hp hq => ?_, fun hk hp hq ho => ?_,
    fun hk hp ho => ?_, State.inboundRecord_keepalive, fun hk hroom => ?_⟩
  · obtain ⟨_, _, _, _, _, e⟩ := hch
    rw [e]
    rfl
  · rw [State.inboundRecord_command hk, if_pos (List.contains_iff_mem.mpr hp), if_pos hq]
    exact ⟨rfl, rfl, rfl⟩
  · rw [State.inboundRecord_command hk, if_pos (List.contains_iff_mem.mpr hp), if_neg (Nat.not_lt.mpr hq),
      State.joinOutbound_of_room (by exact ho)]
    exact ⟨rfl, rfl⟩
  · rw [State.inboundRecord_command hk, if_neg (fun h => hp (List.contains_iff_mem.mp h)), State.joinOutbound_of_room (by exact ho)]
    exact ⟨rfl, rfl⟩
  · rw [State.inboundRecord_passed hk, State.notify_of_room (by exact hroom)]
    exact ⟨rfl, rfl, rfl⟩

end Sys2Proof.Machine
end

section
/-! The marker channel at a received block. -/

namespace Sys2Proof.Machine

variable {s t u v w : State} {l k : LaneNo} {X Y Z : Lane} {b : Block} {m : Marker} {o : Octet}

/-! ### What the marker channel depends on -/

/-- The marker channel, the command queue and the supervisor stand alike in `s` and `t`, and so does what their operations read. -/
structure State.Twin (s t : State) : Prop where
  link : t.link = s.link
  cmdQ : t.cmdQ = s.cmdQ
  sup : t.sup = s.sup
  chan : t.chan = s.chan
  permit : t.permit = s.permit

namespace State.Twin

theorem refl : s.Twin s := ⟨rfl, rfl, rfl, rfl, rfl⟩

theorem trans (h : s.Twin t) (h' : t.Twin u) : s.Twin u :=
  ⟨h'.link.trans h.link, h'.cmdQ.trans h.cmdQ, h'.sup.trans h.sup, h'.chan.trans h.chan, h'.permit.trans h.permit⟩

theorem of_fixed (h : t.fixed = s.fixed) : s.Twin t :=
  ⟨(congrArg Fixed.link h :), (congrArg Fixed.cmdQ h :), (congrArg Fixed.sup h :), (congrArg Fixed.chan h :), (congrArg Fixed.permit h :)⟩

theorem isMgmt (h : s.Twin t) (l : LaneNo) : t.isMgmt l = s.isMgmt l := by rw [State.isMgmt, h.chan, State.isMgmt]

theorem remoteEnable (h : s.Twin t) : t.remoteEnable = s.remoteEnable := by rw [State.remoteEnable, h.chan, State.remoteEnable]

theorem notify (h : s.Twin t) (n : Notice) : (s.notify n).Twin (t.notify n) :=
  have hs : (s.notify n).Twin s := of_fixed (State.notify_fixed ..).symm
  hs.trans (h.trans (of_fixed (State.notify_fixed ..)))

theorem modLink (h : s.Twin t) (f : Link → Link) : (s.modLink f).Twin (t.modLink f) :=
  ⟨congrArg f h.link, h.cmdQ, h.sup, h.chan, h.permit⟩

/-- Two choices by one condition. -/
theorem ite {c : Prop} [Decidable c] {s1 s2 t1 t2 : State} (h1 : s1.Twin t1) (h2 : s2.Twin t2) :
    (if c then s1 else s2).Twin (if c then t1 else t2) := by
  split
  · exact h1
  · exact h2

theorem joinOutbound (h : s.Twin t) (r : PeerRec) : (s.joinOutbound r).Twin (t.joinOutbound r) := by
  unfold State.joinOutbound
  rw [h.link]
  exact ite (h.modLink _) (h.modLink _)

theorem inboundRecord (h : s.Twin t) (r : PeerRec) : (s.inboundRecord r).Twin (t.inboundRecord r) := by
  have hsup : ({ s with sup := { s.sup with armed := false, warned := false } } : State).Twin
      { t with sup := { t.sup with armed := false, warned := false } } :=
    ⟨h.link, h.cmdQ, congrArg (fun p : Supervisor => { p with armed := false, warned := false }) h.sup, h.chan, h.permit⟩
  have hjoined : ∀ c, ({ s with sup := { s.sup with armed := false, warned := false }, cmdQ := s.cmdQ ++ [c] } : State).Twin
      { t with sup := { t.sup with armed := false, warned := false }, cmdQ := t.cmdQ ++ [c] } := fun c =>
    ⟨h.link, congrArg (· ++ [c]) h.cmdQ, hsup.sup, h.chan, h.permit⟩
  have hpermit : t.permit.contains r.code = s.permit.contains r.code := by rw [h.permit]
  unfold State.inboundRecord
  dsimp only
  rw [hpermit]
  refine ite (ite ?_ (hsup.joinOutbound _)) (ite hsup (hsup.notify _))
  have hlen : t.cmdQ.length < 8 ↔ s.cmdQ.length < 8 := by rw [h.cmdQ]
  by_cases hq : s.cmdQ.length < 8
  · rw [if_pos hq, if_pos (hlen.mpr hq)]
    exact hjoined _
  · rw [if_neg hq, if_neg (fun h => hq (hlen.mp h))]
    exact hsup.joinOutbound _

theorem completeRecord (h : s.Twin t) (os : List Octet) : (s.completeRecord os).Twin (t.completeRecord os) :=
  ite (h.inboundRecord _) (h.notify _)

theorem assemble (h : s.Twin t) (o : Octet) (e : Bool) : (s.assemble o e).Twin (t.assemble o e) := by
  unfold State.assemble
  dsimp only
  rw [h.link]
  refine ite (ite (h.modLink _) h) (ite (ite ?_ ?_) (ite ?_ (h.modLink _)))
  · exact (h.modLink _).completeRecord _
  · exact (h.modLink _).notify _
  · exact (h.modLink _).notify _

theorem takeOctet (h : s.Twin t) (m : Marker) : (s.takeOctet m).Twin (t.takeOctet m) := by
  unfold State.takeOctet
  rw [State.handshake_of_chan h.chan, h.link]
  exact ite (ite ((h.modLink _).assemble _ _) h) (ite (h.assemble _ _) h)

theorem ackOctet (h : s.Twin t) (m : Marker) : (s.ackOctet m).Twin (t.ackOctet m) := by
  unfold State.ackOctet
  rw [State.handshake_of_chan h.chan, h.link]
  exact ite (h.modLink _) h

theorem takeChannelFields (h : s.Twin t) (l : LaneNo) (m : Marker) : (s.takeChannelFields l m).Twin (t.takeChannelFields l m) := by
  unfold State.takeChannelFields
  rw [h.isMgmt, h.link]
  exact ite ((h.ackOctet m).takeOctet m) h

theorem linkAligned (h : s.Twin t) (l : LaneNo) : (s.linkAligned l).Twin (t.linkAligned l) := by
  unfold State.linkAligned
  rw [h.isMgmt, h.remoteEnable, h.link]
  exact ite (h.modLink _) h

theorem linkLeft (h : s.Twin t) (l : LaneNo) : (s.linkLeft l).Twin (t.linkLeft l) := by
  unfold State.linkLeft State.linkDepart
  dsimp only
  rw [h.isMgmt, h.link]
  exact ite (ite ((h.modLink _).notify _) (h.modLink _)) h

/-! ### Operations of a marker -/

theorem markerError (l : LaneNo) : s.Twin (s.markerError l) :=
  ite_keeps_of (P := fun t => s.Twin t) (fun h => h.trans (of_fixed (State.report_fixed ..))) (of_fixed rfl)

theorem markerErrorEntry (l : LaneNo) (q : FrameSeq) : s.Twin (s.markerErrorEntry l q) :=
  ite_keeps_of (P := fun t => s.Twin t) (fun h => h.trans (of_fixed (State.offerEvent_fixed ..))) refl

theorem frameBoundary (l : LaneNo) (q : FrameSeq) : s.Twin (s.frameBoundary l q) :=
  of_fixed ((State.groupBoundary_fixed ..).trans (State.windowBoundary_fixed ..))

theorem identity (l r : LaneNo) (q : FrameSeq) : s.Twin (s.identity l r q) := by
  have hmis : ∀ reason, s.Twin (s.mismatch l r reason q) := fun reason => by
    have hidm : s.Twin (s.modLane l fun L => { L with idm := some ⟨reason, r⟩ }) := of_fixed rfl
    exact ite_keeps (P := fun t => s.Twin t) (fun _ => hidm) fun _ => ite_keeps_of (P := fun t => s.Twin t)
      (fun h => h.trans (of_fixed (State.offerEvent_fixed ..))) (hidm.trans (of_fixed (State.notify_fixed ..)))
  have hset : s.Twin ((s.setRxId l r).modLane l fun L => { L with idm := none }) := ⟨rfl, rfl, rfl, rfl, rfl⟩
  exact ite_keeps (P := fun t => s.Twin t) (fun _ => of_fixed rfl) fun _ => ite_keeps (P := fun t => s.Twin t) (fun _ => hmis _)
    fun _ => ite_keeps (P := fun t => s.Twin t) (fun _ => hmis _) fun _ => hset.trans (of_fixed (State.forceHunt_fixed ..))

theorem fireFrameSeq (l : LaneNo) (q : FrameSeq) : s.Twin (s.fireFrameSeq l q) :=
  ite_keeps_of (P := fun t => s.Twin t) (fun h => h.trans (of_fixed (State.fireTrigger_fixed ..))) refl

/-- A good marker accepted moves the marker channel by its fields alone. -/
theorem acceptMarker (l : LaneNo) (m : Marker) : (s.takeChannelFields l m).Twin (s.acceptMarker l m).settleHolds := by
  have hbefore : s.Twin (((((s.frameBoundary l m.seq).identity l m.id m.seq).fireFrameSeq l m.seq).modAl l fun a =>
      { a with far := .known m.lock m.alarm }).takePhase l m.phase) :=
    (frameBoundary l m.seq).trans ((identity l m.id m.seq).trans ((fireFrameSeq l m.seq).trans
      ((of_fixed rfl).trans (of_fixed (State.takePhase_fixed ..)))))
  exact (hbefore.takeChannelFields l m).trans (of_fixed ((State.settleHolds_fixed _).trans (State.endStep_fixed ..)))

theorem beforeGood (l : LaneNo) (m : Marker) : s.Twin (s.beforeGood l m) :=
  ite_keeps_of (P := fun t => s.Twin t) (fun h => h.trans ((markerError l).trans (markerErrorEntry l _))) (of_fixed rfl)

theorem beforeTrial (l : LaneNo) (m : Marker) : (s.linkAligned l).Twin (s.beforeTrial l m) := by
  have hal : s.Twin (s.modAl l fun a => { a with state := .aligned, pos := 0, trial := 0, miss := 0, seq := m.seq }) := of_fixed rfl
  exact (hal.linkAligned l).trans (of_fixed (State.noteAligned_fixed ..))

theorem badAligned (hm : (s.lane l).al.miss < 3) : s.Twin (s.badAligned l) := by
  have heq : s.badAligned l = ((((s.markerError l).modAl l fun a => { a with
      pos := 0, miss := (s.lane l).al.miss + 1, seq := (s.lane l).al.seq + 1 }).markerErrorEntry l ((s.lane l).al.seq + 1)).frameBoundary l
      ((s.lane l).al.seq + 1)).endStep l (some ((s.lane l).al.seq + 1)) := if_pos hm
  have hmod : s.Twin ((s.markerError l).modAl l fun a => { a with
      pos := 0, miss := (s.lane l).al.miss + 1, seq := (s.lane l).al.seq + 1 }) := (markerError l).trans (of_fixed rfl)
  rw [heq]
  exact hmod.trans ((markerErrorEntry l _).trans ((frameBoundary l _).trans (of_fixed (State.endStep_fixed ..))))

theorem lossChecked (l : LaneNo) (q last : FrameSeq) : s.Twin (s.lossChecked l q last) := by
  have hunts : s.Twin ((s.markerErrorEntry l q).enterHunt l) := (markerErrorEntry l q).trans (of_fixed (State.enterHunt_fixed ..))
  unfold State.lossChecked
  split
  · exact refl
  · split
    · exact (of_fixed (State.discardRun_fixed ..)).trans ((markerErrorEntry l q).trans (of_fixed (State.countLoss_fixed ..)))
    · exact hunts
    · exact hunts
    · exact markerErrorEntry l q

theorem lost (h : s.losesMarkers l b = true) : (s.linkLeft l).Twin (s.receive l b).settleHolds := by
  obtain ⟨-, -, he⟩ := State.receive_lost h
  have hbefore : s.Twin ((s.lossStart l).lossChecked l ((s.lane l).al.seq + 1) ((s.markerError l).lane l).al.seq) :=
    have hstart : s.Twin (s.lossStart l) := (markerError l).trans (of_fixed rfl)
    hstart.trans (lossChecked l _ _)
  rw [he, State.markerLoss_eq]
  exact (hbefore.linkLeft l).trans (of_fixed ((State.settleHolds_fixed _).trans (State.groupLeft_fixed ..)))

/-- No other block touches the marker channel. -/
theorem untouched (h1 : s.takesMarker l b = false) (h2 : s.losesMarkers l b = false) : s.Twin (s.receive l b).settleHolds := by
  have hsettle : ∀ {t : State}, s.Twin t → s.Twin t.settleHolds := fun h => h.trans (of_fixed (State.settleHolds_fixed _))
  rcases s.arrival l b with h | ⟨-, -, -, -, f, hf⟩ | h | ⟨hf, hst, hp, hg, hm⟩ | h
  · obtain ⟨fp, he⟩ := State.receive_passed h
    obtain ⟨hroot, -, -, -, hlink, hcmd, hsup⟩ := s.payload_facts l b ((s.lane l).al.passed (s.rxFramed l) (goodMarker b)) fp
    rw [he]
    exact hsettle ⟨hlink, hcmd, hsup, hroot.chan, hroot.permit⟩
  · rw [hf]
    exact hsettle (of_fixed rfl)
  · exact Bool.noConfusion (h1.symm.trans h)
  · rw [State.receive_bad hf hst hp hg]
    exact hsettle (badAligned hm)
  · exact Bool.noConfusion (h2.symm.trans h)

/-- A good marker taken: an entry to UP where it completes TRIAL, then its fields. -/
theorem taken (h : s.takesMarker l b = true) :
    ((s.lane l).al.state = .aligned ∧ (s.takeChannelFields l (readMarker b)).Twin (s.receive l b).settleHolds) ∨
    ((s.lane l).al.state = .trial ∧ ((s.linkAligned l).takeChannelFields l (readMarker b)).Twin (s.receive l b).settleHolds) := by
  unfold State.takesMarker at h
  simp only [Bool.and_eq_true, decide_eq_true_eq] at h
  obtain ⟨⟨⟨hf, hg⟩, hp⟩, hal⟩ := h
  cases hst : (s.lane l).al.state with
  | seek =>
    rw [hst] at hal
    exact Bool.noConfusion hal
  | trial =>
    rw [hst] at hal
    rw [State.receive_trial hf hst hp hg (of_decide_eq_true hal)]
    exact .inr ⟨rfl, ((beforeTrial l _).takeChannelFields l _).trans (acceptMarker l _)⟩
  | aligned =>
    rw [State.receive_good hf hst hp hg]
    exact .inl ⟨rfl, ((beforeGood l _).takeChannelFields l _).trans (acceptMarker l _)⟩

end State.Twin

/-! ### The channel's own steps -/

theorem State.takeChannelFields_down (h : s.isMgmt l = false ∨ s.link.up = false) : s.takeChannelFields l m = s := by
  refine if_neg ?_
  rw [Bool.and_eq_true]
  rintro ⟨h1, h2⟩
  rcases h with h | h
  · exact Bool.false_ne_true (h.symm.trans h1)
  · exact Bool.false_ne_true (h.symm.trans h2)

theorem State.takeChannelFields_up (h1 : s.isMgmt l = true) (h2 : s.link.up = true) :
    s.takeChannelFields l m = (s.ackOctet m).takeOctet m := if_pos (by rw [h1, h2]; rfl)

theorem State.linkAligned_none (h : s.isMgmt l = false ∨ s.remoteEnable = false ∨ s.link.up = true) : s.linkAligned l = s := by
  refine if_neg ?_
  simp only [Bool.and_eq_true, Bool.not_eq_true']
  rintro ⟨⟨h1, h2⟩, h3⟩
  rcases h with h | h | h
  · exact Bool.false_ne_true (h.symm.trans h1)
  · exact Bool.false_ne_true (h.symm.trans h2)
  · exact Bool.false_ne_true (h3.symm.trans h)

theorem State.up_received (h : s.link.up = true) : ((s.ackOctet m).takeOctet m).link.up = true := by
  have hadv : ∀ x : Link, x.advance.up = x.up := fun x => by
    unfold Link.advance
    split
    · rfl
    · split <;> rfl
  have hack : (s.ackOctet m).link.up = true :=
    ite_keeps (P := fun t => t.link.up = true) (fun _ => (hadv s.link).trans h) fun _ => h
  have htake : ((s.ackOctet m).takeOctet m).link.up = (s.ackOctet m).link.up :=
    ite_keeps (P := fun t => t.link.up = (s.ackOctet m).link.up)
      (fun _ => ite_keeps (P := fun t => t.link.up = (s.ackOctet m).link.up) (fun _ => (State.Tuned.assemble _ _).up) fun _ => rfl)
      fun _ => ite_keeps (P := fun t => t.link.up = (s.ackOctet m).link.up) (fun _ => (State.Tuned.assemble _ _).up) fun _ => rfl
  exact htake.trans hack

/-- R154: the departure from UP that a marker loss makes, and its notice, on a lane whose checker is OFF. -/
theorem State.lost_channel (h : s.losesMarkers l b = true) (h1 : s.isMgmt l = true) (h2 : s.link.up = true) :
    (s.receive l b).settleHolds.link = { s.link with up := false, sendIdx := 0, asm := [], skipping := false } ∧
    ((s.lane l).ck.state = .off → s.link.asm ≠ [] → s.egress.length ≤ 11 →
      ∃ more, (s.receive l b).settleHolds.egress = s.egress ++ noticeRec (.protocolFault .channelDown none) :: more) := by
  refine ⟨(State.Twin.lost h).link.trans ?_, fun hoff hasm hroom => ?_⟩
  · unfold State.linkLeft State.linkDepart
    rw [if_pos (by rw [h1, h2]; rfl)]
    exact ite_keeps_of (P := fun t => t.link = _) (fun h => (congrArg Fixed.link (State.notify_fixed ..) :).trans h) rfl
  · obtain ⟨-, -, he⟩ := State.receive_lost h
    have hX := s.lossStart_as l
    have heg0 : (s.lossStart l).egress = s.egress := by
      unfold State.lossStart State.markerError
      exact ite_keeps_of (P := fun t => t.egress = s.egress) (fun _ => rfl) rfl
    have hck : (s.lossStart l).lossChecked l ((s.lane l).al.seq + 1) ((s.markerError l).lane l).al.seq = s.lossStart l := by
      have hoff' : (s.lossStart l).ckOff l = true := by
        rw [hX.ckOff, s.lossLane_ck, hoff]
        rfl
      unfold State.lossChecked
      split
      · rfl
      · rw [hX.ck, s.lossLane_ck, hoff]
        unfold State.markerErrorEntry
        rw [hoff']
        rfl
    have htwin : s.Twin (s.lossStart l) := (State.Twin.markerError l).trans (.of_fixed rfl)
    have hleft : ((s.lossStart l).linkLeft l).egress = s.egress ++ [noticeRec (.protocolFault .channelDown none)] := by
      have hpart : (!(s.lossStart l).link.asm.isEmpty) = true := by
        rw [htwin.link]
        simpa [List.isEmpty_iff] using hasm
      unfold State.linkLeft State.linkDepart
      dsimp only
      rw [htwin.isMgmt, h1, htwin.link, h2, if_pos (show (true && true) = true from rfl), ← htwin.link, if_pos hpart,
        State.notify_of_room (by rw [State.modLink]; exact le_of_eq_of_le (congrArg List.length heg0) hroom)]
      exact congrArg (· ++ [noticeRec (.protocolFault .channelDown none)]) heg0
    rw [he, State.markerLoss_eq, hck]
    have hgroup := (GroupKept.sends (s.egress ++ [noticeRec (.protocolFault .channelDown none)])).groupLeft l
      ⟨[], hleft.trans (List.append_nil _).symm⟩
    obtain ⟨more, hmore⟩ := Measured.settleHolds
      (fun k => Measured.sends k (s.egress ++ [noticeRec (.protocolFault .channelDown none)])) id hgroup
    exact ⟨more, by rw [hmore, List.append_assoc]; rfl⟩

/-- Settles O43: the channel at a received block, its octets, its assembly and its records. -/
theorem inboundOctetsAndRecords : Obligations.InboundOctetsAndRecords := by
  refine ⟨fun s l b => ⟨_, exec_receiveBlock, ?_⟩, fun s m => ?_, fun s o => ?_, State.inboundRecord_facts⟩
  · have hboth : s.takesMarker l b = true → s.losesMarkers l b = true → False := fun h1 h2 => by
      unfold State.takesMarker at h1
      unfold State.losesMarkers at h2
      simp only [Bool.and_eq_true, Bool.not_eq_true'] at h1 h2
      exact Bool.false_ne_true (h2.1.2.symm.trans h1.1.1.2)
    have hleft : s.isMgmt l = false → s.linkLeft l = s := fun h => if_neg (by rw [h]; exact Bool.false_ne_true)
    refine ⟨fun h1 h2 => ?_, fun hno => ?_, fun h hal hdown => ?_, fun h hal hdown hoff => ?_, fun h hm hup => ?_,
      fun u h hal hm he hdown hu => ?_, fun h hm hup => State.lost_channel h hm hup⟩
    · have ht := State.Twin.untouched h1 h2
      exact ⟨ht.link, ht.cmdQ, ht.sup⟩
    · have ht : s.Twin (s.receive l b).settleHolds := by
        cases h1 : s.takesMarker l b with
        | true =>
          rcases State.Twin.taken h1 with ⟨-, h⟩ | ⟨-, h⟩
          · rwa [State.takeChannelFields_down (.inl hno)] at h
          · rwa [State.linkAligned_none (.inl hno), State.takeChannelFields_down (.inl hno)] at h
        | false =>
          cases h2 : s.losesMarkers l b with
          | true =>
            have h := State.Twin.lost h2
            rwa [hleft hno] at h
          | false => exact State.Twin.untouched h1 h2
      exact ⟨ht.link, ht.cmdQ, ht.sup⟩
    · rcases State.Twin.taken h with ⟨-, ht⟩ | ⟨hst, -⟩
      · rw [State.takeChannelFields_down (.inr hdown)] at ht
        exact ht.link
      · exact absurd (hst.symm.trans hal) (by decide)
    · rcases State.Twin.taken h with ⟨hst, -⟩ | ⟨-, ht⟩
      · exact absurd (hst.symm.trans hal) (by decide)
      · rw [State.linkAligned_none (.inr (.inl hoff)), State.takeChannelFields_down (.inr hdown)] at ht
        exact ht.link
    · have ht : ((s.ackOctet (readMarker b)).takeOctet (readMarker b)).Twin (s.receive l b).settleHolds := by
        rcases State.Twin.taken h with ⟨-, ht⟩ | ⟨-, ht⟩
        · rwa [State.takeChannelFields_up hm hup] at ht
        · rwa [State.linkAligned_none (.inr (.inr hup)), State.takeChannelFields_up hm hup] at ht
      exact ⟨ht.link, ht.cmdQ, ht.sup⟩
    · rcases State.Twin.taken h with ⟨hst, -⟩ | ⟨-, ht⟩
      · exact absurd (hst.symm.trans hal) (by decide)
      · have hlink : s.linkAligned l = u := by
          unfold State.linkAligned
          rw [if_pos (by rw [hm, he, hdown]; rfl), hu]
          rfl
        have hu1 : u.isMgmt l = true := by rw [hu]; exact hm
        have hu2 : u.link.up = true := by rw [hu]
        rw [hlink, State.takeChannelFields_up hu1 hu2] at ht
        exact ⟨ht.link, (congrArg Link.up ht.link).trans (State.up_received hu2)⟩
  · refine ⟨fun h1 h2 h3 h4 r rest ho => ⟨fun hlt => ?_, fun hle => ?_⟩, State.ackOctet_none, fun hs => ⟨State.takeOctet_taken hs,
      State.takeOctet_none hs, State.takeOctet_again hs⟩, fun hs => ⟨fun hw => ?_, fun hw => ?_⟩⟩
    · rw [State.ackOctet_taken h1 h2 h3 h4 ho, State.modLink, Link.advance_of_sending ho, if_pos hlt]
    · rw [State.ackOctet_taken h1 h2 h3 h4 ho, State.modLink, Link.advance_of_sending ho, if_neg (by omega)]
    · unfold State.takeOctet
      rw [hs, if_neg Bool.false_ne_true, if_pos hw]
    · unfold State.takeOctet
      rw [hs, if_neg Bool.false_ne_true, hw, if_neg Bool.false_ne_true]
  · refine ⟨fun h => State.assemble_skipping h o, fun h a n ha hn => ?_, fun r h hasm hlen h1 h4 hlast =>
      State.assemble_record h hasm hlen h1 h4 hlast⟩
    subst hn
    refine ⟨fun h1 h2 h3 => ⟨fun hk => ?_, fun hk => ?_⟩, State.assemble_partial h ha, State.assemble_faulty h ha, State.assemble_more h ha⟩
    · rw [State.assemble_whole h ha h1 h2 h3]
      exact if_pos hk
    · rw [State.assemble_whole h ha h1 h2 h3]
      refine if_neg fun hk' => ?_
      change 1 ≤ (a.getD 0 0).toNat ∧ (a.getD 0 0).toNat ≤ 4 at hk'
      omega

end Sys2Proof.Machine
end

section
/-! The group aligner's own arithmetic: the leading sequence and what its move does, spans, and what retires from the ring. -/

namespace Sys2Proof.Machine

variable {s t u : State} {l k : LaneNo} {g : GroupId} {gr : Group} {w : GWin} {a b q v z : FrameSeq}

/-! ### The leading sequence -/

/-- R66: the sequences of the ALIGNED members that none is ahead of. -/
def State.topSeqs (s : State) (g : GroupId) : List FrameSeq :=
  ((s.alignedMembers g).filter fun i =>
    (s.alignedMembers g).all fun j => !ahead (s.lane j).al.seq (s.lane i).al.seq).map fun i => (s.lane i).al.seq

theorem State.mem_alignedMembers : l ∈ s.alignedMembers g ↔ s.isMember g l = true ∧ s.aligned l = true := by
  rw [State.alignedMembers, List.mem_filter, Bool.and_eq_true]
  exact and_iff_right (mem_lanesAll l)

theorem State.mem_topSeqs : v ∈ s.topSeqs g ↔ ∃ i ∈ s.alignedMembers g,
    (s.lane i).al.seq = v ∧ ∀ j ∈ s.alignedMembers g, ahead (s.lane j).al.seq (s.lane i).al.seq = false := by
  simp only [State.topSeqs, List.mem_map, List.mem_filter, List.all_eq_true, Bool.not_eq_true']
  exact ⟨fun ⟨i, ⟨hi, htop⟩, hv⟩ => ⟨i, hi, hv, htop⟩, fun ⟨i, hi, hv, htop⟩ => ⟨i, ⟨hi, htop⟩, hv⟩⟩

theorem State.leadingOf_of_top (hv : v ∈ s.topSeqs g) (hall : ∀ x ∈ s.topSeqs g, x = v) : s.leadingOf g = some v := by
  change (match s.topSeqs g with
    | v :: rest => if rest.all (fun x => x == v) then some v else (s.alignedMembers g).head?.map fun i => (s.lane i).al.seq
    | [] => (s.alignedMembers g).head?.map fun i => (s.lane i).al.seq) = _
  cases htops : s.topSeqs g with
  | nil => rw [htops] at hv; exact (nomatch hv)
  | cons x rest =>
    rw [htops] at hall
    have hx := hall x (List.mem_cons_self ..)
    subst hx
    exact if_pos (List.all_eq_true.mpr fun y hy => beq_iff_eq.mpr (hall y (List.mem_cons_of_mem _ hy)))

theorem State.leadingOf_of_no_top (h : ∀ v ∈ s.topSeqs g, ∃ x ∈ s.topSeqs g, x ≠ v) :
    s.leadingOf g = (s.alignedMembers g).head?.map fun i => (s.lane i).al.seq := by
  change (match s.topSeqs g with
    | v :: rest => if rest.all (fun x => x == v) then some v else (s.alignedMembers g).head?.map fun i => (s.lane i).al.seq
    | [] => (s.alignedMembers g).head?.map fun i => (s.lane i).al.seq) = _
  cases htops : s.topSeqs g with
  | nil => rfl
  | cons v rest =>
    rw [htops] at h
    obtain ⟨x, hx, hne⟩ := h v (List.mem_cons_self ..)
    refine if_neg fun hall => hne ?_
    rcases List.mem_cons.mp hx with rfl | hx
    · rfl
    · exact beq_iff_eq.mp (List.all_eq_true.mp hall x hx)

/-- The ALIGNED member with the smallest number stands first. -/
theorem State.alignedMembers_head (hl : l ∈ s.alignedMembers g) (hmin : ∀ k ∈ s.alignedMembers g, l ≤ k) :
    (s.alignedMembers g).head? = some l := by
  have hsorted : (s.alignedMembers g).Pairwise (· < ·) :=
    List.Pairwise.filter _ (show lanesAll.Pairwise (· < ·) by decide)
  cases hms : s.alignedMembers g with
  | nil => rw [hms] at hl; exact (nomatch hl)
  | cons m ms =>
    rw [hms] at hl hmin hsorted
    rcases List.mem_cons.mp hl with rfl | hl
    · rfl
    · exact absurd (hmin m (List.mem_cons_self ..)) (not_le.mpr ((List.pairwise_cons.mp hsorted).1 l hl))

theorem State.leadingOf_smallest (hl : l ∈ s.alignedMembers g) (hmin : ∀ k ∈ s.alignedMembers g, l ≤ k)
    (h : (∀ i ∈ s.alignedMembers g, ∃ j ∈ s.alignedMembers g, ahead (s.lane j).al.seq (s.lane i).al.seq = true) ∨
      ∃ i ∈ s.alignedMembers g, ∃ k ∈ s.alignedMembers g, (s.lane i).al.seq ≠ (s.lane k).al.seq ∧
        ∀ j ∈ s.alignedMembers g,
          ahead (s.lane j).al.seq (s.lane i).al.seq = false ∧ ahead (s.lane j).al.seq (s.lane k).al.seq = false) :
    s.leadingOf g = some (s.lane l).al.seq := by
  refine (State.leadingOf_of_no_top fun v hv => ?_).trans (by rw [State.alignedMembers_head hl hmin]; rfl)
  rcases h with hnone | ⟨i, hi, k, hk, hne, htop⟩
  · obtain ⟨i, hi, -, htop⟩ := State.mem_topSeqs.mp hv
    obtain ⟨j, hj, hahead⟩ := hnone i hi
    exact Bool.noConfusion (hahead.symm.trans (htop j hj))
  · have hqi := State.mem_topSeqs.mpr ⟨i, hi, rfl, fun j hj => (htop j hj).1⟩
    have hqk := State.mem_topSeqs.mpr ⟨k, hk, rfl, fun j hj => (htop j hj).2⟩
    by_cases hiv : (s.lane i).al.seq = v
    · exact ⟨_, hqk, fun h => hne (hiv.trans h.symm)⟩
    · exact ⟨_, hqi, hiv⟩

theorem State.groups_refreshLag : (s.refreshLag g l).groups = s.groups := by
  unfold State.refreshLag
  split
  · rfl
  · split
    · rfl
    · split
      · rfl
      · exact ite_keeps_of (P := fun t => t.groups = s.groups) (fun h => (State.groups_notify _).trans h) rfl

/-- The part after R66's move of the leading sequence, the lags apart. -/
def State.led (s : State) (g : GroupId) : State :=
  match s.leadingOf g with
  | none => s
  | some b => s.modGroup g (Group.setLeading b)

theorem State.recompute_eq : s.recompute g = (s.led g).forLanes fun l s => s.refreshLag g l := rfl

theorem State.group_recompute : (s.recompute g).group g = (s.led g).group g := by
  rw [State.recompute_eq, State.group, State.groups_forLanes fun _ _ => State.groups_refreshLag, State.group]

theorem State.group_led (h : s.leadingOf g = some v) : (s.led g).group g = (s.group g).setLeading v := by
  unfold State.led
  rw [h]
  exact (State.group_modGroup ..).trans (if_pos rfl)

theorem State.led_of_none (h : s.leadingOf g = none) : s.led g = s := by
  unfold State.led
  rw [h]

/-! ### The move of the leading sequence -/

theorem ahead_self (b : FrameSeq) : ahead b b = false := by
  simp [ahead]

theorem Group.retire_win_none (gone : RingEntry → Bool) (h : gr.win = none) : (gr.retire gone).win = none := by
  rw [Group.retire, h]
  generalize gr.ring.filter gone = es
  induction es with
  | nil => rfl
  | cons e es ih => exact ih

theorem Group.moveWindow_rest (f : GWin → GWin) :
    (gr.moveWindow b f).ring = gr.ring ∧ (gr.moveWindow b f).leading = gr.leading := by
  unfold Group.moveWindow
  split
  · exact ⟨rfl, rfl⟩
  · split <;> exact ⟨rfl, rfl⟩

theorem Group.moveWindow_none (f : GWin → GWin) (h : gr.win = none) : (gr.moveWindow b f).win = none := by
  unfold Group.moveWindow
  rw [h]
  exact h

theorem Group.moveWindow_undetermined (f : GWin → GWin) (h : gr.win = some w) (hz : w.s0 = none) :
    (gr.moveWindow b f).win = some { w with s0 := some b, offset := 0 } := by
  unfold Group.moveWindow
  rw [h]
  dsimp only
  rw [hz]

theorem Group.moveWindow_open (f : GWin → GWin) (h : gr.win = some w) (hz : w.s0 = some z) :
    (gr.moveWindow b f).win = some (f w) := by
  unfold Group.moveWindow
  rw [h]
  dsimp only
  rw [hz]

theorem Group.setLeading_first (h : gr.leading = none) : gr.setLeading b =
    { gr.moveWindow b id with leading := some b, ring := [newEntry (b - 2), newEntry (b - 1), newEntry b] } := by
  unfold Group.setLeading
  rw [h]

theorem Group.setLeading_same (h : gr.leading = some b) : gr.setLeading b = gr.moveWindow b id := by
  unfold Group.setLeading
  rw [h]
  exact if_pos rfl

/-- What retires as the leading sequence advances to `b`. -/
def Group.outrun (gr : Group) (b : FrameSeq) : Group := gr.retire fun e => !decide ((b - e.seq).toNat ≤ 2)

theorem Group.setLeading_ahead (h : gr.leading = some a) (hab : ahead b a = true) : gr.setLeading b =
    { (gr.outrun b).moveWindow b (fun w => { w with offset := w.offset + (b - a).toNat }) with
      leading := some b
      ring := (gr.outrun b).ring ++ ([b - 2, b - 1, b].filter fun q => decide ((b - q).toNat < (b - a).toNat)).map newEntry } := by
  have hne : ¬a = b := by
    rintro rfl
    exact Bool.noConfusion (hab.symm.trans (ahead_self a))
  unfold Group.setLeading
  rw [h]
  dsimp only
  rw [if_neg hne, if_pos hab]
  rfl

theorem Group.setLeading_back (h : gr.leading = some a) (hne : a ≠ b) (hab : ahead b a = false) : gr.setLeading b =
    { (gr.retire fun _ => true).moveWindow b (fun w => { w with incomplete := true }) with
      leading := some b, ring := [newEntry (b - 2), newEntry (b - 1), newEntry b] } := by
  unfold Group.setLeading
  rw [h]
  dsimp only
  rw [if_neg hne, if_neg (by rw [hab]; exact Bool.false_ne_true)]

/-- The three cases of R66's move: none or the same before, an advance, any other move. -/
theorem Group.setLeading_cases (gr : Group) (b : FrameSeq) : gr.leading = none ∨ gr.leading = some b ∨
    (∃ a, gr.leading = some a ∧ ahead b a = true) ∨ ∃ a, gr.leading = some a ∧ a ≠ b ∧ ahead b a = false := by
  cases hl : gr.leading with
  | none => exact .inl rfl
  | some a =>
    by_cases he : a = b
    · exact .inr (.inl (congrArg some he))
    · cases hab : ahead b a with
      | true => exact .inr (.inr (.inl ⟨a, rfl, hab⟩))
      | false => exact .inr (.inr (.inr ⟨a, rfl, he, hab⟩))

theorem Group.setLeading_leading (gr : Group) (b : FrameSeq) : (gr.setLeading b).leading = some b := by
  rcases gr.setLeading_cases b with h | h | ⟨a, h, hab⟩ | ⟨a, h, hne, hab⟩
  · rw [Group.setLeading_first h]
  · rw [Group.setLeading_same h]
    exact (Group.moveWindow_rest id).2.trans h
  · rw [Group.setLeading_ahead h hab]
  · rw [Group.setLeading_back h hne hab]

theorem Group.setLeading_none (h : gr.win = none) : (gr.setLeading b).win = none := by
  rcases gr.setLeading_cases b with hl | hl | ⟨a, hl, hab⟩ | ⟨a, hl, hne, hab⟩
  · rw [Group.setLeading_first hl]
    exact Group.moveWindow_none id h
  · rw [Group.setLeading_same hl]
    exact Group.moveWindow_none id h
  · rw [Group.setLeading_ahead hl hab]
    exact Group.moveWindow_none _ (Group.retire_win_none _ h)
  · rw [Group.setLeading_back hl hne hab]
    exact Group.moveWindow_none _ (Group.retire_win_none _ h)

/-- Nothing is in the span of a window whose first sequence is undetermined, so nothing that retires counts in it. -/
theorem GWin.retired_undetermined (hz : w.s0 = none) (es : List RingEntry) : w.retired es = w := by
  have hspan : ∀ e : RingEntry, (e.errored && w.inSpan e.seq) = false := fun e => by
    rw [GWin.inSpan, hz, Bool.and_false]
  induction es with
  | nil => rfl
  | cons e es ih =>
    rw [GWin.retired, List.foldl_cons, if_neg (by rw [hspan e]; exact Bool.false_ne_true)]
    exact ih

theorem Group.setLeading_undetermined (h : gr.win = some w) (hz : w.s0 = none) :
    (gr.setLeading b).win = some { w with s0 := some b, offset := 0 } := by
  have hret : ∀ gone, (gr.retire gone).win = some w := fun gone =>
    (Group.retire_win h gone).trans (congrArg some (GWin.retired_undetermined hz _))
  rcases gr.setLeading_cases b with hl | hl | ⟨a, hl, hab⟩ | ⟨a, hl, hne, hab⟩
  · rw [Group.setLeading_first hl]
    exact Group.moveWindow_undetermined id h hz
  · rw [Group.setLeading_same hl]
    exact Group.moveWindow_undetermined id h hz
  · rw [Group.setLeading_ahead hl hab]
    exact Group.moveWindow_undetermined _ (hret _) hz
  · rw [Group.setLeading_back hl hne hab]
    exact Group.moveWindow_undetermined _ (hret _) hz

theorem GWin.retired_fields (w : GWin) (es : List RingEntry) : (w.retired es).s0 = w.s0 ∧ (w.retired es).number = w.number ∧
    (w.retired es).offset = w.offset ∧ (w.retired es).incomplete = w.incomplete ∧ (w.retired es).spec = w.spec := by
  rw [GWin.retired_rest]
  exact ⟨rfl, rfl, rfl, rfl, rfl⟩

/-- R66: an open window whose first sequence is determined, as the leading sequence moves from `a` to `b`. -/
theorem Group.setLeading_open (h : gr.win = some w) (hz : w.s0 = some z) (ha : gr.leading = some a) :
    ∃ v, (gr.setLeading b).win = some v ∧ v.s0 = some z ∧ v.number = w.number ∧
      v.counts.bits = w.counts.bits ∧ v.counts.errors = w.counts.errors ∧
      (a = b → v = w) ∧
      (ahead b a = true → v.offset = w.offset + (b - a).toNat ∧ v.incomplete = w.incomplete) ∧
      (a ≠ b → ahead b a = false → v.offset = w.offset ∧ v.incomplete = true) := by
  have hret : ∀ gone, ((gr.retire gone).win = some (w.retired (gr.ring.filter gone)) ∧
      (w.retired (gr.ring.filter gone)).s0 = some z) := fun gone =>
    ⟨Group.retire_win h gone, (w.retired_fields _).1.trans hz⟩
  by_cases hab' : a = b
  · subst hab'
    refine ⟨w, ?_, hz, rfl, rfl, rfl, fun _ => rfl, fun h => ?_, fun h => absurd rfl h⟩
    · rw [Group.setLeading_same ha]
      exact Group.moveWindow_open id h hz
    · exact Bool.noConfusion (h.symm.trans (ahead_self a))
  · cases hab : ahead b a with
    | true =>
      obtain ⟨hwin, hs0⟩ := hret fun e => !decide ((b - e.seq).toNat ≤ 2)
      obtain ⟨-, hnum, hoff, hinc, -⟩ := w.retired_fields (gr.ring.filter fun e => !decide ((b - e.seq).toNat ≤ 2))
      obtain ⟨hbits, herrs, -⟩ := GWin.retired_counts (gr.ring.filter fun e => !decide ((b - e.seq).toNat ≤ 2)) w
      rw [Group.setLeading_ahead ha hab]
      exact ⟨_, Group.moveWindow_open _ hwin hs0, hs0, hnum, hbits, herrs, fun e => absurd e hab',
        fun _ => ⟨congrArg (· + ((b - a).toNat : Int)) hoff, hinc⟩, fun _ h => Bool.noConfusion h⟩
    | false =>
      obtain ⟨hwin, hs0⟩ := hret fun _ => true
      obtain ⟨-, hnum, hoff, -, -⟩ := w.retired_fields (gr.ring.filter fun _ => true)
      obtain ⟨hbits, herrs, -⟩ := GWin.retired_counts (gr.ring.filter fun _ => true) w
      rw [Group.setLeading_back ha hab' hab]
      exact ⟨_, Group.moveWindow_open _ hwin hs0, hs0, hnum, hbits, herrs, fun e => absurd e hab', fun h => Bool.noConfusion h,
        fun _ _ => ⟨hoff, rfl⟩⟩

theorem Group.setLeading_ring_ahead (h : gr.leading = some a) (hab : ahead b a = true) : (gr.setLeading b).ring =
    gr.ring.filter (fun e => decide ((b - e.seq).toNat ≤ 2)) ++
      ([b - 2, b - 1, b].filter fun q => decide ((b - q).toNat < (b - a).toNat)).map newEntry := by
  rw [Group.setLeading_ahead h hab]
  simp only [Group.outrun, Group.retire, Bool.not_not]

theorem Group.setLeading_ring_anew (h : gr.leading = none ∨ ∃ a, gr.leading = some a ∧ a ≠ b ∧ ahead b a = false) :
    (gr.setLeading b).ring = [newEntry (b - 2), newEntry (b - 1), newEntry b] := by
  rcases h with h | ⟨a, h, hne, hab⟩
  · rw [Group.setLeading_first h]
  · rw [Group.setLeading_back h hne hab]

/-! ### Spans -/

theorem GWin.inSpan_undetermined (h : w.s0 = none) : w.inSpan q = false := by
  rw [GWin.inSpan, h]

theorem GWin.inSpan_frames {n : Nat} (hz : w.s0 = some z) (hn : w.spec = .frames n) : w.inSpan q = true ↔ (q - z).toNat < n := by
  rw [GWin.inSpan, hz, hn]
  exact decide_eq_true_iff

theorem GWin.inSpan_open (hz : w.s0 = some z) (hn : w.spec = .openEnded) :
    w.inSpan q = true ↔ ((q - z).toNat : Int) ≤ w.offset := by
  rw [GWin.inSpan, hz, hn]
  exact decide_eq_true_iff

/-! ### What retires -/

/-- The contributing members of a group. -/
def State.contributors (s : State) (g : GroupId) : List LaneNo :=
  lanesAll.filter fun l => s.isMember g l && (s.lane l).mem.contributing

theorem State.mem_contributors : l ∈ s.contributors g ↔ s.isMember g l = true ∧ (s.lane l).mem.contributing = true := by
  rw [State.contributors, List.mem_filter, Bool.and_eq_true]
  exact and_iff_right (mem_lanesAll l)

theorem State.retirePassed_of_none (h : s.contributors g = []) : s.retirePassed g = s := by
  change (if (s.contributors g).isEmpty then s else _) = s
  rw [h]
  rfl

theorem State.retirePassed_of_some (h : s.contributors g ≠ []) : s.retirePassed g =
    s.modGroup g fun gr => gr.retire fun e => (s.contributors g).all fun l => s.passedEntry l e := by
  change (if (s.contributors g).isEmpty then s else _) = _
  rw [if_neg (by simpa using h)]
  rfl

theorem State.retirePassed_ring (h : ∃ l, s.isMember g l = true ∧ (s.lane l).mem.contributing = true) :
    ((s.retirePassed g).group g).ring = (s.group g).ring.filter (fun e => decide (∃ l, s.isMember g l = true ∧
      (s.lane l).mem.contributing = true ∧ (e.reported.get l = false ∨ (s.lane l).runHolds e.seq = true))) := by
  obtain ⟨l, hl⟩ := h
  have hsome : s.contributors g ≠ [] := List.ne_nil_of_mem (State.mem_contributors.mpr hl)
  rw [State.retirePassed_of_some hsome, State.group_modGroup, if_pos rfl, Group.retire]
  refine List.filter_congr fun e _ => ?_
  rw [Bool.eq_iff_iff, decide_eq_true_iff, Bool.not_eq_true', List.all_eq_false]
  refine exists_congr fun m => ?_
  rw [State.mem_contributors, and_assoc]
  refine and_congr_right fun _ => and_congr_right fun _ => ?_
  rw [State.passedEntry, Bool.and_eq_true, not_and_or, Bool.not_eq_true, Bool.not_eq_true', Bool.not_eq_false]

theorem GWin.retired_errored (es : List RingEntry) : ∀ w : GWin, w.counts.erroredFrames ≤ capFrames →
    (w.retired es).counts.erroredFrames =
        min capFrames (w.counts.erroredFrames + (es.filter fun e => e.errored && w.inSpan e.seq).length) ∧
      w.retired es = { w with counts := { w.counts with
        erroredFrames := (w.retired es).counts.erroredFrames, sat := (w.retired es).counts.sat } } := by
  induction es with
  | nil => exact fun w hw => ⟨(Nat.min_eq_right hw).symm, rfl⟩
  | cons e es ih =>
    intro w hw
    have hcons : w.retired (e :: es) =
        (if e.errored && w.inSpan e.seq then { w with counts := w.counts.addErroredFrame } else w).retired es := rfl
    by_cases he : (e.errored && w.inSpan e.seq) = true
    · rw [hcons, if_pos he, List.filter_cons, if_pos he, List.length_cons]
      obtain ⟨hframes, hrest⟩ := ih { w with counts := w.counts.addErroredFrame } (Nat.min_le_right ..)
      refine ⟨hframes.trans ?_, hrest⟩
      change min capFrames (min (w.counts.erroredFrames + 1) capFrames +
        (es.filter fun e => e.errored && w.inSpan e.seq).length) = _
      omega
    · rw [hcons, if_neg he, List.filter_cons, if_neg he]
      exact ih w hw

theorem Group.retire_errored (gone : RingEntry → Bool) (hw : w.counts.erroredFrames ≤ capFrames) :
    ∃ v, (Group.retire { gr with win := some w } gone).win = some v ∧
      v.counts.erroredFrames = min capFrames (w.counts.erroredFrames +
        (gr.ring.filter fun e => gone e && e.errored && w.inSpan e.seq).length) ∧
      v = { w with counts := { w.counts with erroredFrames := v.counts.erroredFrames, sat := v.counts.sat } } := by
  obtain ⟨hframes, hrest⟩ := GWin.retired_errored (gr.ring.filter gone) w hw
  refine ⟨_, Group.retire_win rfl gone, hframes.trans ?_, hrest⟩
  rw [List.filter_filter]
  refine congrArg (fun n => min capFrames (w.counts.erroredFrames + n)) (congrArg List.length ?_)
  refine List.filter_congr fun e _ => ?_
  rw [Bool.and_comm, Bool.and_assoc]

end Sys2Proof.Machine
end

section
/-! Length closes of group windows (R73), and what the group aligner's settling leaves. -/

namespace Sys2Proof.Machine

variable {s t u : State} {l k : LaneNo} {g : GroupId} {gr : Group} {w x : GWin} {a b q v z : FrameSeq} {n m : Nat}

/-! ### When a length close is due -/

theorem State.passedLast_iff (hz : w.s0 = some z) (hn : w.spec = .frames n) : s.passedLast l w = true ↔
    w.past.get l = true ∧ (s.lane l).runHolds (z + BitVec.ofNat 16 n - 1) = false := by
  rw [State.passedLast, GWin.lastSeq, hz, hn, Bool.and_eq_true, Bool.not_eq_true']

theorem State.lengthDue_of_none (h : (s.group g).win = none) : s.lengthDue g = false := by
  rw [State.lengthDue, h]

theorem State.lengthDue_frames (h : (s.group g).win = some w) (hz : w.s0 = some z) (hn : w.spec = .frames n) :
    s.lengthDue g = true ↔ (n : Int) ≤ w.offset ∧ ∀ l, s.isMember g l = true → (s.lane l).mem.contributing = true →
      w.past.get l = true ∧ (s.lane l).runHolds (z + BitVec.ofNat 16 n - 1) = false := by
  rw [State.lengthDue, h]
  dsimp only
  rw [hz, hn]
  dsimp only
  rw [Bool.and_eq_true, decide_eq_true_iff, List.all_eq_true]
  refine and_congr_right fun _ => forall_congr' fun l => ?_
  rw [Bool.or_eq_true, Bool.not_eq_true', State.passedLast_iff hz hn, ← Bool.not_eq_true, Bool.and_eq_true, ← imp_iff_not_or, and_imp]
  exact forall_prop_of_true (mem_lanesAll l)

theorem State.frames_of_lengthDue (h : (s.group g).win = some w) (hd : s.lengthDue g = true) :
    ∃ z n, w.s0 = some z ∧ w.spec = .frames n := by
  rw [State.lengthDue, h] at hd
  dsimp only at hd
  split at hd
  · next hz hn => exact ⟨_, _, hz, hn⟩
  · exact Bool.noConfusion hd

theorem State.lengthDue_iff (h : (s.group g).win = some w) : s.lengthDue g = true ↔
    ∃ z n, w.s0 = some z ∧ w.spec = .frames n ∧ (n : Int) ≤ w.offset ∧
      ∀ l, s.isMember g l = true → (s.lane l).mem.contributing = true →
        w.past.get l = true ∧ (s.lane l).runHolds (z + BitVec.ofNat 16 n - 1) = false := by
  refine ⟨fun hd => ?_, fun ⟨z, n, hz, hn, hrest⟩ => (State.lengthDue_frames h hz hn).mpr hrest⟩
  obtain ⟨z, n, hz, hn⟩ := State.frames_of_lengthDue h hd
  exact ⟨z, n, hz, hn, (State.lengthDue_frames h hz hn).mp hd⟩

/-! ### A length close -/

theorem State.closeGroup_length (h : (s.group g).win = some w) (hz : w.s0 = some z) (hn : w.spec = .frames n) :
    s.closeGroup g .length = if w.rep then (s.groupFiled g w .length).openGroup g w.spec w.rep w.notices
      (some (z + BitVec.ofNat 16 n)) (w.offset - n) else s.groupFiled g w .length := by
  rw [State.closeGroup_of_open h, hz, hn]
  cases w.rep <;> rfl

theorem State.groupFiled_fixed (w : GWin) (r : CloseReason) : (s.groupFiled g w r).fixed = s.fixed :=
  State.fileRecord_fixed ..

theorem State.groupFiled_win (w : GWin) (r : CloseReason) : ((s.groupFiled g w r).group g).win = none :=
  (congrArg Group.win (State.groupFiled_bare (s := s) (g := g) w r) :)

/-- A window that its length closed without repeat is gone. -/
theorem State.closeGroup_length_once (h : (s.group g).win = some w) (hz : w.s0 = some z) (hn : w.spec = .frames n)
    (hrep : w.rep = false) : ((s.closeGroup g .length).group g).win = none := by
  rw [State.closeGroup_length h hz hn, hrep]
  exact State.groupFiled_win w .length

/-- R71: the window that a repeat opens. -/
theorem State.closeGroup_length_again (h : (s.group g).win = some w) (hz : w.s0 = some z) (hn : w.spec = .frames n)
    (hrep : w.rep = true) : ∃ x, ((s.closeGroup g .length).group g).win = some x ∧
      x.number = (s.group g).nextNumber ∧ x.s0 = some (z + BitVec.ofNat 16 n) ∧ x.offset = w.offset - n ∧
      x.counts = Counts.zero ∧ x.incomplete = false ∧ x.spec = w.spec ∧ x.rep = true ∧ x.openTick = s.tick := by
  have hnext : ((s.groupFiled g w .length).group g).nextNumber = (s.group g).nextNumber :=
    (congrArg Group.nextNumber (State.groupFiled_bare (s := s) (g := g) w .length) :)
  have htick : (s.groupFiled g w .length).tick = s.tick := State.tick_of_fixed (State.groupFiled_fixed w .length)
  rw [State.closeGroup_length h hz hn, if_pos hrep, State.group_openGroup]
  exact ⟨_, rfl, hnext, rfl, rfl, rfl, rfl, rfl, hrep, htick⟩

theorem State.someNotWhole_iff : s.someNotWhole g = true ↔ ∃ l, s.isMember g l = true ∧ (s.lane l).mem.whole = false := by
  rw [State.someNotWhole, List.any_eq_true]
  refine exists_congr fun l => ?_
  rw [Bool.and_eq_true, Bool.not_eq_true']
  exact and_iff_right (mem_lanesAll l)

/-- R73: the record of a length close. -/
theorem State.closeGroup_length_record (h : (s.group g).win = some w) (hz : w.s0 = some z) (hn : w.spec = .frames n) (h1 : 1 ≤ n) :
    ∃ r, ((s.closeGroup g .length).group g).hist.getLast? = some r ∧ r.number = w.number ∧ r.reason = .length ∧
      r.frames = n ∧ r.first = some z ∧ r.last = some (z + BitVec.ofNat 16 n - 1) ∧
      r.counts.bits = w.counts.bits ∧ r.counts.errors = w.counts.errors ∧
      r.counts.erroredBlocks = w.counts.erroredBlocks ∧
      (r.incomplete = true ↔ w.incomplete = true ∨ ∃ l, s.isMember g l = true ∧ (s.lane l).mem.whole = false) := by
  obtain ⟨r, hr, hrec⟩ := State.groupFiled_last (s := s) (g := g) w .length
  obtain ⟨hnum, -, hs0, hspec, -⟩ := State.closingWin_rest (s := s) (g := g) w
  obtain ⟨hbits, herrs, hblocks⟩ := GWin.retired_counts ((s.group g).ring.filter fun e => w.inSpan e.seq) w
  have hframes : (s.closingWin g w).framesSpanned .length = n := by
    rw [GWin.framesSpanned, hs0, hz, hspec, hn]
    exact if_pos rfl
  have hfirst : (s.filedRecord g w .length).first = some z := by
    change (if (s.closingWin g w).framesSpanned .length = 0 then none else (s.closingWin g w).s0) = _
    rw [if_neg (by omega), hs0, hz]
  have hlast : (s.filedRecord g w .length).last = some (z + BitVec.ofNat 16 n - 1) := by
    change (s.filedRecord g w .length).first.map (fun z => z + BitVec.ofNat 16 ((s.closingWin g w).framesSpanned .length) - 1) = _
    rw [hfirst, hframes]
    rfl
  have hhist : ((s.closeGroup g .length).group g).hist = ((s.groupFiled g w .length).group g).hist := by
    rw [State.closeGroup_length h hz hn]
    split
    · rw [State.group_openGroup]
    · rfl
  refine ⟨r, (congrArg List.getLast? hhist).trans hr, (congrArg WinRecord.number hrec :).trans hnum,
    (congrArg WinRecord.reason hrec :), (congrArg WinRecord.frames hrec :).trans hframes, (congrArg WinRecord.first hrec :).trans hfirst,
    (congrArg WinRecord.last hrec :).trans hlast, (congrArg (fun r : WinRecord => r.counts.bits) hrec :).trans hbits,
    (congrArg (fun r : WinRecord => r.counts.errors) hrec :).trans herrs,
    (congrArg (fun r : WinRecord => r.counts.erroredBlocks) hrec :).trans hblocks, ?_⟩
  have hinc : r.incomplete = (w.incomplete || s.someNotWhole g) := (congrArg WinRecord.incomplete hrec :)
  rw [hinc, Bool.or_eq_true, State.someNotWhole_iff]

/-! ### No length close is left due -/

/-- A repeated window moves on by its own length, so the closes of one event end before the leading offset is used up. -/
theorem State.closeDue_ends (n : Nat) : ∀ {s : State},
    (∀ w, (s.group g).win = some w → w.spec ≠ .frames 0 ∧ w.offset.toNat < n) → (s.closeDue g n).lengthDue g = false := by
  induction n with
  | zero =>
    intro s hs
    refine State.lengthDue_of_none ?_
    change (s.group g).win = none
    cases hw : (s.group g).win with
    | none => rfl
    | some w => exact absurd (hs w hw).2 (Nat.not_lt_zero _)
  | succ n ih =>
    intro s hs
    rw [State.closeDue]
    cases hd : s.lengthDue g with
    | false => exact hd
    | true =>
      rw [if_pos rfl]
      cases hw : (s.group g).win with
      | none => exact Bool.noConfusion ((State.lengthDue_of_none hw).symm.trans hd)
      | some w =>
        obtain ⟨hspec, hfuel⟩ := hs w hw
        obtain ⟨z, m, hz, hm, hle, -⟩ := (State.lengthDue_iff hw).mp hd
        have hpos : m ≠ 0 := fun h => hspec (hm.trans (congrArg WinSpec.frames h))
        refine ih fun x hx => ?_
        cases hrep : w.rep with
        | false => exact (nomatch hx.symm.trans (State.closeGroup_length_once hw hz hm hrep))
        | true =>
          obtain ⟨y, hy, -, -, hoff, -, -, hsame, -⟩ := State.closeGroup_length_again hw hz hm hrep
          cases hx.symm.trans hy
          rw [hsame, hoff]
          exact ⟨hspec, by omega⟩

theorem State.settleGroup_eq (s : State) (g : GroupId) : s.settleGroup g =
    (s.retirePassed g).closeDue g (match ((s.retirePassed g).group g).win with
      | none => 0
      | some w => w.offset.toNat + 1) := by
  unfold State.settleGroup
  rfl

theorem State.retirePassed_win (h : (s.group g).win = some w) :
    ∃ x, ((s.retirePassed g).group g).win = some x ∧ x.spec = w.spec := by
  by_cases hc : s.contributors g = []
  · rw [State.retirePassed_of_none hc]
    exact ⟨w, h, rfl⟩
  · rw [State.retirePassed_of_some hc, State.group_modGroup, if_pos rfl]
    exact ⟨_, Group.retire_win h _, (w.retired_fields _).2.2.2.2⟩

theorem State.settleGroup_lengthDue (h : (s.group g).win = some w) (hspec : w.spec ≠ .frames 0) :
    (s.settleGroup g).lengthDue g = false := by
  obtain ⟨x, hx, hsame⟩ := State.retirePassed_win h
  rw [State.settleGroup_eq, hx]
  refine State.closeDue_ends _ fun y hy => ?_
  cases hx.symm.trans hy
  exact ⟨hsame ▸ hspec, Nat.lt_succ_self _⟩

end Sys2Proof.Machine
end

section
/-! A counted block in the group of its lane: ring and open window (R68, R69, R72). -/

namespace Sys2Proof.Machine

variable {s t u v : State} {l k m : LaneNo} {X Y : Lane} {g : GroupId} {a : Aligner} {b : Block} {fp : Option (FrameSeq × Nat)}
  {q : FrameSeq}

/-! ### What leaves the groups, the group items of the lanes and the hold requests -/

/-- From `s` to `t` the groups, every lane's group items and every hold request stand. -/
structure State.Ungrouped (s t : State) : Prop where
  mem : ∀ k, (t.lane k).mem = (s.lane k).mem
  holdReq : ∀ k, (t.lane k).holdReq = (s.lane k).holdReq
  groups : t.groups = s.groups

namespace State.Ungrouped

theorem refl : s.Ungrouped s := ⟨fun _ => rfl, fun _ => rfl, rfl⟩

theorem trans (h : s.Ungrouped t) (h' : t.Ungrouped u) : s.Ungrouped u :=
  ⟨fun k => (h'.mem k).trans (h.mem k), fun k => (h'.holdReq k).trans (h.holdReq k), h'.groups.trans h.groups⟩

theorem of_lanes (h : t.lanes = s.lanes) (hg : t.groups = s.groups) : s.Ungrouped t :=
  ⟨fun k => by rw [State.lane, h, State.lane], fun k => by rw [State.lane, h, State.lane], hg⟩

theorem modLane {f : Lane → Lane} (hm : (f (s.lane l)).mem = (s.lane l).mem) (hh : (f (s.lane l)).holdReq = (s.lane l).holdReq) :
    s.Ungrouped (s.modLane l f) := by
  refine ⟨fun k => ?_, fun k => ?_, rfl⟩
  all_goals
    rw [State.lane_modLane]
    split
    · next e => rw [e]; assumption
    · rfl

theorem modAl (f : Aligner → Aligner) : s.Ungrouped (s.modAl l f) := modLane rfl rfl

theorem modCk (f : Checker → Checker) : s.Ungrouped (s.modCk l f) := modLane rfl rfl

theorem modWin (f : Win → Win) : s.Ungrouped (s.modWin l f) := modLane rfl rfl

theorem report (f : Counts → Counts) : s.Ungrouped (s.report l f) := modLane rfl rfl

theorem notify (n : Notice) : s.Ungrouped (s.notify n) := of_lanes (State.lanes_notify n) (State.groups_notify n)

theorem placeCapture (c : CapEntry) : s.Ungrouped (s.placeCapture c) := by
  unfold State.placeCapture
  split <;> exact of_lanes rfl rfl

theorem giveEntry (c : CapEntry) : s.Ungrouped (s.giveEntry l c) :=
  ite_keeps (P := fun t => s.Ungrouped t) (fun _ => placeCapture c) fun _ => modCk _

theorem offerEvent (x : CapKind) (q : Option FrameSeq) (p : Nat) : s.Ungrouped (s.offerEvent l x q p) :=
  ite_keeps (P := fun t => s.Ungrouped t) (fun _ => giveEntry _) fun _ => refl

theorem markerError : s.Ungrouped (s.markerError l) := by
  have h : s.Ungrouped (s.modAl l fun a => { a with errs := a.errs.add 1 }) := modAl _
  exact ite_keeps_of (P := fun t => s.Ungrouped t) (fun h => h.trans (report _)) h

theorem markerErrorEntry (q : FrameSeq) : s.Ungrouped (s.markerErrorEntry l q) :=
  ite_keeps (P := fun t => s.Ungrouped t) (fun _ => offerEvent _ _ _) fun _ => refl

theorem channels (h : s.Channels t) : s.Ungrouped t := of_lanes h.lanes h.groups

theorem takePhase (q : Nat) : s.Ungrouped (s.takePhase l q) := ite_keeps (P := fun t => s.Ungrouped t) (fun _ => modCk _) fun _ => refl

theorem markSuspects (bk : BankNo) : s.Ungrouped (s.markSuspects bk) := by
  refine ⟨fun k => ?_, fun k => ?_, rfl⟩
  all_goals
    rw [State.lane_markSuspects]
    split <;> rfl

theorem readPattern (i : Nat) (c : Bool) : s.Ungrouped (s.readPattern l i c).2 := by
  unfold State.readPattern
  dsimp only
  refine trans (t := if (patRead s.patMem i).agrees || (s.modWin l fun v => { v with banks := v.banks.set (bankOf i) true }).memFault.get
    (bankOf i) then s.modWin l fun v => { v with banks := v.banks.set (bankOf i) true } else _) ?_ (markSuspects _)
  have hwin : s.Ungrouped (s.modWin l fun v => { v with banks := v.banks.set (bankOf i) true }) := modWin _
  generalize (s.modWin l fun v => { v with banks := v.banks.set (bankOf i) true }) = w at hwin ⊢
  refine ite_keeps (P := fun t => s.Ungrouped t) (fun _ => hwin) fun _ => hwin.trans ?_
  exact trans (t := { w with memFault := w.memFault.set (bankOf i) true }) (of_lanes rfl rfl) (notify _)

theorem expected : s.Ungrouped (s.expected l).2 := by
  unfold State.expected
  dsimp only
  split
  · exact trans (t := (s.readPattern l ((s.rxPat l).start + (s.lane l).ck.phase) true).2) (readPattern _ _) (modCk fun _ => _)
  · exact modCk fun _ => _

theorem comparedAt : s.Ungrouped (s.comparedAt l) := expected.trans (modCk _)

theorem placed : s.Ungrouped (s.placed l b a) := by
  have hrest := Lane.arrived_rest b (s.rxMode l == some .pass || s.rxMode l == some .monitor) a (s.lane l)
  exact modLane (f := fun _ => (s.lane l).arrived b (s.rxMode l == some .pass || s.rxMode l == some .monitor) a)
    (congrArg Lane.mem hrest :) (congrArg Lane.holdReq hrest :)

theorem holdsSettled (h : s.Ungrouped t) (hs : s.holdsSettled = true) : t.holdsSettled = true :=
  List.all_eq_true.mpr fun k _ => by rw [h.holdReq, State.holdReq_of_settled hs]; rfl

theorem group (h : s.Ungrouped t) (g : GroupId) : t.group g = s.group g := by rw [State.group, h.groups, State.group]

end State.Ungrouped

/-! ### The counted block -/

theorem State.releaseRun_of_nil (h : (s.lane l).ck.run = []) : s.releaseRun l = s := by
  unfold State.releaseRun
  dsimp only
  exact if_pos (by rw [h]; rfl)

/-- On an unarmed lane all that a counted block does to a group, it does through `groupCount`. -/
theorem State.As.countBlock_ungrouped (h : s.As l t X) (hr : X.ck.run = []) (harm : X.armed = false) (c : Checked) :
    ((t.modLane l fun L => { L with win := L.win.count c, run := L.run.count c }).groupCount l c).Ungrouped (t.countBlock l c) := by
  have hcount := (h.modLane (f := fun L => { L with win := L.win.count c, run := L.run.count c })).groupCount l c
  unfold State.countBlock
  dsimp only
  generalize (t.modLane l fun L => { L with win := L.win.count c, run := L.run.count c }).groupCount l c = t1 at hcount ⊢
  have hlane : s.As l (if (c.errs ≠ 0 && c.wants) = true then t1.giveEntry l ⟨l, .bitErrors, c.seq, c.pos, some c.errs, c.tick⟩ else t1)
      { X with win := X.win.count c, run := X.run.count c } :=
    ite_keeps_of (P := fun v => s.As l v _) (fun h => (h.giveEntry _).congr (congrArg Lane.still (if_pos (by exact hr)))) hcount
  have haside : t1.Ungrouped (if (c.errs ≠ 0 && c.wants) = true then
      t1.giveEntry l ⟨l, .bitErrors, c.seq, c.pos, some c.errs, c.tick⟩ else t1) :=
    ite_keeps (P := fun v => t1.Ungrouped v) (fun _ => .giveEntry _) fun _ => .refl
  rw [hlane.trigJudged, State.judges_of_unarmed (by exact harm), Bool.false_and, if_neg Bool.false_ne_true]
  exact haside.trans (.modLane rfl rfl)

theorem State.groupCount_of {c : Checked} (hg : s.memberOf l = some g) (hq : c.seq = some q) : s.groupCount l c =
    if (s.lane l).mem.contributing then s.modGroup g fun gr => gr.countBlock c.errs q else s := by
  unfold State.groupCount
  rw [hg, hq]

/-- R65, R72: a light block of an ALIGNED member with no pending run, to the end of its step. -/
theorem State.exec_member (hf : s.rxFramed l = true) (hal : (s.lane l).al.state = .aligned) (hp : (s.lane l).al.pos < 127)
    (hst : (s.lane l).ck.state = .locked) (hc : s.counting l = true) (hrun : (s.lane l).ck.run = []) (harm : (s.lane l).armed = false)
    (hs : s.holdsSettled = true) (hg : s.memberOf l = some g) (hlight : bitErrors b (s.expected l).1 < (s.desc l).heavy) :
    ∃ t, exec (.receiveBlock l b) s = .next t ∧ t.group g = if (s.lane l).mem.contributing then
      (s.group g).countBlock (bitErrors b (s.expected l).1) (s.lane l).al.seq else s.group g := by
  have hpay : s.isPayload l b = true := by
    unfold State.isPayload
    rw [hal, hf]
    exact decide_eq_true hp
  obtain ⟨a, fp, he, -, hfp, hnone⟩ := State.exec_payload hpay
  obtain ⟨herrs, -, -, -, -, hseq, -⟩ := s.checked_facts l b hfp hnone
  obtain ⟨hseq, -⟩ := hseq hf (State.aligned_iff.mpr hal)
  have hX : (s.placed l b a).As l (s.placed l b a) (s.atChecker l b a) := State.As.placed s l b a
  have hon : (s.atChecker l b a).ck.state ≠ .off := by
    change (s.lane l).ck.state ≠ .off
    rw [hst]
    decide
  have htake : (s.placed l b a).checkerTake l b fp = (s.placed l b a).checkBlock l b fp := by
    rw [hX.checkerTake_counts hon hc]
    exact if_pos hf
  have hjudge := s.checkBlock_judged hst b a fp
  rw [if_pos (by rw [herrs]; exact hlight)] at hjudge
  obtain ⟨Z, hZ⟩ := State.exists_judging hst b a
  have hempty : Z.ck.run = [] := hZ.empty.trans hrun
  rw [State.releaseRun_of_nil (by rw [hZ.as.ck]; exact hempty)] at hjudge
  have hbefore : s.Ungrouped ((s.placed l b a).comparedAt l) := State.Ungrouped.placed.trans .comparedAt
  have hafter := hZ.as.countBlock_ungrouped hempty (hZ.armed.trans harm) (s.checked l b fp (s.lane l))
  have hmember : ((s.placed l b a).comparedAt l).memberOf l = some g := (hZ.as.memberOf l).trans hg
  rw [← hjudge] at hafter
  generalize (s.placed l b a).comparedAt l = v at hbefore hafter hmember
  have hcounted : s.Ungrouped (v.modLane l fun L => { L with
      win := L.win.count (s.checked l b fp (s.lane l)), run := L.run.count (s.checked l b fp (s.lane l)) }) :=
    hbefore.trans (.modLane rfl rfl)
  have hmember' : (v.modLane l fun L => { L with
      win := L.win.count (s.checked l b fp (s.lane l)), run := L.run.count (s.checked l b fp (s.lane l)) }).memberOf l = some g := hmember
  generalize v.modLane l (fun L => { L with
      win := L.win.count (s.checked l b fp (s.lane l)), run := L.run.count (s.checked l b fp (s.lane l)) }) = w
    at hafter hcounted hmember'
  rw [State.groupCount_of hmember' hseq, herrs, hcounted.mem] at hafter
  have hsettled : ((s.placed l b a).checkBlock l b fp).holdsSettled = true := by
    refine hafter.holdsSettled (ite_keeps (P := fun t => t.holdsSettled = true) (fun _ => ?_) fun _ => hcounted.holdsSettled hs)
    exact (hcounted.holdsSettled hs :)
  refine ⟨_, he, ?_⟩
  rw [State.payloadEnd, if_pos hf, htake, State.settleHolds_of_settled hsettled, hafter.group]
  split
  · rw [State.group_modGroup, if_pos rfl, hcounted.group]
  · exact hcounted.group g

/-! ### What it does to ring and window -/

theorem Group.countBlock_ring (gr : Group) (e : Nat) (q : FrameSeq) : (gr.countBlock e q).ring =
    gr.ring.map fun x => if e ≠ 0 ∧ x.seq = q then { x with errored := true } else x := by
  refine List.map_congr_left fun x _ => ?_
  simp only [Bool.and_eq_true, decide_eq_true_eq, beq_iff_eq]

theorem Group.countBlock_none {gr : Group} (h : gr.win = none) (e : Nat) (q : FrameSeq) : (gr.countBlock e q).win = none := by
  unfold Group.countBlock
  rw [h]

theorem Group.countBlock_win {gr : Group} {w : GWin} (h : gr.win = some w) (e : Nat) (q : FrameSeq) :
    (gr.countBlock e q).win = some { w with
      counts := if w.inSpan q then w.counts.addCounted e false else w.counts
      incomplete := w.incomplete || decide (e ≠ 0 ∧ ∀ x ∈ gr.ring, x.seq ≠ q) } := by
  have hlate : (decide (e ≠ 0) && !gr.ring.any fun x => x.seq == q) = decide (e ≠ 0 ∧ ∀ x ∈ gr.ring, x.seq ≠ q) := by
    rw [Bool.eq_iff_iff, decide_eq_true_iff, Bool.and_eq_true, decide_eq_true_iff, Bool.not_eq_true', List.any_eq_false]
    simp only [beq_iff_eq, ne_eq]
  unfold Group.countBlock
  rw [h, ← hlate]

end Sys2Proof.Machine
end

section
/-! A group event that a frame boundary causes: lags, notices and contributing flags of the members (R65 to R67). -/

namespace Sys2Proof.Machine

variable {s t u : State} {l k m : LaneNo} {g : GroupId} {q v : FrameSeq} {d : Nat}

/-! ### Lags -/

/-- R67: the group items of an ALIGNED member with lag `d`. -/
def Member.lagged (M : Member) (d : Nat) : Member :=
  { M with lag := some d, skew := decide (3 ≤ d), greatestLag := max M.greatestLag d }

theorem State.lane_modMem (f : Member → Member) :
    (s.modMem k f).lane k = { s.lane k with mem := f (s.lane k).mem } := (State.lane_modLane ..).trans (if_pos rfl)

theorem State.refreshLag_stranger (h : s.isMember g k = false) : s.refreshLag g k = s := by
  unfold State.refreshLag
  rw [h]
  exact if_pos rfl

theorem State.refreshLag_unaligned (hk : s.isMember g k = true) (ha : s.aligned k = false) :
    s.refreshLag g k = s.modMem k fun M => { M with lag := none, skew := false } := by
  unfold State.refreshLag
  rw [hk, ha]
  rfl

theorem State.refreshLag_aligned (hk : s.isMember g k = true) (ha : s.aligned k = true) (hv : (s.group g).leading = some v) :
    s.refreshLag g k =
      if decide (3 ≤ (v - (s.lane k).al.seq).toNat) && !(s.lane k).mem.skew then
        (s.modMem k fun M => M.lagged (v - (s.lane k).al.seq).toNat).notify (.skewExcess g k (v - (s.lane k).al.seq).toNat v s.tick)
      else s.modMem k fun M => M.lagged (v - (s.lane k).al.seq).toNat := by
  unfold State.refreshLag
  rw [hk, ha, hv]
  rfl

theorem State.refreshLag_mem (hk : s.isMember g k = true) (ha : s.aligned k = true) (hv : (s.group g).leading = some v) :
    ((s.refreshLag g k).lane k).mem = (s.lane k).mem.lagged (v - (s.lane k).al.seq).toNat := by
  have hmem : ((s.modMem k fun M => M.lagged (v - (s.lane k).al.seq).toNat).lane k).mem =
      (s.lane k).mem.lagged (v - (s.lane k).al.seq).toNat := (congrArg Lane.mem (State.lane_modMem _) :)
  rw [State.refreshLag_aligned hk ha hv]
  split
  · exact (State.mem_notify _).trans hmem
  · exact hmem

theorem State.Bystander.refreshLag (h : m ≠ k) : State.Bystander k s (s.refreshLag g m) := by
  cases hm : s.isMember g m with
  | false => rw [State.refreshLag_stranger hm]; exact .refl s
  | true =>
    cases ha : s.aligned m with
    | false => rw [State.refreshLag_unaligned hm ha]; exact .modMem h _
    | true =>
      cases hv : (s.group g).leading with
      | none =>
        have : s.refreshLag g m = s := by
          unfold State.refreshLag
          rw [hm, ha, hv]
          rfl
        rw [this]
        exact .refl s
      | some v =>
        rw [State.refreshLag_aligned hm ha hv]
        exact ite_keeps_of (P := fun t => State.Bystander k s t) (fun hb => hb.trans (.notify _)) (.modMem h _)

theorem State.Bystander.isMember (h : State.Bystander k s t) (g : GroupId) (m : LaneNo) : t.isMember g m = s.isMember g m :=
  State.isMember_of_fixed h.fixed g m

theorem State.Bystander.aligned (h : State.Bystander k s t) : t.aligned k = s.aligned k := by rw [State.aligned, h.lane, State.aligned]

theorem State.Bystander.group (h : State.Bystander k s t) : t.group g = s.group g := by rw [State.group, h.groups, State.group]

theorem State.led_keeps : (s.led g).lanes = s.lanes ∧ (s.led g).fixed = s.fixed ∧ (s.led g).egress = s.egress := by
  unfold State.led
  split <;> exact ⟨rfl, rfl, rfl⟩

theorem State.lane_led : (s.led g).lane k = s.lane k := by rw [State.lane, State.led_keeps.1, State.lane]

theorem State.isMember_led : (s.led g).isMember g k = s.isMember g k := State.isMember_of_fixed State.led_keeps.2.1 g k

/-- A lane's turn in R67's update of all lags. -/
theorem State.recompute_turn (s : State) (g : GroupId) (k : LaneNo) : ∃ u, State.Bystander k (s.led g) u ∧
    State.Bystander k (u.refreshLag g k) (s.recompute g) := by
  rw [State.recompute_eq]
  exact State.forLanes_turn (f := fun l s => s.refreshLag g l) .refl .trans fun m hm => .refreshLag hm

theorem State.recompute_mem (hk : s.isMember g k = true) (ha : s.aligned k = true) (hv : s.leadingOf g = some v) :
    ((s.recompute g).lane k).mem = (s.lane k).mem.lagged (v - (s.lane k).al.seq).toNat := by
  obtain ⟨u, hu, hw⟩ := s.recompute_turn g k
  have hlane : u.lane k = s.lane k := hu.lane.trans State.lane_led
  have hlead : (u.group g).leading = some v := by rw [hu.group, State.group_led hv, Group.setLeading_leading]
  have hal : u.aligned k = true := by rw [State.aligned, hlane]; exact ha
  rw [hw.lane, State.refreshLag_mem ((hu.isMember g k).trans (State.isMember_led.trans hk)) hal hlead, hlane]

theorem State.recompute_mem_unaligned (hk : s.isMember g k = true) (ha : s.aligned k = false) :
    ((s.recompute g).lane k).mem = { (s.lane k).mem with lag := none, skew := false } := by
  obtain ⟨u, hu, hw⟩ := s.recompute_turn g k
  have hlane : u.lane k = s.lane k := hu.lane.trans State.lane_led
  have hal : u.aligned k = false := by rw [State.aligned, hlane]; exact ha
  rw [hw.lane, State.refreshLag_unaligned ((hu.isMember g k).trans (State.isMember_led.trans hk)) hal, State.lane_modMem, hlane]

/-! ### Notices of excess -/

/-- The lanes before `k`, its own turn, the lanes after it. -/
theorem State.forLanes_split (f : LaneNo → State → State) (k : LaneNo) : ∃ as bs : List LaneNo, as.length ≤ 7 ∧ k ∉ as ∧
    ∀ s : State, s.forLanes f = bs.foldl (fun s m => f m s) (f k (as.foldl (fun s m => f m s) s)) := by
  obtain ⟨as, bs, e⟩ := List.append_of_mem (mem_lanesAll k)
  have hn : lanesAll.Nodup := by decide
  have hlen : lanesAll.length = 8 := by decide
  rw [e, List.nodup_middle, List.nodup_cons, List.mem_append, not_or] at hn
  rw [e, List.length_append, List.length_cons] at hlen
  refine ⟨as, bs, by omega, hn.1.1, fun s => ?_⟩
  unfold State.forLanes
  rw [e, List.foldl_append, List.foldl_cons]

theorem State.egress_refreshLag_le : (s.refreshLag g m).egress.length ≤ s.egress.length + 1 := by
  unfold State.refreshLag
  refine ite_keeps (P := fun t => t.egress.length ≤ s.egress.length + 1) (fun _ => Nat.le_succ _) fun _ =>
    ite_keeps (P := fun t => t.egress.length ≤ s.egress.length + 1) (fun _ => Nat.le_succ _) fun _ => ?_
  split
  · exact Nat.le_succ _
  · exact ite_keeps (P := fun t => t.egress.length ≤ s.egress.length + 1) (fun _ => State.egress_notify_le _) fun _ => Nat.le_succ _

/-- R67: SKEW_EXCESS entered, with room for the notices of all eight lanes. -/
theorem State.recompute_notice (hk : s.isMember g k = true) (ha : s.aligned k = true) (hv : s.leadingOf g = some v)
    (hd : 3 ≤ (v - (s.lane k).al.seq).toNat) (hskew : (s.lane k).mem.skew = false) (hroom : s.egress.length ≤ 4) :
    ∃ front back, (s.recompute g).egress =
      front ++ noticeRec (.skewExcess g k (v - (s.lane k).al.seq).toNat v s.tick) :: back := by
  obtain ⟨as, bs, hlen, hnot, hfold⟩ := State.forLanes_split (fun l s => s.refreshLag g l) k
  have before : ∀ (ls : List LaneNo), k ∉ ls → ∀ t : State, State.Bystander k t (ls.foldl (fun s m => s.refreshLag g m) t) ∧
      (ls.foldl (fun s m => s.refreshLag g m) t).egress.length ≤ t.egress.length + ls.length := by
    intro ls
    induction ls with
    | nil => exact fun _ t => ⟨.refl t, Nat.le_refl _⟩
    | cons m ls ih =>
      intro hm t
      rw [List.mem_cons, not_or] at hm
      obtain ⟨hb, hl⟩ := ih hm.2 (t.refreshLag g m)
      refine ⟨State.Bystander.trans (.refreshLag (Ne.symm hm.1)) hb, hl.trans ?_⟩
      have := State.egress_refreshLag_le (s := t) (g := g) (m := m)
      rw [List.length_cons]
      omega
  obtain ⟨hu, heg⟩ := before as hnot (s.led g)
  rw [State.recompute_eq, hfold]
  generalize as.foldl (fun s m => s.refreshLag g m) (s.led g) = u at hu heg
  have hlane : u.lane k = s.lane k := hu.lane.trans State.lane_led
  have hlead : (u.group g).leading = some v := by rw [hu.group, State.group_led hv, Group.setLeading_leading]
  have hal : u.aligned k = true := by rw [State.aligned, hlane]; exact ha
  have htick : u.tick = s.tick := State.tick_of_fixed (hu.fixed.trans State.led_keeps.2.1)
  have hturn := State.refreshLag_aligned ((hu.isMember g k).trans (State.isMember_led.trans hk)) hal hlead
  rw [hlane, htick, if_pos (by rw [hskew, decide_eq_true hd]; rfl)] at hturn
  have hroom' : (u.modMem k fun M => M.lagged (v - (s.lane k).al.seq).toNat).egress.length ≤ 11 := by
    rw [State.led_keeps.2.2] at heg
    exact heg.trans (by omega)
  have hsent := State.notify_of_room hroom' (.skewExcess g k (v - (s.lane k).al.seq).toNat v s.tick)
  obtain ⟨more, hmore⟩ := foldl_keeps (f := fun s m => s.refreshLag g m) (P := fun t => ∃ more, t.egress =
      u.egress ++ [noticeRec (.skewExcess g k (v - (s.lane k).al.seq).toNat v s.tick)] ++ more)
    (fun m h => (GroupKept.sends _).refreshLag g m h) bs (s := u.refreshLag g k) ⟨[], by rw [hturn, hsent, List.append_nil]; rfl⟩
  exact ⟨u.egress, more, by rw [hmore, List.append_assoc]; rfl⟩

/-! ### Contributing flags -/

theorem State.contribFail_of (hf : t.fixed = s.fixed) (hs : (t.lane k).still = (s.lane k).still)
    (hskew : (t.lane k).mem.skew = (s.lane k).mem.skew) : t.contribFail k = s.contribFail k := by
  have hal : (t.lane k).al = (s.lane k).al := (congrArg Lane.al hs :)
  have hck : (t.lane k).ck = (s.lane k).ck := (congrArg Lane.ck hs :)
  have hhold : (t.lane k).hold = (s.lane k).hold := (congrArg Lane.hold hs :)
  unfold State.contribFail State.aligned State.counting
  rw [hal, hck, hhold, hskew, State.desc_of_fixed hf]

theorem State.contribFail_none : (s.contribFail k).isSome = false ↔
    s.aligned k = true ∧ (s.lane k).ck.state = .locked ∧ s.counting k = true ∧ (s.lane k).mem.skew = false := by
  unfold State.contribFail
  cases s.aligned k with
  | false => simp
  | true =>
    by_cases hck : (s.lane k).ck.state = .locked
    · cases s.counting k with
      | false => simp [hck]
      | true => cases (s.lane k).mem.skew <;> simp [hck]
    · simp [hck]

theorem State.Bystander.dropMember (h : m ≠ k) : State.Bystander k s (s.dropMember g m) :=
  ite_keeps (P := fun t => State.Bystander k s t) (fun _ => .modMem h _) fun _ => .refl s

/-- R65: a member's flag after all conditions have been judged. -/
theorem State.dropContrib_mem (hk : s.isMember g k = true) : ∃ whole, ((s.dropContrib g).lane k).mem = { (s.lane k).mem with
    contributing := (s.lane k).mem.contributing && !(s.contribFail k).isSome, whole := whole } := by
  obtain ⟨u, hu, hw⟩ := State.forLanes_turn (s := s) (l := k) (R := State.Bystander k) (f := fun l s => s.dropMember g l)
    .refl .trans fun m hm => .dropMember hm
  have hfail : u.contribFail k = s.contribFail k := State.contribFail_of hu.fixed (by rw [hu.lane]) (by rw [hu.lane])
  change ∃ whole, ((s.forLanes fun l s => s.dropMember g l).lane k).mem = _
  rw [hw.lane, State.dropMember, hu.isMember, hk, hu.lane, hfail, Bool.true_and]
  cases hc : (s.lane k).mem.contributing with
  | false =>
    rw [Bool.false_and, if_neg Bool.false_ne_true, hu.lane]
    exact ⟨(s.lane k).mem.whole, by rw [Bool.false_and, ← hc]⟩
  | true =>
    rw [Bool.true_and, Bool.true_and]
    cases hfs : (s.contribFail k).isSome with
    | false =>
      rw [if_neg Bool.false_ne_true, hu.lane]
      exact ⟨(s.lane k).mem.whole, by rw [Bool.not_false, ← hc]⟩
    | true =>
      rw [if_pos rfl, State.lane_modMem, hu.lane]
      exact ⟨_, rfl⟩

/-! ### What settling leaves -/

/-- The group items of a member that the settling of its group leaves. -/
def Member.core (M : Member) : Member := { M with greatestLag := 0, whole := false }

/-- From `s` to `t` a group settles: its leading sequence and its members' lags and flags stand, and with no open window the
greatest lags do. -/
structure State.Settles (g : GroupId) (s t : State) : Prop where
  leading : (t.group g).leading = (s.group g).leading
  core : ∀ k, (t.lane k).mem.core = (s.lane k).mem.core
  idle : (s.group g).win = none → (t.group g).win = none ∧ ∀ k, (t.lane k).mem.greatestLag = (s.lane k).mem.greatestLag

namespace State.Settles

theorem refl : State.Settles g s s := ⟨rfl, fun _ => rfl, fun h => ⟨h, fun _ => rfl⟩⟩

theorem trans (h : State.Settles g s t) (h' : State.Settles g t u) : State.Settles g s u := by
  refine ⟨h'.leading.trans h.leading, fun k => (h'.core k).trans (h.core k), fun hn => ?_⟩
  obtain ⟨hwin, hlags⟩ := h.idle hn
  obtain ⟨hwin', hlags'⟩ := h'.idle hwin
  exact ⟨hwin', fun k => (hlags' k).trans (hlags k)⟩

theorem clearWholes : State.Settles g s (s.clearWholes g) := by
  have hgroup : (s.clearWholes g).group g = s.group g := by rw [State.group, State.groups_clearWholes, State.group]
  refine ⟨by rw [hgroup], fun k => ?_, fun h => ⟨by rw [hgroup]; exact h, fun k => ?_⟩⟩
  all_goals
    rw [State.clearWholes_lane]
    split <;> rfl

theorem retirePassed : State.Settles g s (s.retirePassed g) := by
  by_cases hc : s.contributors g = []
  · rw [State.retirePassed_of_none hc]
    exact refl
  · rw [State.retirePassed_of_some hc]
    have hgroup := State.group_modGroup s g g fun gr => gr.retire fun e => (s.contributors g).all fun l => s.passedEntry l e
    rw [if_pos rfl] at hgroup
    exact ⟨by rw [hgroup]; rfl, fun _ => rfl, fun h => ⟨by rw [hgroup]; exact Group.retire_win_none _ h, fun _ => rfl⟩⟩

theorem core_openGroup (spec : WinSpec) (rep notices : Bool) (z : Option FrameSeq) (o : Int) (k : LaneNo) :
    ((s.openGroup g spec rep notices z o).lane k).mem.core = (s.lane k).mem.core := by
  unfold State.openGroup
  refine ite_keeps_of (P := fun t => (t.lane k).mem.core = (s.lane k).mem.core) (fun h => (clearWholes.core k).trans h) ?_
  refine State.forLanes_keeps (P := fun t => (t.lane k).mem.core = (s.lane k).mem.core) (fun {t} m h => ?_) rfl
  refine ite_keeps (P := fun t => (t.lane k).mem.core = (s.lane k).mem.core) (fun _ => ?_) fun _ => h
  rw [State.mem_modMem]
  split
  · exact h
  · exact h

theorem closeGroup (r : CloseReason) : State.Settles g s (s.closeGroup g r) := by
  cases hw : (s.group g).win with
  | none =>
    rw [State.closeGroup_of_none hw]
    exact refl
  | some w =>
    have hlead : ((s.groupFiled g w r).group g).leading = (s.group g).leading :=
      (congrArg Group.leading (State.groupFiled_bare (s := s) (g := g) w r) :)
    have hcore : ∀ k, ((s.groupFiled g w r).lane k).mem.core = (s.lane k).mem.core := fun k =>
      congrArg Member.core (State.mem_fileRecord ..)
    refine ⟨?_, fun k => ?_, fun h => (nomatch hw.symm.trans h)⟩
    · rw [State.closeGroup_of_open hw]
      split
      · rw [State.group_openGroup]
        exact hlead
      · exact hlead
    · rw [State.closeGroup_of_open hw]
      split
      · exact (core_openGroup ..).trans (hcore k)
      · exact hcore k

theorem closeDue (n : Nat) : ∀ {s : State}, State.Settles g s (s.closeDue g n) := by
  induction n with
  | zero => exact refl
  | succ n ih => exact fun {s} => ite_keeps (P := fun t => State.Settles g s t) (fun _ => (closeGroup .length).trans ih) fun _ => refl

theorem settleGroup : State.Settles g s (s.settleGroup g) := by
  rw [State.settleGroup_eq]
  exact retirePassed.trans (closeDue _)

end State.Settles

/-! ### The group event of a boundary -/

/-- The group once the boundary of a frame is noted and the contributing flags are judged. -/
def State.boundaryJudged (s : State) (g : GroupId) (l : LaneNo) (q : FrameSeq) : State :=
  (((s.recompute g).markReported g l q).startContrib l).dropContrib g

theorem State.groupEvent_boundary_eq : s.groupEvent g (some (l, q)) =
    (if !(s.group g).live && ((s.boundaryJudged g l q).group g).live then (s.boundaryJudged g l q).clearWholes g
      else s.boundaryJudged g l q).settleGroup g := rfl

theorem State.settles_boundary : State.Settles g (s.boundaryJudged g l q) (s.groupEvent g (some (l, q))) := by
  rw [State.groupEvent_boundary_eq]
  exact (ite_keeps (P := fun t => State.Settles g (s.boundaryJudged g l q) t) (fun _ => .clearWholes) fun _ => .refl).trans .settleGroup

theorem State.markReported_facts : (s.markReported g l q).lanes = s.lanes ∧ (s.markReported g l q).fixed = s.fixed ∧
    ((s.markReported g l q).group g).leading = (s.group g).leading ∧
    ((s.group g).win = none → ((s.markReported g l q).group g).win = none) := by
  unfold State.markReported
  rw [State.group_modGroup, if_pos rfl]
  refine ⟨rfl, rfl, rfl, fun h => ?_⟩
  rw [h]

/-- The group items of the lanes as the contributing flags are judged: the boundary's own lane may begin to contribute. -/
theorem State.boundaryJudged_mem (hk : s.isMember g k = true) : ∃ whole, ((s.boundaryJudged g l q).lane k).mem =
    { ((s.recompute g).lane k).mem with
      contributing := (decide (k = l) || ((s.recompute g).lane k).mem.contributing) && !((s.recompute g).contribFail k).isSome
      whole := whole } := by
  obtain ⟨hlanes, hfix, -, -⟩ := State.markReported_facts (s := s.recompute g) (g := g) (l := l) (q := q)
  have hfixr : (s.recompute g).fixed = s.fixed := State.recompute_fixed ..
  unfold State.boundaryJudged
  generalize s.recompute g = r at hlanes hfix hfixr ⊢
  have hlane : ∀ m, (r.markReported g l q).lane m = r.lane m := fun m => by rw [State.lane, hlanes, State.lane]
  have hfail : ∀ m, (r.markReported g l q).contribFail m = r.contribFail m := fun m =>
    State.contribFail_of hfix (by rw [hlane]) (by rw [hlane])
  generalize r.markReported g l q = w at hlane hfix hfail
  have hstart : ((w.startContrib l).lane k).mem = { (r.lane k).mem with
      contributing := (r.lane k).mem.contributing || (decide (k = l) && !(r.contribFail k).isSome) } := by
    unfold State.startContrib
    rw [hfail, ← Option.not_isSome]
    by_cases hkl : k = l
    · subst hkl
      rw [decide_eq_true rfl, Bool.true_and]
      cases (r.contribFail k).isSome with
      | false =>
        rw [Bool.not_false, if_pos rfl, State.lane_modMem, hlane, Bool.or_true]
      | true =>
        rw [Bool.not_true, if_neg Bool.false_ne_true, hlane, Bool.or_false]
    · rw [decide_eq_false hkl, Bool.false_and, Bool.or_false]
      refine ite_keeps (P := fun t => (t.lane k).mem = (r.lane k).mem) (fun _ => ?_) fun _ => by rw [hlane]
      rw [State.mem_modMem, if_neg hkl, hlane]
  have hstill : ((w.startContrib l).lane k).still = (r.lane k).still := by
    refine (State.still_of_others (State.startContrib_others ..) k).trans ?_
    rw [hlane]
  have hfixs : (w.startContrib l).fixed = r.fixed := (State.startContrib_fixed ..).trans hfix
  have hfail' : (w.startContrib l).contribFail k = r.contribFail k := State.contribFail_of hfixs hstill (by rw [hstart])
  have hmember : (w.startContrib l).isMember g k = true :=
    (State.isMember_of_fixed (hfixs.trans hfixr) g k).trans hk
  obtain ⟨whole, hdrop⟩ := State.dropContrib_mem hmember
  refine ⟨whole, ?_⟩
  rw [hdrop, hstart, hfail']
  cases (r.contribFail k).isSome <;> simp [Bool.or_comm]

end Sys2Proof.Machine
end

section
/-! A good marker of an ALIGNED member, from its arrival through its group's event to the end of its step. -/

namespace Sys2Proof.Machine

variable {s t u v : State} {l k m : LaneNo} {g : GroupId} {q x : FrameSeq} {b : Block} {mk : Marker}

/-! ### The group as the boundary is judged -/

theorem State.groups_dropContrib : (s.dropContrib g).groups = s.groups :=
  State.groups_forLanes (f := fun l s => s.dropMember g l) fun _ t =>
    ite_keeps (P := fun u => u.groups = t.groups) (fun _ => rfl) fun _ => rfl

theorem State.groups_startContrib : (s.startContrib l).groups = s.groups :=
  ite_keeps (P := fun t => t.groups = s.groups) (fun _ => rfl) fun _ => rfl

theorem State.boundaryJudged_group (hv : s.leadingOf g = some x) : ((s.boundaryJudged g l q).group g).leading = some x ∧
    ((s.group g).win = none → ((s.boundaryJudged g l q).group g).win = none) := by
  obtain ⟨-, -, hlead, hwin⟩ := State.markReported_facts (s := s.recompute g) (g := g) (l := l) (q := q)
  have hgroups : (s.boundaryJudged g l q).groups = ((s.recompute g).markReported g l q).groups := State.groups_dropContrib.trans State.groups_startContrib
  have hrec : (s.recompute g).group g = (s.group g).setLeading x := State.group_recompute.trans (State.group_led hv)
  rw [State.group, hgroups]
  refine ⟨hlead.trans ?_, fun h => hwin ?_⟩
  · rw [hrec, Group.setLeading_leading]
  · rw [hrec]
    exact Group.setLeading_none h

/-- R65 to R67: an ALIGNED member after the event of a boundary of lane `l`. -/
theorem State.groupEvent_aligned (hk : s.isMember g k = true) (ha : s.aligned k = true) (hv : s.leadingOf g = some x) :
    ((s.groupEvent g (some (l, q))).lane k).mem.lag = some (x - (s.lane k).al.seq).toNat ∧
    ((s.groupEvent g (some (l, q))).lane k).mem.skew = decide (3 ≤ (x - (s.lane k).al.seq).toNat) ∧
    ((s.group g).win = none → ((s.groupEvent g (some (l, q))).lane k).mem.greatestLag =
      max (s.lane k).mem.greatestLag (x - (s.lane k).al.seq).toNat) ∧
    (((s.groupEvent g (some (l, q))).lane k).mem.contributing = true ↔ (k = l ∨ (s.lane k).mem.contributing = true) ∧
      (s.lane k).ck.state = .locked ∧ s.counting k = true ∧ (x - (s.lane k).al.seq).toNat ≤ 2) := by
  obtain ⟨whole, hmem⟩ := State.boundaryJudged_mem (l := l) (q := q) hk
  have hsettle := State.settles_boundary (s := s) (g := g) (l := l) (q := q)
  have hcore := hsettle.core k
  rw [hmem] at hcore
  have hlagged := State.recompute_mem hk ha hv
  have hstill : ((s.recompute g).lane k).still = (s.lane k).still := State.still_of_others (State.recompute_others ..) k
  have hfix : (s.recompute g).fixed = s.fixed := State.recompute_fixed ..
  have hfail : ((s.recompute g).contribFail k).isSome = false ↔
      (s.lane k).ck.state = .locked ∧ s.counting k = true ∧ (x - (s.lane k).al.seq).toNat ≤ 2 := by
    have hal : (s.recompute g).aligned k = true := by
      rw [State.aligned, show ((s.recompute g).lane k).al = (s.lane k).al from (congrArg Lane.al hstill :)]
      exact ha
    have hcount : (s.recompute g).counting k = s.counting k := by
      unfold State.counting
      rw [show ((s.recompute g).lane k).hold = (s.lane k).hold from (congrArg Lane.hold hstill :), State.desc_of_fixed hfix]
    rw [State.contribFail_none, hcount, show ((s.recompute g).lane k).ck = (s.lane k).ck from (congrArg Lane.ck hstill :), hlagged]
    refine (and_iff_right hal).trans (and_congr_right fun _ => and_congr_right fun _ => decide_eq_false_iff_not.trans ?_)
    omega
  rw [hlagged] at hcore
  refine ⟨(congrArg Member.lag hcore :), (congrArg Member.skew hcore :), fun hn => ?_, ?_⟩
  · refine ((hsettle.idle ((State.boundaryJudged_group hv).2 hn)).2 k).trans ?_
    rw [hmem, hlagged]
    rfl
  · rw [show ((s.groupEvent g (some (l, q))).lane k).mem.contributing = _ from (congrArg Member.contributing hcore :)]
    change (decide (k = l) || (s.lane k).mem.contributing) && !((s.recompute g).contribFail k).isSome ↔ _
    rw [Bool.and_eq_true, Bool.or_eq_true, decide_eq_true_iff, Bool.not_eq_true', hfail]

/-- R67, R65: a member that is not ALIGNED, after the event of a boundary of another lane. -/
theorem State.groupEvent_unaligned (hk : s.isMember g k = true) (ha : s.aligned k = false) :
    ((s.groupEvent g (some (l, q))).lane k).mem.lag = none ∧ ((s.groupEvent g (some (l, q))).lane k).mem.skew = false ∧
      ((s.groupEvent g (some (l, q))).lane k).mem.contributing = false := by
  obtain ⟨whole, hmem⟩ := State.boundaryJudged_mem (l := l) (q := q) hk
  have hcore := (State.settles_boundary (s := s) (g := g) (l := l) (q := q)).core k
  have hstill : ((s.recompute g).lane k).still = (s.lane k).still := State.still_of_others (State.recompute_others ..) k
  have hfail : ((s.recompute g).contribFail k).isSome = true := by
    have hal : (s.recompute g).aligned k = false := by
      rw [State.aligned, show ((s.recompute g).lane k).al = (s.lane k).al from (congrArg Lane.al hstill :)]
      exact ha
    rw [State.contribFail, hal]
    rfl
  rw [hmem, hfail, Bool.not_true, Bool.and_false, State.recompute_mem_unaligned hk ha] at hcore
  exact ⟨(congrArg Member.lag hcore :), (congrArg Member.skew hcore :), (congrArg Member.contributing hcore :)⟩

theorem State.groupEvent_leading (hv : s.leadingOf g = some x) : ((s.groupEvent g (some (l, q))).group g).leading = some x :=
  State.settles_boundary.leading.trans (State.boundaryJudged_group hv).1

theorem State.groupEvent_sends {base : List EgRec} (h : ∃ more, (s.recompute g).egress = base ++ more) :
    ∃ more, (s.groupEvent g (some (l, q))).egress = base ++ more := by
  have K := GroupKept.sends base
  rw [State.groupEvent_boundary_eq]
  have hjudged : ∃ more, (s.boundaryJudged g l q).egress = base ++ more := K.dropContrib g (K.startContrib l (K.markReported g l q h))
  exact K.settleGroup g (ite_keeps (P := fun t => ∃ more, t.egress = base ++ more) (fun _ => K.clearWholes g hjudged) fun _ => hjudged)

/-! ### A window that a boundary may close -/

/-- From `s` to `t` a window may close with its record: group items and groups stand, histories and record states apart. -/
structure State.Files (s t : State) : Prop where
  mem : ∀ k, (t.lane k).mem = (s.lane k).mem
  bare : ∀ g, t.groupBare g = s.groupBare g
  egress : t.egress.length ≤ s.egress.length + 1

theorem State.Files.of_ungrouped (h : s.Ungrouped t) (he : t.egress = s.egress) : s.Files t :=
  ⟨h.mem, fun g => by rw [State.groupBare, h.group, State.groupBare], by rw [he]; exact Nat.le_succ _⟩

theorem State.Files.before (h : t.Files u) (h0 : s.Ungrouped t) (he : t.egress = s.egress) : s.Files u := by
  refine ⟨fun k => (h.mem k).trans (h0.mem k), fun g => (h.bare g).trans ?_, he ▸ h.egress⟩
  rw [State.groupBare, h0.group, State.groupBare]

theorem State.Files.after (h : s.Files t) (h0 : t.Ungrouped u) (he : u.egress = t.egress) : s.Files u := by
  refine ⟨fun k => (h0.mem k).trans (h.mem k), fun g => Eq.trans ?_ (h.bare g), he ▸ h.egress⟩
  rw [State.groupBare, h0.group, State.groupBare]

theorem State.egress_fileRecord_le (r : WinRecord) (post note : Bool) :
    (s.fileRecord r post note).egress.length ≤ s.egress.length + 1 := by
  have hmod : (s.modHistory r.source fun h => appendHistory h r).egress = s.egress := by
    cases r.source <;> rfl
  unfold State.fileRecord
  have hpost : (if (post && decide (r.counts.bits ≠ 0)) = true then
      (s.modHistory r.source fun h => appendHistory h r).postJob r.source r.number r.serial r.counts.errors r.counts.bits
      else s.modHistory r.source fun h => appendHistory h r).egress = s.egress :=
    ite_keeps (P := fun t => t.egress = s.egress) (fun _ => (State.egress_postJob ..).trans hmod) fun _ => hmod
  exact ite_keeps (P := fun t => t.egress.length ≤ s.egress.length + 1)
    (fun _ => (State.egress_notify_le _).trans (by rw [hpost])) fun _ => by rw [hpost]; exact Nat.le_succ _

theorem State.files_closeWindow (hr : (s.lane l).ck.run = []) (r : CloseReason) : s.Files (s.closeWindow l r) := by
  cases ho : (s.lane l).win.isOpen with
  | false =>
    rw [State.closeWindow_of_closed ho]
    exact .of_ungrouped .refl rfl
  | true =>
    have hrel : s.released l r = s := by
      unfold State.released
      rw [State.releaseRun_of_nil hr, ite_self]
    have hfiled : s.Files (s.windowFiled l r) := by
      unfold State.windowFiled
      rw [hrel]
      have hrec : s.Files ({ s with serial := s.serial + 1 }.fileRecord (s.laneRecord l r) (r != CloseReason.restart) (s.desc l).notices) :=
        ⟨fun _ => State.mem_fileRecord .., fun _ => State.groupBare_fileRecord .., State.egress_fileRecord_le ..⟩
      exact hrec.after (.modWin _) rfl
    rw [State.closeWindow_of_open ho]
    exact ite_keeps (P := fun t => s.Files t) (fun _ => hfiled.after (.modWin _) rfl) fun _ => hfiled

theorem State.files_windowBoundary (hr : (s.lane l).ck.run = []) (q : FrameSeq) : s.Files (s.windowBoundary l q) := by
  have htags : s.Ungrouped (s.nextFrameTags l) := .modLane rfl rfl
  have hrun : ∀ f, (((s.nextFrameTags l).modWin l f).lane l).ck.run = [] := fun f => by
    rw [State.modWin, State.lane_modLane, if_pos rfl, State.nextFrameTags, State.lane_modLane, if_pos rfl]
    exact hr
  have htaken : ∀ {t : State}, s.Files t → s.Files (t.modWin l fun w => w.takeSeq q) := fun h => h.after (.modWin _) rfl
  have hbase : s.Files (s.nextFrameTags l) := .of_ungrouped htags rfl
  unfold State.windowBoundary
  refine ite_keeps (P := fun t => s.Files t) (fun _ => hbase) fun _ => ite_keeps (P := fun t => s.Files t) (fun _ => htaken hbase)
    fun _ => ite_keeps (P := fun t => s.Files t) (fun _ => ?_) fun _ => htaken (.of_ungrouped (htags.trans (.modWin _)) rfl)
  exact (State.files_closeWindow (hrun _) .length).before (htags.trans (.modWin _)) rfl

/-! ### The marker before its boundary -/

theorem State.beforeGood_ungrouped : s.Ungrouped (s.beforeGood l mk) ∧ (s.beforeGood l mk).egress = s.egress := by
  have hal : s.Ungrouped (s.modAl l fun a => { a with pos := 0, miss := 0, seq := mk.seq }) := .modAl _
  refine ⟨ite_keeps_of (P := fun t => s.Ungrouped t) (fun h => h.trans (.trans .markerError (.markerErrorEntry _))) hal, ?_⟩
  refine ite_keeps_of (P := fun t => t.egress = s.egress) (fun h => ?_) rfl
  exact ite_keeps_of (P := fun t => t.egress = s.egress) (fun h => (State.egress_offerEvent ..).trans h)
    (ite_keeps (P := fun t => t.egress = s.egress) (fun _ => rfl) fun _ => rfl)

theorem State.leadingOf_of (hf : t.fixed = s.fixed) (hst : ∀ k, (t.lane k).al.state = (s.lane k).al.state)
    (hseq : ∀ k, (t.lane k).al.seq = (s.lane k).al.seq) (g : GroupId) : t.leadingOf g = s.leadingOf g := by
  have hms : t.alignedMembers g = s.alignedMembers g := by
    unfold State.alignedMembers
    refine List.filter_congr fun k _ => ?_
    rw [State.isMember_of_fixed hf, State.aligned, hst, State.aligned]
  unfold State.leadingOf
  rw [hms]
  simp only [hseq]

/-- What a member's lane is as the boundary of lane `l`'s good marker reaches the group. -/
structure State.AtBoundary (l : LaneNo) (q : FrameSeq) (s t : State) : Prop where
  fixed : t.fixed = s.fixed
  state : ∀ k, (t.lane k).al.state = (s.lane k).al.state
  seq : ∀ k, (t.lane k).al.seq = if k = l then q else (s.lane k).al.seq
  ck : ∀ k, (t.lane k).ck.state = (s.lane k).ck.state
  hold : ∀ k, (t.lane k).hold = (s.lane k).hold
  holdReq : ∀ k, (t.lane k).holdReq = (s.lane k).holdReq
  armed : (t.lane l).armed = (s.lane l).armed
  files : s.Files t

theorem State.atBoundary (hf : s.rxFramed l = true) (hrun : (s.lane l).ck.run = []) (mk : Marker) :
    State.AtBoundary l mk.seq s ((s.beforeGood l mk).windowBoundary l mk.seq) := by
  obtain ⟨X, hX, hpX⟩ := s.beforeGood_as l mk
  obtain ⟨Y, hY, hpY⟩ := hX.frameBoundary hf mk.seq
  obtain ⟨hside, heg⟩ := State.beforeGood_ungrouped (s := s) (l := l) (mk := mk)
  have hXrun := (hpX.calm hrun).1
  have hfiles := State.files_windowBoundary (s := s.beforeGood l mk) (l := l) (by rw [hX.ck]; exact hXrun) mk.seq
  have hbare : Y.bare = _ := (hpY.bare.trans (show X.reframed.bare = X.bare from rfl)).trans hpX.bare
  have hstill : (((s.beforeGood l mk).windowBoundary l mk.seq).lane l).still = Y.still :=
    (State.still_of_others (State.groupBoundary_others ..) l).symm.trans hY.stands
  have hothers : ∀ k, k ≠ l → (((s.beforeGood l mk).windowBoundary l mk.seq).lane k).still = (s.lane k).still := fun k hk =>
    ((State.others_iff _ _ _).mp (State.windowBoundary_others ..) k hk).trans
      ((State.others_iff _ _ _).mp (s.beforeGood_awaits l mk).around.others k hk)
  obtain ⟨-, harmX, hreqX, -⟩ := hpX.calm hrun
  obtain ⟨-, harmY, hreqY, -⟩ := hpY.calm hXrun
  have hfixed : ((s.beforeGood l mk).windowBoundary l mk.seq).fixed = s.fixed := (State.windowBoundary_fixed ..).trans hX.fixed
  generalize (s.beforeGood l mk).windowBoundary l mk.seq = t at hfiles hstill hothers hfixed ⊢
  have lanewise : ∀ {α : Type} (f : Lane → α), (∀ {L M : Lane}, L.still = M.still → f L = f M) → f Y = f (s.lane l) →
      ∀ k, f (t.lane k) = f (s.lane k) := fun f hf hY k => by
    by_cases hk : k = l
    · rw [hk, hf hstill, hY]
    · exact hf (hothers k hk)
  refine ⟨hfixed, lanewise (fun L => L.al.state) (fun h => (congrArg (fun L : Lane => L.al.state) h :))
      (congrArg (fun L : Lane => L.al.state) hbare :), fun k => ?_,
    lanewise (fun L => L.ck.state) (fun h => (congrArg (fun L : Lane => L.ck.state) h :)) (congrArg (fun L : Lane => L.ck.state) hbare :),
    lanewise Lane.hold (fun h => (congrArg Lane.hold h :)) (congrArg Lane.hold hbare :),
    lanewise Lane.holdReq (fun h => (congrArg Lane.holdReq h :)) (hreqY.trans hreqX),
    (congrArg Lane.armed hstill :).trans (harmY.trans harmX), hfiles.before hside heg⟩
  by_cases hk : k = l
  · rw [hk, if_pos rfl]
    exact (congrArg (fun L : Lane => L.al.seq) hstill :).trans (congrArg (fun L : Lane => L.al.seq) hbare :)
  · rw [if_neg hk]
    exact (congrArg (fun L : Lane => L.al.seq) (hothers k hk) :)

/-! ### The marker after its boundary -/

theorem State.takeChannelFields_sends (l : LaneNo) (mk : Marker) {base : List EgRec} (h : ∃ more, s.egress = base ++ more) :
    ∃ more, (s.takeChannelFields l mk).egress = base ++ more := by
  have K := GroupKept.sends base
  have joins : ∀ {t : State} (r : PeerRec), (∃ more, t.egress = base ++ more) → ∃ more, (t.joinOutbound r).egress = base ++ more :=
    fun {t} r h => ite_keeps (P := fun u => ∃ more, u.egress = base ++ more) (fun _ => h) fun _ => h
  have inbound : ∀ {t : State} (r : PeerRec), (∃ more, t.egress = base ++ more) → ∃ more, (t.inboundRecord r).egress = base ++ more :=
    fun {t} r h => ite_keeps (P := fun u => ∃ more, u.egress = base ++ more) (fun _ =>
      ite_keeps (P := fun u => ∃ more, u.egress = base ++ more) (fun _ =>
        ite_keeps (P := fun u => ∃ more, u.egress = base ++ more) (fun _ => h) fun _ => joins _ h) fun _ => joins _ h)
      fun _ => ite_keeps (P := fun u => ∃ more, u.egress = base ++ more) (fun _ => h) fun _ => K.notify _ h
  have completes : ∀ {t : State} (os : List Octet), (∃ more, t.egress = base ++ more) →
      ∃ more, (t.completeRecord os).egress = base ++ more := fun {t} os h =>
    ite_keeps (P := fun u => ∃ more, u.egress = base ++ more) (fun _ => inbound _ h) fun _ => K.notify _ h
  have assembles : ∀ {t : State} (o : Octet) (e : Bool), (∃ more, t.egress = base ++ more) →
      ∃ more, (t.assemble o e).egress = base ++ more := fun {t} o e h =>
    ite_keeps (P := fun u => ∃ more, u.egress = base ++ more)
      (fun _ => ite_keeps (P := fun u => ∃ more, u.egress = base ++ more) (fun _ => h) fun _ => h) fun _ =>
      ite_keeps (P := fun u => ∃ more, u.egress = base ++ more)
        (fun _ => ite_keeps (P := fun u => ∃ more, u.egress = base ++ more) (fun _ => completes _ h) fun _ => K.notify _ h)
        fun _ => ite_keeps (P := fun u => ∃ more, u.egress = base ++ more) (fun _ => K.notify _ h) fun _ => h
  have hack : ∃ more, (s.ackOctet mk).egress = base ++ more :=
    ite_keeps (P := fun u => ∃ more, u.egress = base ++ more) (fun _ => h) fun _ => h
  refine ite_keeps (P := fun u => ∃ more, u.egress = base ++ more) (fun _ => ?_) fun _ => h
  exact ite_keeps (P := fun u => ∃ more, u.egress = base ++ more)
    (fun _ => ite_keeps (P := fun u => ∃ more, u.egress = base ++ more) (fun _ => assembles _ _ hack) fun _ => hack)
    fun _ => ite_keeps (P := fun u => ∃ more, u.egress = base ++ more) (fun _ => assembles _ _ hack) fun _ => hack

/-- R15: after its boundary a marker with the lane's own id leaves the groups of an unarmed lane, and only adds notices. -/
theorem State.takeMarker_ungrouped (hid : mk.id = (s.map l).rxId) (harm : (s.lane l).armed = false) :
    s.Ungrouped (s.takeMarker l mk) ∧ (∃ more, (s.takeMarker l mk).egress = s.egress ++ more) ∧
      ((s.takeMarker l mk).lane l).hold = (s.lane l).hold := by
  have hidm : s.Ungrouped (s.modLane l fun L => { L with idm := none }) := .modLane rfl rfl
  have hfire : (s.modLane l fun L => { L with idm := none }).fireFrameSeq l mk.seq = s.modLane l fun L => { L with idm := none } := by
    have has := (State.As.refl (s := s) (l := l)).modLane (f := fun L => { L with idm := none })
    unfold State.fireFrameSeq
    rw [has.trigJudged, State.judges_of_unarmed (by exact harm), Bool.false_and, if_neg Bool.false_ne_true]
  unfold State.takeMarker
  dsimp only
  rw [State.identity, if_pos hid, hfire]
  have hfar : s.Ungrouped ((s.modLane l fun L => { L with idm := none }).modAl l fun a => { a with far := .known mk.lock mk.alarm }) :=
    hidm.trans (.modAl _)
  have has := (((State.As.refl (s := s) (l := l)).modLane (f := fun L => { L with idm := none })).modAl fun a => { a with
    far := .known mk.lock mk.alarm }).takePhase mk.phase
  have heg : (((s.modLane l fun L => { L with idm := none }).modAl l fun a => { a with far := .known mk.lock mk.alarm }).takePhase l
      mk.phase).egress = s.egress := ite_keeps (P := fun t => t.egress = s.egress) (fun _ => rfl) fun _ => rfl
  have hphase := hfar.trans (.takePhase (l := l) mk.phase)
  generalize ((s.modLane l fun L => { L with idm := none }).modAl l fun a => { a with far := .known mk.lock mk.alarm }).takePhase l
    mk.phase = w at has heg hphase
  refine ⟨hphase.trans (.channels (.takeChannelFields l mk)), State.takeChannelFields_sends l mk ⟨[], ?_⟩, ?_⟩
  · rw [List.append_nil, heg]
  · rw [(State.Channels.takeChannelFields l mk).lane, has.hold]
    rfl

/-- R14, R15, R66: a good marker of an ALIGNED member with its own id, from its group's event to the end of the step. -/
theorem State.exec_marker (hg : s.memberOf l = some g) (hf : s.rxFramed l = true) (hal : (s.lane l).al.state = .aligned)
    (hp : 127 ≤ (s.lane l).al.pos) (hgood : goodMarker b = true) (hid : (readMarker b).id = (s.map l).rxId)
    (hrun : (s.lane l).ck.run = []) (harm : (s.lane l).armed = false) (hhold : (s.lane l).hold ≠ .stepping)
    (hs : s.holdsSettled = true) : ∃ w t, State.AtBoundary l (readMarker b).seq s w ∧ exec (.receiveBlock l b) s = .next t ∧
      (w.groupEvent g (some (l, (readMarker b).seq))).Ungrouped t ∧
      ∃ more, t.egress = (w.groupEvent g (some (l, (readMarker b).seq))).egress ++ more := by
  have hw := State.atBoundary hf hrun (readMarker b)
  have heq : s.receive l b = _ := State.receive_good hf hal hp hgood
  unfold State.acceptMarker State.frameBoundary at heq
  generalize (s.beforeGood l (readMarker b)).windowBoundary l (readMarker b).seq = w at hw heq
  have hgroup : w.groupBoundary l (readMarker b).seq = w.groupEvent g (some (l, (readMarker b).seq)) := by
    unfold State.groupBoundary
    rw [(State.memberOf_of_fixed hw.fixed l).trans hg]
  have hfix : (w.groupEvent g (some (l, (readMarker b).seq))).fixed = s.fixed := (State.groupEvent_fixed ..).trans hw.fixed
  have hstill : ∀ k, ((w.groupEvent g (some (l, (readMarker b).seq))).lane k).still = (w.lane k).still := fun k =>
    State.still_of_others (State.groupEvent_others ..) k
  rw [hgroup] at heq
  generalize he : w.groupEvent g (some (l, (readMarker b).seq)) = e at heq hfix hstill
  obtain ⟨hside, hsent, hend⟩ := State.takeMarker_ungrouped (s := e) (l := l) (mk := readMarker b)
    (by rw [State.map_of_fixed hfix]; exact hid) ((congrArg Lane.armed (hstill l) :).trans (hw.armed.trans harm))
  have hstep : (e.takeMarker l (readMarker b)).endStep l (some (readMarker b).seq) = e.takeMarker l (readMarker b) := by
    have hkeep : ((e.takeMarker l (readMarker b)).lane l).hold ≠ .stepping := by
      rw [hend, show (e.lane l).hold = (w.lane l).hold from (congrArg Lane.hold (hstill l) :), hw.hold]
      exact hhold
    unfold State.endStep
    exact if_neg (by simpa using hkeep)
  have hsettled : (e.takeMarker l (readMarker b)).holdsSettled = true := by
    refine hside.holdsSettled (List.all_eq_true.mpr fun k _ => ?_)
    rw [show (e.lane k).holdReq = (w.lane k).holdReq from (congrArg Lane.holdReq (hstill k) :), hw.holdReq,
      State.holdReq_of_settled hs]
    rfl
  refine ⟨w, e.takeMarker l (readMarker b), hw, ?_, he ▸ hside, he ▸ hsent⟩
  rw [exec_receiveBlock, heq, hstep, State.settleHolds_of_settled hsettled]

end Sys2Proof.Machine
end

section
/-! The group aligner's obligation. -/

namespace Sys2Proof.Machine

variable {s t u v w : State} {l k m : LaneNo} {g : GroupId} {q x : FrameSeq} {b : Block}

theorem State.AtBoundary.mem (h : State.AtBoundary l q s w) (k : LaneNo) : (w.lane k).mem = (s.lane k).mem := h.files.mem k

theorem State.AtBoundary.isMember (h : State.AtBoundary l q s w) (g : GroupId) (k : LaneNo) : w.isMember g k = s.isMember g k :=
  State.isMember_of_fixed h.fixed g k

theorem State.AtBoundary.aligned (h : State.AtBoundary l q s w) (k : LaneNo) : w.aligned k = s.aligned k := by
  rw [State.aligned, h.state, State.aligned]

theorem State.AtBoundary.counting (h : State.AtBoundary l q s w) (k : LaneNo) : w.counting k = s.counting k := by
  unfold State.counting
  rw [h.hold, State.desc_of_fixed h.fixed]

theorem State.AtBoundary.win_none (h : State.AtBoundary l q s w) (hn : (s.group g).win = none) : (w.group g).win = none :=
  (congrArg Group.win (h.files.bare g) :).trans hn

/-- The part whose lane `l` has taken the sequence `q` leads as the part does at the boundary. -/
def State.sequenced (s : State) (l : LaneNo) (q : FrameSeq) : State :=
  s.putLane l { s.lane l with al := { (s.lane l).al with seq := q } }

theorem State.lane_sequenced (k : LaneNo) : (s.sequenced l q).lane k =
    if k = l then { s.lane l with al := { (s.lane l).al with seq := q } } else s.lane k :=
  Eight.get_set ..

theorem State.AtBoundary.seq_sequenced (h : State.AtBoundary l q s w) (k : LaneNo) :
    (w.lane k).al.seq = ((s.sequenced l q).lane k).al.seq := by
  rw [h.seq, State.lane_sequenced]
  split <;> rfl

theorem State.AtBoundary.leadingOf (h : State.AtBoundary l q s w) (g : GroupId) : w.leadingOf g = (s.sequenced l q).leadingOf g := by
  refine State.leadingOf_of (s := s.sequenced l q) h.fixed (fun k => ?_) h.seq_sequenced g
  rw [h.state, State.lane_sequenced]
  split
  · next e => rw [e]
  · rfl

/-- R14, R65 to R67: the members of a group after a frame boundary of one of them. -/
theorem State.members_after_boundary (hg : s.memberOf l = some g) (hf : s.rxFramed l = true) (hal : (s.lane l).al.state = .aligned)
    (hp : 127 ≤ (s.lane l).al.pos) (hgood : goodMarker b = true) (hid : (readMarker b).id = (s.map l).rxId)
    (hrun : (s.lane l).ck.run = []) (harm : (s.lane l).armed = false) (hhold : (s.lane l).hold ≠ .stepping)
    (hs : s.holdsSettled = true) (hu : u = s.sequenced l (readMarker b).seq) (hx : u.leadingOf g = some x) :
    ∃ t : State, exec (.receiveBlock l b) s = .next t ∧ (t.group g).leading = some x ∧
      (∀ k, s.isMember g k = true → s.aligned k = true →
        (t.lane k).mem.lag = some (x - (u.lane k).al.seq).toNat ∧
        (t.lane k).mem.skew = decide (3 ≤ (x - (u.lane k).al.seq).toNat) ∧
        ((s.group g).win = none →
          (t.lane k).mem.greatestLag = max (s.lane k).mem.greatestLag (x - (u.lane k).al.seq).toNat) ∧
        (3 ≤ (x - (u.lane k).al.seq).toNat → (s.lane k).mem.skew = false → s.egress.length ≤ 3 →
          noticeRec (.skewExcess g k (x - (u.lane k).al.seq).toNat x s.tick) ∈ t.egress) ∧
        ((t.lane k).mem.contributing = true ↔ (k = l ∨ (s.lane k).mem.contributing = true) ∧
          (s.lane k).ck.state = .locked ∧ s.counting k = true ∧ (x - (u.lane k).al.seq).toNat ≤ 2)) ∧
      (∀ k, s.isMember g k = true → s.aligned k = false →
        (t.lane k).mem.lag = none ∧ (t.lane k).mem.skew = false ∧ (t.lane k).mem.contributing = false) := by
  obtain ⟨w, t, hw, he, hside, more, hsent⟩ := State.exec_marker hg hf hal hp hgood hid hrun harm hhold hs
  subst hu
  have hlead : w.leadingOf g = some x := (hw.leadingOf g).trans hx
  refine ⟨t, he, ?_, fun k hk ha => ?_, fun k hk ha => ?_⟩
  · rw [hside.group]
    exact State.groupEvent_leading hlead
  · obtain ⟨hlag, hskew, hgreatest, hcontrib⟩ := State.groupEvent_aligned (l := l) (q := (readMarker b).seq)
      ((hw.isMember g k).trans hk) ((hw.aligned k).trans ha) hlead
    rw [hw.seq_sequenced, ← hside.mem] at hlag hskew hcontrib
    rw [hw.seq_sequenced, ← hside.mem, hw.mem] at hgreatest
    rw [hw.mem, hw.ck, hw.counting] at hcontrib
    refine ⟨hlag, hskew, fun hn => hgreatest (hw.win_none hn), fun hd hno hroom => ?_, hcontrib⟩
    obtain ⟨front, back, hnotice⟩ := State.recompute_notice ((hw.isMember g k).trans hk) ((hw.aligned k).trans ha) hlead
      (by rw [hw.seq_sequenced]; exact hd) (by rw [hw.mem]; exact hno) (hw.files.egress.trans (Nat.succ_le_succ hroom))
    rw [hw.seq_sequenced, State.tick_of_fixed hw.fixed] at hnotice
    obtain ⟨later, hlater⟩ := State.groupEvent_sends (l := l) (q := (readMarker b).seq) ⟨[], hnotice.trans (List.append_nil _).symm⟩
    rw [hsent, hlater]
    exact List.mem_append_left _ (List.mem_append_left _ (List.mem_append_right _ (List.mem_cons_self ..)))
  · have h := State.groupEvent_unaligned (l := l) (q := (readMarker b).seq) ((hw.isMember g k).trans hk) ((hw.aligned k).trans ha)
    rw [← hside.mem] at h
    exact h

/-- Settles O51: the leading sequence and its move, the members after a boundary, a counted block, what retires, and the length
close. -/
theorem groupAlignerFollowsMembers : Obligations.GroupAlignerFollowsMembers := by
  refine ⟨fun s g => ⟨fun l => State.mem_alignedMembers, fun hnone => ?_, fun v htop hall => ?_, fun l hl hmin h => ?_, fun v hv => ?_,
    fun hnone => ?_⟩, fun gr b => ⟨gr.setLeading_leading b, fun h => ?_, fun a ha hab => Group.setLeading_ring_ahead ha hab,
    Group.setLeading_ring_anew, Group.setLeading_none, fun w hw hz => Group.setLeading_undetermined hw hz,
    fun w z a hw hz ha => Group.setLeading_open hw hz ha⟩, ?_, ?_, fun w q => ⟨GWin.inSpan_undetermined,
    fun z n hz hn => GWin.inSpan_frames hz hn, fun z hz hn => GWin.inSpan_open hz hn⟩, fun s g => ⟨State.retirePassed_ring, fun h => ?_,
    fun w gone hw => Group.retire_errored gone hw⟩, fun s g w hw => ⟨State.lengthDue_iff hw, State.settleGroup_lengthDue hw,
    fun z n hz hn h1 => ⟨State.closeGroup_length_record hw hz hn h1, State.closeGroup_length_once hw hz hn,
      State.closeGroup_length_again hw hz hn⟩⟩⟩
  · refine (State.leadingOf_of_no_top fun v hv => ?_).trans (by rw [hnone]; rfl)
    obtain ⟨i, hi, -⟩ := State.mem_topSeqs.mp hv
    rw [hnone] at hi
    exact (nomatch hi)
  · obtain ⟨i, hi, hiv, htop⟩ := htop
    refine State.leadingOf_of_top (State.mem_topSeqs.mpr ⟨i, hi, hiv, hiv.symm ▸ htop⟩) fun x hx => ?_
    obtain ⟨j, hj, hjx, htop'⟩ := State.mem_topSeqs.mp hx
    exact hjx.symm.trans (hall j hj htop')
  · exact State.leadingOf_smallest hl hmin h
  · exact State.group_recompute.trans (State.group_led hv)
  · exact State.group_recompute.trans (by rw [State.led_of_none hnone])
  · rw [Group.setLeading_same h]
    exact (Group.moveWindow_rest id).1
  · intro s u l b g v hg hf hal hp hgood hid hrun harm hhold hs hu hv
    exact State.members_after_boundary hg hf hal hp hgood hid hrun harm hhold hs hu hv
  · intro s l b g hg hf hal hp hst hc hrun harm hs hlight
    obtain ⟨t, he, ht⟩ := State.exec_member hf hal hp hst hc hrun harm hs hg hlight
    refine ⟨t, he, fun hno => ?_, fun hyes => ?_⟩
    · rw [ht, hno, if_neg Bool.false_ne_true]
    · rw [if_pos hyes] at ht
      rw [ht]
      exact ⟨Group.countBlock_ring .., fun h => Group.countBlock_none h .., fun w hw => Group.countBlock_win hw ..⟩
  · refine State.retirePassed_of_none (List.eq_nil_iff_forall_not_mem.mpr fun l hl => ?_)
    obtain ⟨hm, hc⟩ := State.mem_contributors.mp hl
    exact Bool.noConfusion (hc.symm.trans (h l hm))

end Sys2Proof.Machine
end
